-- ==== Sys2Proof/Word.lean ====
section
/-! DEFINITION. The number types of the LC-24: bytes and words as they travel in frames, and the
numbers by which bays, modules, exchanges and derate rows are named. Quantities the manual counts or
measures (watts, watt-hours, per-mille, seconds, degrees) are plain `Nat` or `Int`; only what travels
as bits is a bit vector. -/

namespace Sys2Proof

/-- One byte of a frame (R166). -/
abbrev Byte := BitVec 8

/-- A two-byte field of a payload, sent high byte first (R176). -/
abbrev Half := BitVec 16

/-- A four-byte field of a payload, sent high byte first (R176). -/
abbrev Word := BitVec 32

/-- A pack id, a 64-bit number (R2). -/
abbrev PackId := BitVec 64

/-- A set of profiles: 4 bits, bit n standing for Pn (R176). -/
abbrev AbilitySet := BitVec 4

/-- A bay, named from 0: the value `i` is the bay whose number is `i + 1` (R1: bays 1 to 24). -/
abbrev BayNo := Fin 24

/-- A module, named from 0: the value `i` is module `i + 1` (R4: modules 1 to 12). -/
abbrev ModNo := Fin 12

/-- An exchange, named from 0: the value `i` is exchange number `i + 1` (R111: 1 to 4). -/
abbrev ExNo := Fin 4

/-- A derate row, named from 0: the value `i` is row `i + 1` (R143: rows 1 to 8). -/
abbrev RowNo := Fin 8

/-- The largest kiosk time, and the largest value of the part's 32-bit counters (R41, R95, R154). -/
abbrev maxWord : Nat := 4294967295

end Sys2Proof
end

