-- ==== Sys2Proof/Syntax.lean ====
section
/-! DEFINITION. The commands of the LC-24, one constructor of `Instr` per row of the table of
operations and events, with the names and records they carry; and `Request`, the content of a request
frame without the port it came on. Named values stand in the order the manual lists them, which is
the order of their codes (R176). -/

namespace Sys2Proof

/-- The three serial ports; the port fixes the controller's role (R166, introduction). -/
inductive Port where
  | terminal | gateway | cabinet
  deriving DecidableEq, Repr

/-- Door as reported (R1). -/
inductive Door where
  | opened | closed
  deriving DecidableEq, Repr

/-- Latch as reported (R1). -/
inductive Latch where
  | locked | unlocked
  deriving DecidableEq, Repr

/-- Charging session state of a short report (R131). -/
inductive Session where
  | idle | active | refused
  deriving DecidableEq, Repr

/-- Health grade of a pack (R2). -/
inductive Health where
  | good | worn | retire
  deriving DecidableEq, Repr

/-- The four charge profiles, lowest first (introduction, Units and numbering). -/
inductive Profile where
  | p0 | p1 | p2 | p3
  deriving DecidableEq, Repr

/-- A node's short report (R131). SoC and temperature are as the node gives them, before the clamps
of R6. -/
structure ShortReport where
  door : Door
  latch : Latch
  /-- pack present -/
  sensed : Bool
  /-- insertion count, 0 to 15 -/
  count : BitVec 4
  /-- node-restart flag -/
  restart : Bool
  soc : Nat
  temp : Int
  session : Session
  packFault : Bool
  deriving DecidableEq, Repr

/-- The identity an IDENTIFY reply may carry (R23). -/
structure Identity where
  packId : PackId
  capacity : Nat
  abilities : AbilitySet
  health : Health
  deriving DecidableEq, Repr

/-- What an identification reply says: an identity, or that the pack could not be read (R23). -/
inductive Answer where
  | unreadable
  | identity (i : Identity)
  deriving DecidableEq, Repr

/-- The content of a request frame: the request and its payload fields as they stand in the payload
bytes (R176), before any check of their values. -/
inductive Request where
  | readStatus
  | fetchNotices
  | setAttention (threshold : Byte)
  | portClear
  | readBay (bays : List Byte)
  | setBayService (bay service : Byte)
  | setBayAbility (bay abilities : Byte)
  | restartBay (bay : Byte)
  | openBooking (tag : Half) (cls : Byte) (level : Half) (due : Word) (hold : Half) (first : Byte)
  | openWalkup (tag : Half) (cls : Byte) (level : Half)
  | amendBooking (tag : Half) (present : Byte) (due : Word) (hold level : Half) (cls : Byte)
  | cancelClaim (origin : Byte) (tag : Half)
  | readClaim (origin : Byte) (tag : Half)
  | listClaims (start : Byte)
  | reportFeed (watts : Word)
  | setModule (module : Byte) (limit : Half) (state : Byte)
  | haltCharging
  | resumeCharging
  | readGrants
  | beginSwap (origin : Byte) (tag : Half)
  | abortSwap (exchange origin : Byte) (tag : Half)
  | readExchange (exchange : Byte)
  | readLinkCounters
  | writeDerateRow (row bound pctS pctM pctL : Byte)
  | readDerateTable
  | clearBayFault (bay : Byte)
  | setTime (time : Word)
  | setKioskParams (present : Byte) (reserve : Word) (socBand feedBand horizon level fill : Half)
      (split downshift : Byte)
  | readKioskParams
  | addDirective (kind : Byte) (time value duration : Word)
  | clearDirectives (kind : Byte)
  | endWindows
  | readSchedule (list start : Byte)
  deriving DecidableEq, Repr

/-- The commands: every row of the table of operations and events. A request row is the arrival, on
port `p`, of the complete frame of that request (R167); the other rows are bytes on a line, replies
on the bay bus, and the running out of the part's own timers. -/
inductive Instr where
  /-- POWER_ON (R5): supply comes up. -/
  | powerOn
  /-- RX_BYTE (R166): a byte arrives on the port's RXD line. -/
  | rxByte (p : Port) (b : Byte)
  /-- INTER_BYTE_GAP (R166): more than 10 ms pass without a byte on the port's RXD line. -/
  | interByteGap (p : Port)
  /-- REPLY_TRANSMITTED (R167): the last byte of the port's reply has left on TXD. -/
  | replyTransmitted (p : Port)
  | readStatus (p : Port)
  | fetchNotices (p : Port)
  | setAttention (p : Port) (threshold : Byte)
  | portClear (p : Port)
  | readBay (p : Port) (bays : List Byte)
  | setBayService (p : Port) (bay service : Byte)
  | setBayAbility (p : Port) (bay abilities : Byte)
  | restartBay (p : Port) (bay : Byte)
  | openBooking (p : Port) (tag : Half) (cls : Byte) (level : Half) (due : Word) (hold : Half)
      (first : Byte)
  | openWalkup (p : Port) (tag : Half) (cls : Byte) (level : Half)
  | amendBooking (p : Port) (tag : Half) (present : Byte) (due : Word) (hold level : Half)
      (cls : Byte)
  | cancelClaim (p : Port) (origin : Byte) (tag : Half)
  | readClaim (p : Port) (origin : Byte) (tag : Half)
  | listClaims (p : Port) (start : Byte)
  | reportFeed (p : Port) (watts : Word)
  | setModule (p : Port) (module : Byte) (limit : Half) (state : Byte)
  | haltCharging (p : Port)
  | resumeCharging (p : Port)
  | readGrants (p : Port)
  | beginSwap (p : Port) (origin : Byte) (tag : Half)
  | abortSwap (p : Port) (exchange origin : Byte) (tag : Half)
  | readExchange (p : Port) (exchange : Byte)
  | readLinkCounters (p : Port)
  | writeDerateRow (p : Port) (row bound pctS pctM pctL : Byte)
  | readDerateTable (p : Port)
  | clearBayFault (p : Port) (bay : Byte)
  | setTime (p : Port) (time : Word)
  | setKioskParams (p : Port) (present : Byte) (reserve : Word)
      (socBand feedBand horizon level fill : Half) (split downshift : Byte)
  | readKioskParams (p : Port)
  | addDirective (p : Port) (kind : Byte) (time value duration : Word)
  | clearDirectives (p : Port) (kind : Byte)
  | endWindows (p : Port)
  | readSchedule (p : Port) (list start : Byte)
  /-- CLOCK_ADVANCE (R154): one second passes. -/
  | clockAdvance
  /-- FRAME_BOUNDARY (R96): a frame boundary falls. -/
  | frameBoundary
  /-- STALENESS_TIMEOUT (R106): the staleness timer runs out. -/
  | stalenessTimeout
  /-- INTAKE_OPEN_DEADLINE (R115): the exchange's phase deadline runs out in INTAKE-OPEN. -/
  | intakeOpenDeadline (x : ExNo)
  /-- INTAKE_CHECK_DEADLINE (R116): it runs out in INTAKE-CHECK. -/
  | intakeCheckDeadline (x : ExNo)
  /-- RETURN_REJECTED_DEADLINE (R118): it runs out in RETURN-REJECTED. -/
  | returnRejectedDeadline (x : ExNo)
  /-- TAKE_OPEN_DEADLINE (R119): it runs out in TAKE-OPEN. -/
  | takeOpenDeadline (x : ExNo)
  /-- TAKE_CLOSING_DEADLINE (R120): it runs out in TAKE-CLOSING. -/
  | takeClosingDeadline (x : ExNo)
  /-- BUS_DISPATCH (R136): the bay bus is idle and the arbiter chooses what goes next. -/
  | busDispatch
  /-- LOCK_ALL_SENT (R129): the broadcast has been sent and its empty answer period closes. -/
  | lockAllSent
  /-- BAY_REPLY (R132): words arrive from a node: whether they pass the reply's own check, the
  address they carry, the short report, and what an identification reply says of the pack (read only
  when the transaction in flight is an IDENTIFY). -/
  | bayReply (checkOk : Bool) (address : Byte) (report : ShortReport) (answer : Answer)
  /-- ANSWER_PERIOD_TIMEOUT (R129): 25 ms pass after the end of the request with no reply. -/
  | answerPeriodTimeout
  deriving DecidableEq, Repr

end Sys2Proof
end

