-- ==== Sys2Proof/Decode.lean ====
section
/-! DEFINITION. Frames: byte order, the frame check, the layouts by which a frame's CODE and payload
spell a request (R166, R168, R176), the encoder beside them, and `decodeTableWord`. The table of
operations gives its rows no bits, so no word spells a command by it; what the manual does give bits
is the request frame, and that is decoded here. -/

namespace Sys2Proof

/-- The refusals (R168), in the order of their codes. -/
inductive RefusalCode where
  | badLength | unknownRequest | notPermitted | badField | clockUnset | bookFull | duplicateTag
  | noSuchClaim | claimBusy | notReady | tooLate | exchangesFull | noVacantBay | bayBusy | clockStep
  | scheduleFull | walkupClosed | noSuchExchange | faultPresent
  deriving DecidableEq, Repr

/-- The refusal's code byte (R168). -/
def RefusalCode.byte : RefusalCode → Byte
  | .badLength => 0x01 | .unknownRequest => 0x02 | .notPermitted => 0x03 | .badField => 0x04
  | .clockUnset => 0x05 | .bookFull => 0x06 | .duplicateTag => 0x07 | .noSuchClaim => 0x08
  | .claimBusy => 0x09 | .notReady => 0x0A | .tooLate => 0x0B | .exchangesFull => 0x0C
  | .noVacantBay => 0x0D | .bayBusy => 0x0E | .clockStep => 0x0F | .scheduleFull => 0x10
  | .walkupClosed => 0x11 | .noSuchExchange => 0x12 | .faultPresent => 0x13

/-! ### Byte order: multi-byte numbers are sent high byte first (R176) -/

/-- Two bytes as one number, high byte first. -/
def be16 (hi lo : Byte) : Half := hi ++ lo

/-- Four bytes as one number, high byte first. -/
def be32 (b3 b2 b1 b0 : Byte) : Word := b3 ++ b2 ++ b1 ++ b0

/-- The low `n` bytes of a number, high byte first. -/
def beBytes : Nat → Nat → List Byte
  | 0, _ => []
  | n + 1, w => BitVec.ofNat 8 (w / 256 ^ n) :: beBytes n w

/-- The two bytes of a two-byte field. -/
def halfBytes (w : Half) : List Byte := [w.extractLsb' 8 8, w.extractLsb' 0 8]

/-- The four bytes of a four-byte field. -/
def wordBytes (w : Word) : List Byte :=
  [w.extractLsb' 24 8, w.extractLsb' 16 8, w.extractLsb' 8 8, w.extractLsb' 0 8]

/-! ### The frame check (R166): polynomial 0x1021, initial value 0xFFFF, most significant bit first,
no final inversion -/

/-- One bit of the division. -/
def crcBit (c : Half) : Half :=
  if c.msb then (c <<< 1) ^^^ 0x1021#16 else c <<< 1

/-- `n` bits of the division. -/
def crcBits : Nat → Half → Half
  | 0, c => c
  | n + 1, c => crcBits n (crcBit c)

/-- One byte taken into the remainder, most significant bit first. -/
def crcByte (c : Half) (b : Byte) : Half := crcBits 8 (c ^^^ be16 b 0)

/-- The frame check over LEN, CODE and the payload in the order received. -/
def crc16 (bytes : List Byte) : Half := bytes.foldl crcByte 0xFFFF#16

/-- SYNC (R166). -/
def syncByte : Byte := 0xD5

/-- The largest LEN (R166). -/
def maxLen : Nat := 96

/-- What follows SYNC in the frame of `code` and `payload`: LEN, CODE, payload, and the check high
byte first (R166). -/
def frameBody (code : Byte) (payload : List Byte) : List Byte :=
  let covered := BitVec.ofNat 8 payload.length :: code :: payload
  covered ++ halfBytes (crc16 covered)

/-- The whole frame of `code` and `payload` (R166, R176). -/
def frame (code : Byte) (payload : List Byte) : List Byte := syncByte :: frameBody code payload

/-! ### Request codes and payload layouts (R176) -/

/-- The request's CODE (R176, the request code list). -/
def Request.code : Request → Byte
  | .readStatus => 0x01 | .fetchNotices => 0x02 | .setAttention _ => 0x03 | .portClear => 0x04
  | .readBay _ => 0x10 | .setBayService _ _ => 0x11 | .setBayAbility _ _ => 0x18
  | .restartBay _ => 0x19 | .openBooking _ _ _ _ _ _ => 0x20 | .openWalkup _ _ _ => 0x21
  | .amendBooking _ _ _ _ _ _ => 0x22 | .cancelClaim _ _ => 0x23 | .readClaim _ _ => 0x24
  | .listClaims _ => 0x25 | .reportFeed _ => 0x30 | .setModule _ _ _ => 0x31
  | .haltCharging => 0x32 | .resumeCharging => 0x33 | .readGrants => 0x34 | .beginSwap _ _ => 0x40
  | .abortSwap _ _ _ => 0x41 | .readExchange _ => 0x42 | .readLinkCounters => 0x48
  | .writeDerateRow _ _ _ _ _ => 0x50 | .readDerateTable => 0x51 | .clearBayFault _ => 0x52
  | .setTime _ => 0x60 | .setKioskParams _ _ _ _ _ _ _ _ _ => 0x61 | .readKioskParams => 0x62
  | .addDirective _ _ _ _ => 0x63 | .clearDirectives _ => 0x64 | .endWindows => 0x65
  | .readSchedule _ _ => 0x66

/-- The request's payload (R176, request payloads). -/
def Request.payload : Request → List Byte
  | .setAttention t => [t]
  | .readBay bays => bays
  | .setBayService b v => [b, v]
  | .setBayAbility b a => [b, a]
  | .restartBay b => [b]
  | .openBooking tag c lv due hold fi =>
      halfBytes tag ++ c :: halfBytes lv ++ wordBytes due ++ halfBytes hold ++ [fi]
  | .openWalkup tag c lv => halfBytes tag ++ c :: halfBytes lv
  | .amendBooking tag pr due hold lv c =>
      halfBytes tag ++ pr :: wordBytes due ++ halfBytes hold ++ halfBytes lv ++ [c]
  | .cancelClaim o tag => o :: halfBytes tag
  | .readClaim o tag => o :: halfBytes tag
  | .listClaims st => [st]
  | .reportFeed w => wordBytes w
  | .setModule m l st => m :: halfBytes l ++ [st]
  | .beginSwap o tag => o :: halfBytes tag
  | .abortSwap x o tag => x :: o :: halfBytes tag
  | .readExchange x => [x]
  | .writeDerateRow r b s m l => [r, b, s, m, l]
  | .clearBayFault b => [b]
  | .setTime t => wordBytes t
  | .setKioskParams pr rs sb fb hz lv ft sp dc =>
      pr :: wordBytes rs ++ halfBytes sb ++ halfBytes fb ++ halfBytes hz ++ halfBytes lv
        ++ halfBytes ft ++ [sp, dc]
  | .addDirective k t v d => k :: wordBytes t ++ wordBytes v ++ wordBytes d
  | .clearDirectives k => [k]
  | .readSchedule l st => [l, st]
  | .readStatus | .fetchNotices | .portClear | .haltCharging | .resumeCharging | .readGrants
  | .readLinkCounters | .readDerateTable | .readKioskParams | .endWindows => []

/-- A request with no field accepts LEN 0 alone (R168). -/
def noField (r : Request) : List Byte → Except RefusalCode Request
  | [] => .ok r
  | _ => .error .badLength

/-- A request whose payload is one byte. -/
def oneByte (f : Byte → Request) : List Byte → Except RefusalCode Request
  | [a] => .ok (f a)
  | _ => .error .badLength

/-- A request whose payload is two one-byte fields. -/
def twoBytes (f : Byte → Byte → Request) : List Byte → Except RefusalCode Request
  | [a, b] => .ok (f a b)
  | _ => .error .badLength

/-- A request whose payload is an origin and a tag. -/
def originTag (f : Byte → Half → Request) : List Byte → Except RefusalCode Request
  | [o, t1, t0] => .ok (f o (be16 t1 t0))
  | _ => .error .badLength

/-- A request whose payload is one four-byte field. -/
def oneWord (f : Word → Request) : List Byte → Except RefusalCode Request
  | [a, b, c, d] => .ok (f (be32 a b c d))
  | _ => .error .badLength

/-- The request a complete frame spells, or the refusal of check 1 (code) or check 2 (length) of
R168. READ-BAY's length is its entry's (R19), which its owner checks. -/
def decodeRequest (code : Byte) (pl : List Byte) : Except RefusalCode Request :=
  match code.toNat with
  | 0x01 => noField .readStatus pl
  | 0x02 => noField .fetchNotices pl
  | 0x03 => oneByte .setAttention pl
  | 0x04 => noField .portClear pl
  | 0x10 => .ok (.readBay pl)
  | 0x11 => twoBytes .setBayService pl
  | 0x18 => twoBytes .setBayAbility pl
  | 0x19 => oneByte .restartBay pl
  | 0x20 =>
    match pl with
    | [t1, t0, c, l1, l0, d3, d2, d1, d0, h1, h0, fi] =>
        .ok (.openBooking (be16 t1 t0) c (be16 l1 l0) (be32 d3 d2 d1 d0) (be16 h1 h0) fi)
    | _ => .error .badLength
  | 0x21 =>
    match pl with
    | [t1, t0, c, l1, l0] => .ok (.openWalkup (be16 t1 t0) c (be16 l1 l0))
    | _ => .error .badLength
  | 0x22 =>
    match pl with
    | [t1, t0, pr, d3, d2, d1, d0, h1, h0, l1, l0, c] =>
        .ok (.amendBooking (be16 t1 t0) pr (be32 d3 d2 d1 d0) (be16 h1 h0) (be16 l1 l0) c)
    | _ => .error .badLength
  | 0x23 => originTag .cancelClaim pl
  | 0x24 => originTag .readClaim pl
  | 0x25 => oneByte .listClaims pl
  | 0x30 => oneWord .reportFeed pl
  | 0x31 =>
    match pl with
    | [m, l1, l0, st] => .ok (.setModule m (be16 l1 l0) st)
    | _ => .error .badLength
  | 0x32 => noField .haltCharging pl
  | 0x33 => noField .resumeCharging pl
  | 0x34 => noField .readGrants pl
  | 0x40 => originTag .beginSwap pl
  | 0x41 =>
    match pl with
    | [x, o, t1, t0] => .ok (.abortSwap x o (be16 t1 t0))
    | _ => .error .badLength
  | 0x42 => oneByte .readExchange pl
  | 0x48 => noField .readLinkCounters pl
  | 0x50 =>
    match pl with
    | [r, b, ps, pm, pL] => .ok (.writeDerateRow r b ps pm pL)
    | _ => .error .badLength
  | 0x51 => noField .readDerateTable pl
  | 0x52 => oneByte .clearBayFault pl
  | 0x60 => oneWord .setTime pl
  | 0x61 =>
    match pl with
    | [pr, r3, r2, r1, r0, s1, s0, f1, f0, h1, h0, l1, l0, t1, t0, sp, dc] =>
        .ok (.setKioskParams pr (be32 r3 r2 r1 r0) (be16 s1 s0) (be16 f1 f0) (be16 h1 h0)
          (be16 l1 l0) (be16 t1 t0) sp dc)
    | _ => .error .badLength
  | 0x62 => noField .readKioskParams pl
  | 0x63 =>
    match pl with
    | [k, t3, t2, t1, t0, v3, v2, v1, v0, d3, d2, d1, d0] =>
        .ok (.addDirective k (be32 t3 t2 t1 t0) (be32 v3 v2 v1 v0) (be32 d3 d2 d1 d0))
    | _ => .error .badLength
  | 0x64 => oneByte .clearDirectives pl
  | 0x65 => noField .endWindows pl
  | 0x66 => twoBytes .readSchedule pl
  | _ => .error .unknownRequest

/-- The command row that the arrival of request `r` on port `p` is. -/
def Request.onPort (p : Port) : Request → Instr
  | .readStatus => .readStatus p
  | .fetchNotices => .fetchNotices p
  | .setAttention t => .setAttention p t
  | .portClear => .portClear p
  | .readBay bays => .readBay p bays
  | .setBayService b v => .setBayService p b v
  | .setBayAbility b a => .setBayAbility p b a
  | .restartBay b => .restartBay p b
  | .openBooking tag c lv due hold fi => .openBooking p tag c lv due hold fi
  | .openWalkup tag c lv => .openWalkup p tag c lv
  | .amendBooking tag pr due hold lv c => .amendBooking p tag pr due hold lv c
  | .cancelClaim o tag => .cancelClaim p o tag
  | .readClaim o tag => .readClaim p o tag
  | .listClaims st => .listClaims p st
  | .reportFeed w => .reportFeed p w
  | .setModule m l st => .setModule p m l st
  | .haltCharging => .haltCharging p
  | .resumeCharging => .resumeCharging p
  | .readGrants => .readGrants p
  | .beginSwap o tag => .beginSwap p o tag
  | .abortSwap x o tag => .abortSwap p x o tag
  | .readExchange x => .readExchange p x
  | .readLinkCounters => .readLinkCounters p
  | .writeDerateRow r b ps pm pL => .writeDerateRow p r b ps pm pL
  | .readDerateTable => .readDerateTable p
  | .clearBayFault b => .clearBayFault p b
  | .setTime t => .setTime p t
  | .setKioskParams pr rs sb fb hz lv ft sp dc => .setKioskParams p pr rs sb fb hz lv ft sp dc
  | .readKioskParams => .readKioskParams p
  | .addDirective k t v d => .addDirective p k t v d
  | .clearDirectives k => .clearDirectives p k
  | .endWindows => .endWindows p
  | .readSchedule l st => .readSchedule p l st

/-- The command a word spells by the bits of the table of operations: no row of the table has any,
so no word spells one. -/
def decodeTableWord (_nbits _w : Nat) : Option Instr := none

end Sys2Proof
end

