-- ==== Sys2Proof/Config.lean ====
section
/-! DEFINITION. What the manual leaves open as a value. One free value only: what a stored kiosk time
reads as when the sum that should give it does not fit the 32 bits of a kiosk time. -/

namespace Sys2Proof.Config

/-- FREE VALUE. A kiosk time is an unsigned 32-bit count (R154). Where a rule stores a sum (due time
plus hold window, now plus 180 s, start plus duration, plan time plus charging time) that exceeds
4,294,967,295, the manual gives no result: the stored time is `freeTime n`, where `n` is the model's
count of such values so far. No body, so nothing can be proved of it but that it fits 32 bits.
DESIGN CHOICE (log entry 3). -/
opaque freeTime : Nat → Word

end Sys2Proof.Config
end

