-- ==== Sys2Proof/Machine/State.lean ====
section
/-! DEFINITION. The state of the LC-24, block by block (introduction, Blocks of the part): the 24 bay
records with what each block keeps per bay, the claim book, the grant controller, the exchange table,
the bay bus, the derate table and kiosk faults, the clock, parameters and schedule, and the three
ports. Power-on values are those of R5, R21, R40, R95, R111, R133, R138, R143, R152, R154, R157,
R160, R166, R171 and R172. -/

namespace Sys2Proof.Machine

/-- The bay's section (R1, R3). -/
inductive BaySection where
  | booked | walkup
  deriving DecidableEq, Repr

/-- The bay's service (R1, R14). -/
inductive Service where
  | inService | outOfService
  deriving DecidableEq, Repr

/-- The bay's link state (R1, R138). -/
inductive Link where
  | unpolled | reachable | lost
  deriving DecidableEq, Repr

/-- The bay states (R1). -/
inductive BayState where
  | vacant | admitting | charging | topped | withheld | faulted
  deriving DecidableEq, Repr

/-- The fault causes (R1). -/
inductive FaultCause where
  | profile | charge | hot | doorForced | doorAjar | packError | packMissing
  deriving DecidableEq, Repr

/-- Pack classes (introduction, Units and numbering). -/
inductive PackClass where
  | s | m | l
  deriving DecidableEq, Repr

/-- The exchange role of a bay, with the exchange number (R1, R16). -/
inductive Role where
  | none
  | intake (x : ExNo)
  | take (x : ExNo)
  deriving DecidableEq, Repr

/-- Who opened a claim (introduction; R38). -/
inductive Origin where
  | gateway | terminal
  deriving DecidableEq, Repr

/-- What names a claim: origin and tag (R38). -/
structure ClaimId where
  origin : Origin
  tag : Half
  deriving DecidableEq, Repr

/-- The frames in which a bay's grant applies; none for a bay that does not take part (R90). -/
inductive Parity where
  | none | even | odd | both
  deriving DecidableEq, Repr

/-- The band of a pack's temperature: a row of the derate table, or above the last (R143). -/
inductive Band where
  | row (i : RowNo)
  | above
  deriving DecidableEq, Repr

/-- The pack record (R2). -/
structure Pack where
  id : PackId
  /-- Wh -/
  capacity : Nat
  cls : PackClass
  /-- per-mille -/
  soc : Nat
  /-- °C -/
  temp : Int
  /-- the set as the pack reported it (R26) -/
  abilities : AbilitySet
  health : Health
  /-- resolved profile -/
  profile : Profile
  /-- refusal count, 0 to 8 -/
  refusals : Nat
  /-- SoC used by the in-force plan -/
  socUsed : Option Nat
  deriving DecidableEq, Repr

/-- Why an admission started (R22). -/
inductive AdmissionCause where
  | insertion | restart | faultClear
  deriving DecidableEq, Repr

/-- An admission in progress (R21). -/
structure Admission where
  cause : AdmissionCause
  /-- IDENTIFY transactions queued, 0 to 3 -/
  attempts : Nat
  held : Bool
  /-- tells this admission's IDENTIFY from an earlier one's -/
  number : Nat
  deriving DecidableEq, Repr

/-- The outcomes of an exchange (R112, R121). -/
inductive Outcome where
  | done | aborted | intakeTimeout | returnRejected | takeTimeout | noPack | linkLost | unconfirmed
  deriving DecidableEq, Repr

/-- A return watch entry (R123); the bay number is the bay that holds it. -/
structure Watch where
  claim : ClaimId
  outcome : Outcome
  deriving DecidableEq, Repr

/-- Everything the part holds for one bay. -/
structure Bay where
  -- the Bay Table's record (R1)
  bsection : BaySection
  service : Service
  link : Link
  door : Door
  latch : Latch
  /-- pack sensed -/
  sensed : Bool
  /-- insertion count -/
  count : BitVec 4
  state : BayState
  pack : Option Pack
  cause : Option FaultCause
  role : Role
  /-- matched claim -/
  matched : Option ClaimId
  /-- temperature of the last report, after the clamp (R6); R153 check 5 reads it -/
  lastTemp : Int
  /-- pack-fault flag of the last report; R153 check 6 reads it -/
  lastFault : Bool
  -- the Admission Unit (R21)
  /-- staged ability set -/
  staged : AbilitySet
  /-- in-force ability set -/
  inForce : AbilitySet
  /-- profile ceiling -/
  ceiling : Option Profile
  admission : Option Admission
  -- the Derate and Fault Unit (R143)
  band : Option Band
  -- the Grant Controller's in-force grant table (R95)
  /-- W -/
  grant : Nat
  parity : Parity
  /-- in-force cap, W -/
  cap : Nat
  /-- urgency rank, 1 to 24 -/
  rank : Option Nat
  -- the Bay Bus Controller (R138)
  /-- consecutive misses, 0 to 3 -/
  misses : Nat
  /-- miss count, 0 to 255 -/
  missCount : Nat
  -- the Exchange Controller (R122, R123)
  /-- on the relock list -/
  relock : Bool
  /-- the bay's return watch entry -/
  watch : Option Watch
  deriving DecidableEq, Repr

/-- The claim states (R39). -/
inductive ClaimState where
  | waiting | matched | ready | swapping
  deriving DecidableEq, Repr

/-- A claim record (R38). The kind follows the origin. -/
structure Claim where
  id : ClaimId
  /-- open sequence -/
  seq : Nat
  openTime : Nat
  cls : PackClass
  /-- min level, per-mille -/
  level : Nat
  /-- due time -/
  due : Nat
  /-- hold window, s; absent for a walk-up -/
  hold : Option Nat
  /-- first-issue flag -/
  firstIssue : Bool
  /-- expiry time -/
  expiry : Nat
  state : ClaimState
  takeBay : Option BayNo
  firstReady : Option Nat
  /-- returned pack id: the rider's credit -/
  returned : Option PackId
  atRisk : Bool
  /-- projected ready time -/
  projected : Option Nat
  deriving DecidableEq, Repr

/-- The Claim Book (R40, R41): the claims in book order, and the open sequence counter. -/
structure Book where
  claims : List Claim
  seq : Nat
  deriving DecidableEq, Repr

/-- Feed states (R95). -/
inductive Feed where
  | unknown | current | stale
  deriving DecidableEq, Repr

/-- One entry of the module table (R95). -/
structure Module where
  /-- W -/
  limit : Nat
  /-- state FAULT -/
  fault : Bool
  deriving DecidableEq, Repr

/-- The plan header of the in-force grant table (R95). -/
structure Header where
  frame : Nat
  /-- the F the plan used -/
  feed : Nat
  hEven : Nat
  hOdd : Nat
  deriving DecidableEq, Repr

/-- The Grant Controller, but for the grant entries, which stand in the bays (R95). -/
structure Grants where
  frame : Nat
  /-- current parity: ODD -/
  odd : Bool
  /-- frames since install -/
  since : Nat
  /-- replan-wanted flag SET -/
  replan : Bool
  header : Option Header
  feed : Feed
  /-- F, the feed last reported, W -/
  watts : Nat
  /-- staleness timer: seconds left, or stopped -/
  timer : Option Nat
  /-- U in force, W -/
  usable : Nat
  /-- halt flag ON -/
  halt : Bool
  modules : Vector Module 12
  deriving DecidableEq, Repr

/-- The phases of an exchange (R111). -/
inductive Phase where
  | intakeOpen | intakeCheck | returnRejected | takeOpen | takeClosing
  deriving DecidableEq, Repr

/-- An exchange record (R111); its number is its place in the table. -/
structure Exchange where
  claim : ClaimId
  phase : Phase
  intake : Option BayNo
  take : Option BayNo
  /-- seconds left in the phase -/
  deadline : Nat
  /-- start time -/
  start : Nat
  /-- abort requested -/
  abort : Bool
  /-- the take bay's link has returned in this TAKE-OPEN and its UNLOCK has not been queued again
  since (R125, R141) -/
  relink : Bool
  deriving DecidableEq, Repr

/-- The commands owners queue on the bay bus (R130, R133). An IDENTIFY carries the admission number
it was queued under (R23); a CHARGE-STOP remembers whether a RESTART-BAY queued it (R29). Neither
mark travels on the wire. -/
inductive BusCmd where
  | identify (admission : Nat)
  | unlock
  | lock
  | chargeStart (p : Profile)
  | chargeStop (byRestart : Bool)
  deriving DecidableEq, Repr

/-- The groups of commands (R133). -/
inductive CmdGroup where
  | door | charge | identify
  deriving DecidableEq, Repr

/-- An entry of the link command queue or the overflow list (R133); group and owner follow the
command. -/
structure Entry where
  bay : BayNo
  cmd : BusCmd
  /-- attempt count, 0 to 2 -/
  attempts : Nat
  deriving DecidableEq, Repr

/-- The transaction in flight (R129). A queued command's entry keeps its place in the queue while it
is in flight, `held`, unless it has been superseded or withdrawn (R133, R134). -/
inductive Flight where
  | lockAll
  | poll (b : BayNo)
  | command (e : Entry) (held : Bool)
  deriving DecidableEq, Repr

/-- The Bay Bus Controller, but for the link states and counts, which stand in the bays. -/
structure Bus where
  /-- the link command queue's entries not in flight, oldest first -/
  queue : List Entry
  overflow : List Entry
  flight : Option Flight
  /-- commands sent since the last poll, 0 to 4 -/
  sent : Nat
  nextPoll : BayNo
  lockAllPending : Bool
  addrErrors : Nat
  deriving DecidableEq, Repr

/-- A row of the derate table (R143). -/
structure DerateRow where
  bound : Int
  pctS : Nat
  pctM : Nat
  pctL : Nat
  deriving DecidableEq, Repr

/-- The kiosk faults: each member, when held, with the kiosk time at which it was reported (R152). -/
structure KioskFaults where
  linkDown : Option Nat
  feedStale : Option Nat
  halt : Option Nat
  deriving DecidableEq, Repr

/-- The kiosk time and the clock state (R154). -/
structure Clock where
  time : Nat
  /-- clock state SET -/
  isSet : Bool
  deriving DecidableEq, Repr

/-- The kiosk parameter set (R157). -/
structure Params where
  reserve : Nat
  socBand : Nat
  feedBand : Nat
  horizon : Nat
  level : Nat
  fill : Nat
  split : Nat
  downshift : Nat
  deriving DecidableEq, Repr

/-- The kinds of directive (R160). -/
inductive DirKind where
  | reserve | reserveWindow | split | walkupLevel | target | horizon | closeWalkupWindow
  deriving DecidableEq, Repr

/-- A pending directive (R160). -/
structure Directive where
  number : Nat
  kind : DirKind
  time : Nat
  value : Option Nat
  duration : Option Nat
  deriving DecidableEq, Repr

/-- An active window (R163). -/
structure Window where
  number : Nat
  kind : DirKind
  /-- reserve value, for a reserve window -/
  value : Option Nat
  start : Nat
  stop : Nat
  deriving DecidableEq, Repr

/-- The directive schedule, the active windows, and what they give (R160, R163). -/
structure Schedule where
  /-- pending directives, in schedule order -/
  directives : List Directive
  /-- directive counter -/
  counter : Nat
  windows : List Window
  /-- effective reserve, W -/
  effective : Nat
  walkupsOpen : Bool
  deriving DecidableEq, Repr

/-- The notice kinds, in the order of their codes (R176). -/
inductive NoticeKind where
  | claimMatched | claimReady | claimUnready | claimUnmatched | claimAtRisk | claimAtRiskCleared
  | claimClosed | swapPhase | swapEnd | bayFault | bayCleared | bayLink | downshift
  | unclaimedReturn | directiveRun | windowStart | windowEnd | windowRefused | linkDown
  | planInstalled | grantCut | feedStale | feedRestored | halt | resume | clockStepped
  deriving DecidableEq, Repr

/-- A notice's subject (R171). -/
inductive Subject where
  | none
  | bay (b : BayNo)
  | claim (c : ClaimId)
  | exchange (x : ExNo)
  | directive (n : Nat)
  deriving DecidableEq, Repr

/-- A notice (R171). The severity follows the kind (R152). -/
structure Notice where
  kind : NoticeKind
  time : Nat
  subject : Subject
  detail : Nat
  value : Nat
  credit : Option PackId
  deriving DecidableEq, Repr

/-- A port's receiver (R166): HUNTING, or IN-FRAME with the bytes taken since SYNC. -/
inductive Rx where
  | hunting
  | inFrame (bytes : List Byte)
  deriving DecidableEq, Repr

/-- What the Port Interface holds for one port (R166, R167, R171, R172). -/
structure PortState where
  rx : Rx
  /-- the reply being transmitted on TXD; present exactly while the port holds a request -/
  reply : Option (List Byte)
  notices : List Notice
  overflow : Bool
  dropped : Nat
  threshold : Nat
  /-- attention line asserted -/
  attn : Bool
  crcErrors : Nat
  overruns : Nat
  deriving DecidableEq, Repr

/-- The three ports. -/
structure Ports where
  terminal : PortState
  gateway : PortState
  cabinet : PortState
  deriving DecidableEq, Repr

/-- Why the machine stops with a fault. The LC-24 has no such end: the manual gives every command an
effect, and a condition outside the part's control leads to degraded operation (introduction). -/
inductive Fault where
  deriving DecidableEq, Repr

/-- Why a command has no meaning. -/
inductive Refusal where
  /-- Raised by an arm of `exec` for a row that has no meaning yet; no arm raises it. Safe. -/
  | notModelled (mnemonic : String)
  deriving DecidableEq, Repr

/-- The state of the part, and the queue of commands that wait for it. -/
structure State where
  /-- commands waiting, first in first out (the model's own) -/
  pending : List Instr
  bays : Vector Bay 24
  book : Book
  grants : Grants
  exchanges : Vector (Option Exchange) 4
  bus : Bus
  derate : Vector DerateRow 8
  faults : KioskFaults
  clock : Clock
  params : Params
  schedule : Schedule
  ports : Ports
  /-- the last admission number given (R22; the manual names no width) -/
  admissions : Nat
  /-- the model's own: an event of R60 has come in the arrival being taken; false between arrivals -/
  passDue : Bool
  /-- the model's own: how many free values have been used (log entry 3) -/
  freeCount : Nat
  deriving DecidableEq, Repr

/-! ### Power-on values -/

/-- A bay record after power-on (R5, R21, R95, R138, R111). -/
def Bay.powerOn (b : BayNo) : Bay where
  bsection := if b.val < 12 then .booked else .walkup
  service := .inService
  link := .unpolled
  door := .closed
  latch := .locked
  sensed := false
  count := 0
  state := .vacant
  pack := none
  cause := none
  role := .none
  matched := none
  lastTemp := 0
  lastFault := false
  staged := 0b1111
  inForce := 0b1111
  ceiling := none
  admission := none
  band := none
  grant := 0
  parity := .none
  cap := 0
  rank := none
  misses := 0
  missCount := 0
  relock := false
  watch := none

/-- A port after power-on (R166, R167, R171, R172). -/
def PortState.powerOn : PortState where
  rx := .hunting
  reply := none
  notices := []
  overflow := false
  dropped := 0
  threshold := 1
  attn := false
  crcErrors := 0
  overruns := 0

/-- The Grant Controller after power-on (R95). -/
def Grants.powerOn : Grants where
  frame := 0
  odd := false
  since := 0
  replan := true
  header := none
  feed := .unknown
  watts := 0
  timer := none
  usable := 0
  halt := false
  modules := Vector.replicate 12 { limit := 3000, fault := false }

/-- The derate table after power-on (R143). -/
def deratePowerOn : Vector DerateRow 8 :=
  #v[⟨-10, 0, 0, 0⟩, ⟨0, 25, 20, 15⟩, ⟨10, 60, 50, 40⟩, ⟨30, 100, 100, 100⟩, ⟨40, 90, 80, 70⟩,
     ⟨45, 60, 50, 40⟩, ⟨50, 30, 25, 20⟩, ⟨55, 10, 10, 5⟩]

/-- The kiosk parameters after power-on: the defaults of R157. -/
def Params.powerOn : Params where
  reserve := 2000
  socBand := 25
  feedBand := 500
  horizon := 1800
  level := 800
  fill := 950
  split := 12
  downshift := 3

/-- The bay bus after power-on (R132, R133, R136, R137, R141). -/
def Bus.powerOn : Bus where
  queue := []
  overflow := []
  flight := none
  sent := 0
  nextPoll := 0
  lockAllPending := true
  addrErrors := 0

/-- The machine right after power-on: R5, R21, R40, R41, R95, R111, R132, R133, R136 to R138, R141,
R143, R152, R154, R157, R160, R166, R171, R172. No command waits. -/
def State.reset : State where
  pending := []
  bays := Vector.ofFn Bay.powerOn
  book := { claims := [], seq := 0 }
  grants := Grants.powerOn
  exchanges := Vector.replicate 4 none
  bus := Bus.powerOn
  derate := deratePowerOn
  faults := { linkDown := none, feedStale := none, halt := none }
  clock := { time := 0, isSet := false }
  params := Params.powerOn
  schedule :=
    { directives := [], counter := 0, windows := [], effective := 2000, walkupsOpen := true }
  ports :=
    { terminal := PortState.powerOn, gateway := PortState.powerOn, cabinet := PortState.powerOn }
  admissions := 0
  passDue := false
  freeCount := 0

end Sys2Proof.Machine
end

