-- ==== Sys2Proof/Machine/Operands.lean ====
section
/-! DEFINITION. Operand forms and coded values: how a payload byte names a class, an origin, a bay or
a kind; the clamps; the fixed figures of the manual; the rounding of power; profiles and ability sets;
and the codes by which named values travel in replies and notices (R176). -/

namespace Sys2Proof

/-! ### Profiles, and the codes of the values a report carries (R176) -/

/-- A profile's rate, W (introduction, Units and numbering; R77). -/
def Profile.rate : Profile → Nat
  | .p0 => 300
  | .p1 => 800
  | .p2 => 1600
  | .p3 => 3200

/-- A profile's place in the order of rates, and its code (R176). -/
def Profile.index : Profile → Nat
  | .p0 => 0
  | .p1 => 1
  | .p2 => 2
  | .p3 => 3

/-- A pack's health grade, by its code. -/
def Health.code : Health → Nat
  | .good => 0 | .worn => 1 | .retire => 2

/-- The door, by its code. -/
def Door.code : Door → Nat
  | .opened => 0 | .closed => 1

/-- The latch, by its code. -/
def Latch.code : Latch → Nat
  | .locked => 0 | .unlocked => 1

end Sys2Proof

namespace Sys2Proof.Machine

/-! ### Fixed figures -/

/-- The minimum grant, W (introduction, Units and numbering; R79). -/
def minGrant : Nat := 200

/-- The ready margin, s (R77). -/
def readyMargin : Nat := 120

/-- The release limit, °C (R147). -/
def releaseLimit : Int := 55

/-- The fault limit, °C (R147). -/
def faultLimit : Int := 65

/-- Room of the claim book (R40). -/
def bookRoom : Nat := 48

/-- Room of the link command queue, the entry in flight included (R133). -/
def queueRoom : Nat := 48

/-- Room of a notice queue (R171). -/
def noticeRoom : Nat := 32

/-- Room of the directive schedule (R160). -/
def scheduleRoom : Nat := 32

/-- Room of the active window list (R163). -/
def windowRoom : Nat := 8

/-- A walk-up's wait limit, s (R47). -/
def walkupWait : Nat := 900

/-- The walk-up hold, s (R55). -/
def walkupHold : Nat := 180

/-- How far ahead a due time may lie, s (R45, R48). -/
def dueAhead : Nat := 86400

/-- The staleness timer's length, s (R105). -/
def stalenessLength : Nat := 10

/-- A phase's length, s (R114, R115, R118, R119). -/
def Phase.length : Phase → Nat
  | .intakeOpen => 90
  | .intakeCheck => 10
  | .returnRejected => 60
  | .takeOpen => 60
  | .takeClosing => 30

/-! ### Rounding and clamps -/

/-- The largest multiple of 50 not above `n` (introduction, Units and numbering; R79). -/
def floor50 (n : Nat) : Nat := n / 50 * 50

/-- `num / den` rounded up to a whole number. -/
def ceilDiv (num den : Nat) : Nat := (num + den - 1) / den

/-- The smallest multiple of 50 not below `num / den` (R85). -/
def ceil50Ratio (num den : Nat) : Nat := ceilDiv num (den * 50) * 50

/-- A figure below the minimum grant counts as 0 (R86, R87, R102, R104). -/
def grantFloor (n : Nat) : Nat := if n < minGrant then 0 else n

/-- The value of the range `lo` to `hi` nearest to `n` (R157). -/
def clampNat (lo hi n : Nat) : Nat := min hi (max lo n)

/-- A reported temperature held within −40 to 85 °C (R6). -/
def clampTemp (t : Int) : Int := min 85 (max (-40) t)

/-- A reported SoC held at or below 1000 (R6). -/
def clampSoc (n : Nat) : Nat := min 1000 n

/-- A min level as taken at opening and at an amend: 0 takes the walk-up level in force, 1 to 499 are
raised to 500 (R45, R48). -/
def takenLevel (walkupLevel n : Nat) : Nat := if n = 0 then walkupLevel else max 500 n

/-- A stored time moved by a step, held within 0 to 4,294,967,295 (R156). -/
def shiftTime (step : Int) (t : Nat) : Nat := min maxWord (Int.toNat (t + step))

/-! ### Profiles, ability sets and classes -/

/-- The profiles, highest first. -/
def profilesDown : List Profile := [.p3, .p2, .p1, .p0]

/-- Whether a set holds a profile: bit n stands for Pn (R176). -/
def AbilitySet.holds (a : AbilitySet) (p : Profile) : Bool := a.getLsbD p.index

/-- Whether a profile serves a pack in a bay: it is in the pack's set and in the in-force set, and it
is not P3 for a pack of health WORN (R26, R31). -/
def profileShared (pack inForce : AbilitySet) (health : Health) (p : Profile) : Bool :=
  AbilitySet.holds pack p && AbilitySet.holds inForce p && !(decide (health = .worn) && decide (p = .p3))

/-- Whether a profile is not above the ceiling, when one stands (R26). -/
def underCeiling (ceiling : Option Profile) (p : Profile) : Bool :=
  match ceiling with
  | none => true
  | some c => decide (p.index ≤ c.index)

/-- The resolved profile: the highest shared profile not above the ceiling (R26). -/
def resolveProfile (pack inForce : AbilitySet) (health : Health) (ceiling : Option Profile) :
    Option Profile :=
  profilesDown.find? (fun p => profileShared pack inForce health p && underCeiling ceiling p)

/-- The next lower shared profile, for a downshift (R31). -/
def lowerProfile (pack inForce : AbilitySet) (health : Health) (now : Profile) : Option Profile :=
  profilesDown.find? (fun p => profileShared pack inForce health p && decide (p.index < now.index))

/-- The class of a capacity in Wh, if any (introduction; R25). -/
def classOf (capacity : Nat) : Option PackClass :=
  if capacity < 800 then none
  else if capacity ≤ 1600 then some .s
  else if capacity ≤ 2800 then some .m
  else if capacity ≤ 4000 then some .l
  else none

/-- Precedence of a fault cause, 1 the highest (R148). -/
def FaultCause.precedence : FaultCause → Nat
  | .hot => 1
  | .packError => 2
  | .packMissing => 3
  | .doorForced => 4
  | .doorAjar => 4
  | .charge => 5
  | .profile => 6

/-- The group of a command (R133). -/
def BusCmd.group : BusCmd → CmdGroup
  | .identify _ => .identify
  | .unlock => .door
  | .lock => .door
  | .chargeStart _ => .charge
  | .chargeStop _ => .charge

/-! ### Bays, modules and siblings -/

/-- The bays in order of bay number. -/
def allBays : List BayNo :=
  [0, 1, 2, 3, 4, 5, 6, 7, 8, 9, 10, 11, 12, 13, 14, 15, 16, 17, 18, 19, 20, 21, 22, 23]

/-- The exchange numbers in order. -/
def allExchanges : List ExNo := [0, 1, 2, 3]

/-- The derate rows in order. -/
def allRows : List RowNo := [0, 1, 2, 3, 4, 5, 6, 7]

/-- A bay's number, 1 to 24. -/
def bayNumber (b : BayNo) : Nat := b.val + 1

/-- The module that feeds a bay: module m feeds bays 2m−1 and 2m (R4). -/
def moduleOf (b : BayNo) : ModNo := ⟨b.val / 2, by omega⟩

/-- The other bay of the bay's module (R4). -/
def sibling (b : BayNo) : BayNo :=
  if b.val % 2 = 0 then ⟨(b.val + 1) % 24, by omega⟩ else ⟨b.val - 1, by omega⟩

/-- The first and second bay of a module (R4). -/
def moduleBays (m : ModNo) : List BayNo := [⟨2 * m.val, by omega⟩, ⟨2 * m.val + 1, by omega⟩]

/-- The section a bay belongs to under a split line (R3). -/
def sectionOf (split : Nat) (b : BayNo) : BaySection :=
  if bayNumber b ≤ split then .booked else .walkup

/-! ### Payload fields -/

/-- A bay number field: 1 to 24 (R19). -/
def bayOfByte (n : Byte) : Option BayNo :=
  if h : 1 ≤ n.toNat ∧ n.toNat ≤ 24 then some ⟨n.toNat - 1, by omega⟩ else none

/-- The bays a list of bay number fields names, if each is in range (R19). -/
def baysOfBytes : List Byte → Option (List BayNo)
  | [] => some []
  | n :: ns =>
    match bayOfByte n, baysOfBytes ns with
    | some b, some bs => some (b :: bs)
    | _, _ => none

/-- A module number field: 1 to 12 (R107). -/
def moduleOfByte (n : Byte) : Option ModNo :=
  if h : 1 ≤ n.toNat ∧ n.toNat ≤ 12 then some ⟨n.toNat - 1, by omega⟩ else none

/-- An exchange number field: 1 to 4 (R126, R128). -/
def exchangeOfByte (n : Byte) : Option ExNo :=
  if h : 1 ≤ n.toNat ∧ n.toNat ≤ 4 then some ⟨n.toNat - 1, by omega⟩ else none

/-- A derate row number field: 1 to 8 (R144). -/
def rowOfByte (n : Byte) : Option RowNo :=
  if h : 1 ≤ n.toNat ∧ n.toNat ≤ 8 then some ⟨n.toNat - 1, by omega⟩ else none

/-- A class field: S 0, M 1, L 2 (R176). -/
def classOfByte (n : Byte) : Option PackClass :=
  match n.toNat with
  | 0 => some .s
  | 1 => some .m
  | 2 => some .l
  | _ => none

/-- An origin field: GATEWAY 1, TERMINAL 2 (R176). -/
def originOfByte (n : Byte) : Option Origin :=
  match n.toNat with
  | 1 => some .gateway
  | 2 => some .terminal
  | _ => none

/-- A field coded NO 0, YES 1, or OK 0, FAULT 1 (R176). -/
def flagOfByte (n : Byte) : Option Bool :=
  match n.toNat with
  | 0 => some false
  | 1 => some true
  | _ => none

/-- A service field: IN 0, OUT 1 (R176). -/
def serviceOfByte (n : Byte) : Option Service :=
  match n.toNat with
  | 0 => some .inService
  | 1 => some .outOfService
  | _ => none

/-- A directive kind field: 0 to 6 in the order of R160's table (R176). -/
def kindOfByte (n : Byte) : Option DirKind :=
  match n.toNat with
  | 0 => some .reserve
  | 1 => some .reserveWindow
  | 2 => some .split
  | 3 => some .walkupLevel
  | 4 => some .target
  | 5 => some .horizon
  | 6 => some .closeWalkupWindow
  | _ => none

/-- An ability set field: bits 3 to 0 of the byte (R176). Bits 7 to 4 are not read: DEDUCED (log
entry 9). -/
def abilitiesOfByte (n : Byte) : AbilitySet := n.extractLsb' 0 4

/-- A presence field's value when its bit is set; a field whose bit is clear is ignored (R176). -/
def presentIf {α : Type} (present : Byte) (bit : Nat) (a : α) : Option α :=
  if present.getLsbD bit then some a else none

/-- A claim's name from an origin field and a tag: tag 0 and an unknown origin are out of range
(R50, R52, R113). -/
def claimIdOf (origin : Byte) (tag : Half) : Option ClaimId :=
  match originOfByte origin with
  | some o => if tag = 0 then none else some ⟨o, tag⟩
  | none => none

/-! ### Codes of named values in replies (R176): the order of the field's definition, from 0; from 1
where the field may be absent -/

def PackClass.code : PackClass → Nat
  | .s => 0 | .m => 1 | .l => 2

def BaySection.code : BaySection → Nat
  | .booked => 0 | .walkup => 1

def Service.code : Service → Nat
  | .inService => 0 | .outOfService => 1

def Link.code : Link → Nat
  | .unpolled => 0 | .reachable => 1 | .lost => 2

def BayState.code : BayState → Nat
  | .vacant => 0 | .admitting => 1 | .charging => 2 | .topped => 3 | .withheld => 4 | .faulted => 5

/-- In the order of R1, from 1; 0 is none. -/
def FaultCause.code : FaultCause → Nat
  | .profile => 1 | .charge => 2 | .hot => 3 | .doorForced => 4 | .doorAjar => 5 | .packError => 6
  | .packMissing => 7

def causeCode : Option FaultCause → Nat
  | none => 0
  | some c => c.code

def Origin.code : Origin → Nat
  | .gateway => 1 | .terminal => 2

def Parity.code : Parity → Nat
  | .none => 0 | .even => 1 | .odd => 2 | .both => 3

def Role.code : Role → Nat
  | .none => 0 | .intake _ => 1 | .take _ => 2

/-- The exchange number of a role; 0 for NONE. -/
def Role.number : Role → Nat
  | .none => 0 | .intake x => x.val + 1 | .take x => x.val + 1

def ClaimState.code : ClaimState → Nat
  | .waiting => 0 | .matched => 1 | .ready => 2 | .swapping => 3

def Feed.code : Feed → Nat
  | .unknown => 0 | .current => 1 | .stale => 2

def Phase.code : Phase → Nat
  | .intakeOpen => 0 | .intakeCheck => 1 | .returnRejected => 2 | .takeOpen => 3 | .takeClosing => 4

def DirKind.code : DirKind → Nat
  | .reserve => 0 | .reserveWindow => 1 | .split => 2 | .walkupLevel => 3 | .target => 4
  | .horizon => 5 | .closeWalkupWindow => 6

/-- A flag, a yes/no indication (pack sensed among them) or the attention line: 1 when set, YES or asserted, as
R176 codes the first-issue flag. DEDUCED (log entry 9). -/
def flagCode (b : Bool) : Nat := if b then 1 else 0

/-! ### Detail codes of notices (R176): the order in which the notice's rule lists its codes, from 1 -/

/-- How a match was made (R75, CLAIM-MATCHED). -/
inductive MatchDetail where
  | own | borrow | deadline | replacement
  deriving DecidableEq, Repr

def MatchDetail.code : MatchDetail → Nat
  | .own => 1 | .borrow => 2 | .deadline => 3 | .replacement => 4

/-- Why a claim fell out of READY (R75, CLAIM-UNREADY). -/
inductive Unready where
  | level | state | temperature
  deriving DecidableEq, Repr

def Unready.code : Unready → Nat
  | .level => 1 | .state => 2 | .temperature => 3

/-- Why a claim lost its bay (R70, R75). -/
inductive LossCause where
  | fault | service | link | removal | packChanged | retire | cls | amendClass
  deriving DecidableEq, Repr

def LossCause.code : LossCause → Nat
  | .fault => 1 | .service => 2 | .link => 3 | .removal => 4 | .packChanged => 5 | .retire => 6
  | .cls => 7 | .amendClass => 8

/-- A claim's outcome (R43). -/
inductive CloseOutcome where
  | fulfilled | cancelled | expired | unconfirmed
  deriving DecidableEq, Repr

def CloseOutcome.code : CloseOutcome → Nat
  | .fulfilled => 1 | .cancelled => 2 | .expired => 3 | .unconfirmed => 4

/-- An exchange's outcome, in the order of R112. -/
def Outcome.code : Outcome → Nat
  | .done => 1 | .aborted => 2 | .intakeTimeout => 3 | .returnRejected => 4 | .takeTimeout => 5
  | .noPack => 6 | .linkLost => 7 | .unconfirmed => 8

/-- Why a grant was cut (R110). -/
inductive CutCause where
  | eligibility | cap | budget
  deriving DecidableEq, Repr

def CutCause.code : CutCause → Nat
  | .eligibility => 1 | .cap => 2 | .budget => 3

/-- A profile in a notice: P0 1, P1 2, P2 3, P3 4 (R176). -/
def profileDetail (p : Profile) : Nat := p.index + 1

/-- How a SET-TIME was taken (R155). -/
inductive TimeMode where
  | set | trim | shift
  deriving DecidableEq, Repr

/-- From 1; 0 is none (a step of 0). -/
def TimeMode.code : TimeMode → Nat
  | .set => 1 | .trim => 2 | .shift => 3

/-- The condition of a FAULT-PRESENT refusal (R153, R176). -/
inductive ClearBar where
  | link | door | temperature | packFlag
  deriving DecidableEq, Repr

def ClearBar.code : ClearBar → Nat
  | .link => 1 | .door => 2 | .temperature => 3 | .packFlag => 4

/-- A notice kind's code, 0x01 to 0x1A (R176). -/
def NoticeKind.code : NoticeKind → Nat
  | .claimMatched => 0x01 | .claimReady => 0x02 | .claimUnready => 0x03 | .claimUnmatched => 0x04
  | .claimAtRisk => 0x05 | .claimAtRiskCleared => 0x06 | .claimClosed => 0x07 | .swapPhase => 0x08
  | .swapEnd => 0x09 | .bayFault => 0x0A | .bayCleared => 0x0B | .bayLink => 0x0C
  | .downshift => 0x0D | .unclaimedReturn => 0x0E | .directiveRun => 0x0F | .windowStart => 0x10
  | .windowEnd => 0x11 | .windowRefused => 0x12 | .linkDown => 0x13 | .planInstalled => 0x14
  | .grantCut => 0x15 | .feedStale => 0x16 | .feedRestored => 0x17 | .halt => 0x18
  | .resume => 0x19 | .clockStepped => 0x1A

/-- Severities (R152), with their codes (R176): none 0, NOTE 1, BAY 2, KIOSK 3. -/
def NoticeKind.severity : NoticeKind → Nat
  | .downshift | .claimAtRisk | .claimAtRiskCleared => 1
  | .bayFault | .bayCleared => 2
  | .linkDown | .feedStale | .halt => 3
  | _ => 0

end Sys2Proof.Machine
end

