-- ==== Sys2Proof/Machine/Flags.lean ====
section
/-! DEFINITION. What is read from the state and judged of it: lookups, and every condition the rules
name: serviceability, eligibility for charge, fill target, candidacy, holding, the READY test, book
cover, the usable budget, the cap, and the attention line. -/

namespace Sys2Proof.Machine

/-! ### Lookups -/

/-- A bay's record. -/
def State.bay (s : State) (b : BayNo) : Bay := s.bays.get b

/-- An exchange's record, if it exists. -/
def State.exch (s : State) (x : ExNo) : Option Exchange := s.exchanges.get x

/-- The open claim of a name (R38, R40). -/
def State.claim? (s : State) (id : ClaimId) : Option Claim :=
  s.book.claims.find? (fun c => decide (c.id = id))

/-- A port's state. -/
def Ports.get (ps : Ports) : Port → PortState
  | .terminal => ps.terminal
  | .gateway => ps.gateway
  | .cabinet => ps.cabinet

/-- The present kiosk time. -/
def State.now (s : State) : Nat := s.clock.time

/-! ### Claims -/

/-- A claim's kind is BOOKING; it follows the origin (R38). -/
def Claim.isBooking (c : Claim) : Bool := decide (c.id.origin = .gateway)

/-- Book order: by priority time, then by open sequence (R41). The priority time of either kind is
its due time. -/
def Claim.before (c d : Claim) : Bool :=
  decide (c.due < d.due) || (decide (c.due = d.due) && decide (c.seq < d.seq))

/-- A claim put in its place in book order (R41). -/
def insertClaim (c : Claim) : List Claim → List Claim
  | [] => [c]
  | d :: ds => if c.before d then c :: d :: ds else d :: insertClaim c ds

/-- Claims put in book order (R41). -/
def sortClaims (cs : List Claim) : List Claim := cs.foldr insertClaim []

/-- The position, from 1, of the claim of a name in a list; one past the end when it is not there. -/
def positionIn (id : ClaimId) (cs : List Claim) : Nat := cs.findIdx (fun c => decide (c.id = id)) + 1

/-- The claim's due time is within the protection horizon (R61, R64). -/
def State.inHorizon (s : State) (c : Claim) : Bool := decide (c.due ≤ s.now + s.params.horizon)

/-- The book is covered: no booking due within the horizon is WAITING (R64). -/
def State.covered (s : State) : Bool :=
  !s.book.claims.any (fun c => c.isBooking && decide (c.state = .waiting) && s.inHorizon c)

/-- The lateness of a claim that closes FULFILLED (R44). -/
def Claim.lateness (c : Claim) : Nat :=
  match c.firstReady with
  | none => 0
  | some t => t - c.due

/-! ### Bays -/

/-- A bay's exchange role is TAKE. -/
def Role.isTake : Role → Bool
  | .take _ => true
  | _ => false

/-- The bay is serviceable (R18). -/
def Bay.serviceable (r : Bay) : Bool :=
  decide (r.service = .inService) && decide (r.link = .reachable)

/-- The conditions of eligibility that are the bay's own (R17). -/
def Bay.ownEligible (r : Bay) : Bool :=
  decide (r.state = .charging) && decide (r.service = .inService) && decide (r.link = .reachable)
    && decide (r.door = .closed) && decide (r.latch = .locked) && !r.role.isTake

/-- The bay is eligible for charge (R17). -/
def State.eligible (s : State) (b : BayNo) : Bool :=
  (s.bay b).ownEligible && !s.grants.halt && !decide (s.grants.feed = .stale)

/-- The bay's fill target (R9). -/
def State.fillTarget (s : State) (b : BayNo) : Nat :=
  match (s.bay b).matched with
  | none => s.params.fill
  | some id =>
    match s.claim? id with
    | none => s.params.fill
    | some c => max s.params.fill c.level

/-- The candidacy inputs of a bay record whose change brings a match pass (R18a, R60): state,
service, link state, fault cause, exchange role and section. -/
def Bay.candidacyChanged (r r' : Bay) : Bool :=
  !(decide (r.state = r'.state) && decide (r.service = r'.service) && decide (r.link = r'.link)
    && decide (r.cause = r'.cause) && decide (r.role = r'.role)
    && decide (r.bsection = r'.bsection))

/-- A bay may be chosen as an intake bay (R113). The door and the latch are those last reported, and the relock list is
not read: a bay last reported LOCKED may be chosen while a LOCK is queued for it (log entry 43). -/
def Bay.intakeFit (r : Bay) : Bool :=
  decide (r.state = .vacant) && r.serviceable && !r.sensed && decide (r.door = .closed)
    && decide (r.latch = .locked) && decide (r.role = .none)

/-- A bay is CHARGING or TOPPED. -/
def Bay.holdsCharged (r : Bay) : Bool := decide (r.state = .charging) || decide (r.state = .topped)

/-- A pack's class and health serve a class of claim (R62, R67). -/
def Pack.serves (p : Pack) (cls : PackClass) : Bool :=
  decide (p.cls = cls) && !decide (p.health = .retire)

/-- A bay is a candidate for a claim of this class (R62). -/
def Bay.candidate (r : Bay) (cls : PackClass) : Bool :=
  r.serviceable && r.holdsCharged
    && (match r.pack with | none => false | some p => p.serves cls)
    && r.matched.isNone && decide (r.role = .none) && r.cause.isNone

/-- A pack passes the level and temperature conditions of READY (R68). -/
def Pack.fit (p : Pack) (level : Nat) : Bool := decide (level ≤ p.soc) && decide (p.temp < releaseLimit)

/-- The READY test made on a claim's take bay (R68). -/
def Bay.readyFor (r : Bay) (level : Nat) : Bool :=
  r.holdsCharged && (match r.pack with | none => false | some p => p.fit level)

/-- What a failing READY test found first, in the order LEVEL, STATE, TEMPERATURE, with the notice's
value (R75). -/
def Bay.unreadyFor (r : Bay) (level : Nat) : Unready × Nat :=
  match r.pack with
  | none => (.state, 0)
  | some p =>
    if p.soc < level then (.level, p.soc)
    else if !r.holdsCharged then (.state, 0)
    else (.temperature, p.temp.toNat)

/-- The bay is in ADMITTING with cause RESTART (R35, R67). -/
def Bay.restarting (r : Bay) : Bool :=
  decide (r.state = .admitting) &&
    (match r.admission with | none => false | some a => decide (a.cause = .restart))

/-- Why a bay does not hold its match for a claim of this class, or none when it holds it (R67): the
first cause in the order of R70's table, but that a RETIRE pack is named before the state (log entry 22). A
re-identified pack now of health RETIRE has its bay in WITHHELD by its admission's result, and R70 and R35
give that loss the cause RETIRE. -/
def Bay.lossFor (r : Bay) (cls : PackClass) : Option LossCause :=
  if r.cause.isSome then some .fault
  else if r.service = .outOfService then some .service
  else if r.link ≠ .reachable then some .link
  else
    match r.pack with
    | none => some .removal
    | some p =>
      if p.health = .retire then some .retire
      else if !(r.holdsCharged || r.restarting) then some .packChanged
      else if p.cls ≠ cls then some .cls
      else none

/-! ### Power -/

/-- The rows from `i` on that hold a temperature: the first whose upper bound is at or above it. -/
def bandFrom (t : Int) (table : Vector DerateRow 8) : List RowNo → Band
  | [] => .above
  | i :: is => if t ≤ (table.get i).bound then .row i else bandFrom t table is

/-- The band of a temperature (R143). -/
def bandOf (table : Vector DerateRow 8) (t : Int) : Band := bandFrom t table allRows

/-- A row's percentage for a class (R143). -/
def DerateRow.pct (r : DerateRow) : PackClass → Nat
  | .s => r.pctS
  | .m => r.pctM
  | .l => r.pctL

/-- The derate percentage of a band for a class; 0 for ABOVE (R143). -/
def State.derate? (s : State) (band : Band) (cls : PackClass) : Nat :=
  match band with
  | .row i => (s.derate.get i).pct cls
  | .above => 0

/-- A module's limit as its bays see it: 0 in FAULT (R79, R107). -/
def Module.effective (m : Module) : Nat := if m.fault then 0 else m.limit

/-- The cap of a bay from the inputs as they stand (R79). The product is taken exactly before it is
rounded down. -/
def State.capOf (s : State) (b : BayNo) : Nat :=
  match (s.bay b).pack with
  | none => 0
  | some p =>
    let l := (s.grants.modules.get (moduleOf b)).effective
    floor50 (min l p.profile.rate * s.derate? (bandOf s.derate p.temp) p.cls / 100)

/-- The effective reserve: the greatest of the base reserve and the reserve values of the active
reserve windows (R78, R163). -/
def reserveOf (base : Nat) (windows : List Window) : Nat :=
  windows.foldl (fun r w => if w.kind = .reserveWindow then max r (w.value.getD 0) else r) base

/-- Walk-ups are open while no close-walk-up window is active (R163). -/
def openOf (windows : List Window) : Bool := windows.all (fun w => !decide (w.kind = .closeWalkupWindow))

/-- The usable budget U (R78). -/
def State.budget (s : State) : Nat :=
  if s.grants.halt = true ∨ s.grants.feed ≠ .current then 0
  else s.grants.watts - s.schedule.effective

/-- A parity is active in even frames. -/
def Parity.inEven : Parity → Bool
  | .even | .both => true
  | _ => false

/-- A parity is active in odd frames. -/
def Parity.inOdd : Parity → Bool
  | .odd | .both => true
  | _ => false

/-- The sum of the in-force grants active in even frames (R103). -/
def State.evenSum (s : State) : Nat :=
  (allBays.map (fun b => if (s.bay b).parity.inEven then (s.bay b).grant else 0)).sum

/-- The sum of the in-force grants active in odd frames (R103). -/
def State.oddSum (s : State) : Nat :=
  (allBays.map (fun b => if (s.bay b).parity.inOdd then (s.bay b).grant else 0)).sum

/-! ### Ports -/

/-- The attention line as the queue, the flag and the threshold have it (R172). -/
def PortState.judge (p : PortState) : Bool :=
  decide (p.threshold ≤ p.notices.length) || p.overflow

/-- The ports a notice goes to (R171): a claim notice goes to the terminal when the claim's origin is
TERMINAL. -/
def routed (n : Notice) : Port → Bool
  | .gateway =>
    match n.kind with
    | .planInstalled | .grantCut => false
    | _ => true
  | .cabinet =>
    match n.kind with
    | .planInstalled | .grantCut | .feedStale | .feedRestored | .halt | .resume | .clockStepped => true
    | _ => false
  | .terminal =>
    match n.kind with
    | .swapPhase | .swapEnd | .clockStepped => true
    | .claimMatched | .claimReady | .claimUnready | .claimUnmatched | .claimAtRisk
    | .claimAtRiskCleared | .claimClosed =>
      (match n.subject with | .claim c => decide (c.origin = .terminal) | _ => false)
    | _ => false

/-- Which ports may send a request (R169). -/
def permitted (p : Port) : Request → Bool
  | .readStatus | .fetchNotices | .setAttention _ | .portClear | .readBay _ | .readDerateTable
  | .readKioskParams => true
  | .setBayService _ _ | .setBayAbility _ _ | .restartBay _ | .openBooking _ _ _ _ _ _
  | .amendBooking _ _ _ _ _ _ | .listClaims _ | .readLinkCounters | .writeDerateRow _ _ _ _ _
  | .clearBayFault _ | .setTime _ | .setKioskParams _ _ _ _ _ _ _ _ _ | .addDirective _ _ _ _
  | .clearDirectives _ | .endWindows | .readSchedule _ _ => decide (p = .gateway)
  | .openWalkup _ _ _ | .beginSwap _ _ | .abortSwap _ _ _ => decide (p = .terminal)
  | .cancelClaim _ _ | .readClaim _ _ | .readExchange _ => !decide (p = .cabinet)
  | .reportFeed _ | .setModule _ _ _ | .haltCharging | .resumeCharging => decide (p = .cabinet)
  | .readGrants => !decide (p = .terminal)

end Sys2Proof.Machine
end

