-- ==== Sys2Proof/Machine/Ops.lean ====
section
/-! DEFINITION. The named operations every meaning is built from: changes of a record, notices, the
link command queue, the grant cuts, and the change of a bay record with its hand-ons. A state change
is written with the state first, so that the operations of one arrival read in their order. -/

namespace Sys2Proof.Machine

/-! ### Records -/

/-- Replaces a bay's record. -/
def State.setBay (s : State) (b : BayNo) (r : Bay) : State :=
  { s with bays := s.bays.set b.val r b.isLt }

/-- Changes a bay's record, with no hand-on. -/
def State.modBay (s : State) (b : BayNo) (f : Bay → Bay) : State := s.setBay b (f (s.bay b))

/-- Replaces the record of an exchange number, or removes it. -/
def State.setExch (s : State) (x : ExNo) (e : Option Exchange) : State :=
  { s with exchanges := s.exchanges.set x.val e x.isLt }

/-- Changes an exchange's record, if it exists. -/
def State.modExch (s : State) (x : ExNo) (f : Exchange → Exchange) : State :=
  s.setExch x ((s.exch x).map f)

/-- Replaces the claims of the book. -/
def State.setClaims (s : State) (cs : List Claim) : State := { s with book := { s.book with claims := cs } }

/-- Changes the record of an open claim, in its place. -/
def State.modClaim (s : State) (id : ClaimId) (f : Claim → Claim) : State :=
  s.setClaims (s.book.claims.map (fun c => if c.id = id then f c else c))

/-- Changes the Grant Controller's own items. -/
def State.modGrants (s : State) (f : Grants → Grants) : State := { s with grants := f s.grants }

/-- Changes the Bay Bus Controller's own items. -/
def State.modBus (s : State) (f : Bus → Bus) : State := { s with bus := f s.bus }

/-- Changes one port. -/
def Ports.mod (ps : Ports) (p : Port) (f : PortState → PortState) : Ports :=
  match p with
  | .terminal => { ps with terminal := f ps.terminal }
  | .gateway => { ps with gateway := f ps.gateway }
  | .cabinet => { ps with cabinet := f ps.cabinet }

/-- Changes one port. -/
def State.modPort (s : State) (p : Port) (f : PortState → PortState) : State :=
  { s with ports := s.ports.mod p f }

/-- Marks replan wanted (R99). -/
def State.wantReplan (s : State) : State := s.modGrants (fun g => { g with replan := true })

/-- Marks that an event of R60 has come in this arrival. -/
def State.wantPass (s : State) : State := { s with passDue := true }

/-- The time to store for a sum: the sum itself where it fits a kiosk time, a free value where it does
not (Config.freeTime). -/
def State.storedTime (s : State) (sum : Nat) : Nat :=
  if sum ≤ maxWord then sum else (Config.freeTime s.freeCount).toNat

/-- Counts the free value a stored sum has used, if it used one. -/
def State.countTime (s : State) (sum : Nat) : State :=
  if sum ≤ maxWord then s else { s with freeCount := s.freeCount + 1 }

/-! ### Notices (R171, R172) -/

/-- A notice reaching one queue: placed at the tail, or dropped at a full queue; and the attention line
judged afresh. -/
def PortState.push (p : PortState) (n : Notice) : PortState :=
  let p :=
    if p.notices.length < noticeRoom then { p with notices := p.notices ++ [n] }
    else { p with overflow := true, dropped := min 255 (p.dropped + 1) }
  { p with attn := p.judge }

/-- A notice copied to every port it is routed to. -/
def Ports.post (ps : Ports) (n : Notice) : Ports where
  terminal := if routed n .terminal then ps.terminal.push n else ps.terminal
  gateway := if routed n .gateway then ps.gateway.push n else ps.gateway
  cabinet := if routed n .cabinet then ps.cabinet.push n else ps.cabinet

/-- Sends a notice. -/
def State.post (s : State) (n : Notice) : State := { s with ports := s.ports.post n }

/-- Sends a notice of the present kiosk time with no credit. -/
def State.notify (s : State) (kind : NoticeKind) (subject : Subject) (detail value : Nat) : State :=
  s.post { kind, time := s.now, subject, detail, value, credit := none }

/-! ### The link command queue (R133, R134) -/

/-- Entries in the link command queue, the one in flight included (R133, R142). -/
def Bus.count (u : Bus) : Nat :=
  u.queue.length + (match u.flight with | some (.command _ true) => 1 | _ => 0)

/-- The oldest overflow entries move to the tail of the queue, as many as there is room for: one for
each entry that has left it (R133). -/
def Bus.refill (u : Bus) : Bus :=
  let room := queueRoom - u.count
  { u with queue := u.queue ++ u.overflow.take room, overflow := u.overflow.drop room }

/-- An entry is of this bay and group. -/
def Entry.isFor (e : Entry) (b : BayNo) (g : CmdGroup) : Bool :=
  decide (e.bay = b) && decide (e.cmd.group = g)

/-- Removes the waiting entries of a bay and group, in the queue and the overflow list. -/
def Bus.drop (u : Bus) (b : BayNo) (g : CmdGroup) : Bus :=
  { u with
    queue := u.queue.filter (fun e => !e.isFor b g)
    overflow := u.overflow.filter (fun e => !e.isFor b g) }

/-- A command of this bay and group that is in flight loses its place in the queue: superseded, or
withdrawn (R133, R134). -/
def Bus.release (u : Bus) (b : BayNo) (g : CmdGroup) : Bus :=
  match u.flight with
  | some (.command e true) =>
    if e.isFor b g then Bus.refill { u with flight := some (.command e false) } else u
  | _ => u

/-- A new entry at the tail of the queue, or of the overflow list when the queue is full (R133). -/
def Bus.append (u : Bus) (e : Entry) : Bus :=
  if u.count < queueRoom then { u with queue := u.queue ++ [e] }
  else { u with overflow := u.overflow ++ [e] }

/-- Places an owner's command (R133): it replaces a waiting one of its bay and group, supersedes one in
flight, and stands at the tail with attempt count 0. -/
def Bus.place (u : Bus) (b : BayNo) (c : BusCmd) : Bus :=
  ((u.drop b c.group).release b c.group).append { bay := b, cmd := c, attempts := 0 }

/-- Withdraws a bay's command of a group (R134). -/
def Bus.withdraw (u : Bus) (b : BayNo) (g : CmdGroup) : Bus := ((u.drop b g).release b g).refill

/-- Drops every waiting entry of a bay (R139). -/
def Bus.dropBay (u : Bus) (b : BayNo) : Bus :=
  Bus.refill { u with
    queue := u.queue.filter (fun e => !decide (e.bay = b))
    overflow := u.overflow.filter (fun e => !decide (e.bay = b)) }

/-- Queues a door or charge command for a bay. For a LOST bay it is not placed; its owner is told that
it failed with the link LOST and does nothing (R134, R29, R122). -/
def State.queueCmd (s : State) (b : BayNo) (c : BusCmd) : State :=
  if (s.bay b).link = .lost then s else s.modBus (fun u => u.place b c)

/-- Queues LOCK for a bay, which joins the relock list (R122). -/
def State.queueLock (s : State) (b : BayNo) : State :=
  (s.modBay b (fun r => { r with relock := true })).queueCmd b .lock

/-- Queues UNLOCK for a bay, which leaves the relock list (R122). -/
def State.queueUnlock (s : State) (b : BayNo) : State :=
  (s.modBay b (fun r => { r with relock := false })).queueCmd b .unlock

/-- Queues IDENTIFY for a bay's present admission and adds 1 to its attempt count; on a LOST bay the
admission is held instead (R22, R23, R24). -/
def State.queueIdentify (s : State) (b : BayNo) : State :=
  match (s.bay b).admission with
  | none => s
  | some a =>
    if (s.bay b).link = .lost then
      s.modBay b (fun r => { r with admission := some { a with held := true } })
    else
      (s.modBay b (fun r => { r with admission := some { a with attempts := a.attempts + 1 } })).modBus
        (fun u => u.place b (.identify a.number))

/-- Withdraws a bay's IDENTIFY (R21, R134). -/
def State.withdrawIdentify (s : State) (b : BayNo) : State :=
  s.modBus (fun u => u.withdraw b .identify)

/-! ### Grants between installs -/

/-- Sets a bay's grant to 0, with GRANT-CUT ELIGIBILITY when it was above 0 (R101). -/
def State.cutGrant (s : State) (b : BayNo) : State :=
  if (s.bay b).grant = 0 then s
  else (s.modBay b (fun r => { r with grant := 0 })).notify .grantCut (.bay b)
    CutCause.eligibility.code 0

/-- Acts on a bay's eligibility for charge: its end cuts the grant, and its end or beginning wants a
plan (R17, R99, R101). `was` is the eligibility before the change. -/
def State.eligibilityEdge (s : State) (b : BayNo) (was : Bool) : State :=
  match was, s.eligible b with
  | true, false => (s.cutGrant b).wantReplan
  | false, true => s.wantReplan
  | _, _ => s

/-- Changes a bay record and hands the change on: a changed candidacy input wants a match pass, and
eligibility for charge that ends or begins goes to the Grant Controller (R17, R18, R18a). -/
def State.edit (s : State) (b : BayNo) (f : Bay → Bay) : State :=
  let was := s.eligible b
  let t := s.modBay b f
  let t := if (s.bay b).candidacyChanged (t.bay b) then t.wantPass else t
  t.eligibilityEdge b was

/-- Ends the eligibility of every bay: every grant goes to 0, in order of bay number (R101). -/
def State.cutAll (s : State) : State := allBays.foldl State.cutGrant s

/-- Recomputes a bay's in-force cap and cuts a grant above it, with GRANT-CUT CAP (R102). The change
that brought it wants a plan (R99). -/
def State.recap (s : State) (b : BayNo) : State :=
  let cap := s.capOf b
  let t := (s.modBay b (fun r => { r with cap := cap })).wantReplan
  if cap < (s.bay b).grant then
    let g := grantFloor (floor50 cap)
    (t.modBay b (fun r => { r with grant := g })).notify .grantCut (.bay b) CutCause.cap.code g
  else t

/-- The larger excess of the parities in which a bay's grant is active (R104). -/
def State.excessOf (s : State) (b : BayNo) : Nat :=
  match (s.bay b).parity with
  | .even => s.evenSum - s.grants.usable
  | .odd => s.oddSum - s.grants.usable
  | .both => max (s.evenSum - s.grants.usable) (s.oddSum - s.grants.usable)
  | .none => 0

/-- Sheds one bay's grant (R104). -/
def State.shedBay (s : State) (b : BayNo) : State :=
  let excess := s.excessOf b
  if (s.bay b).grant = 0 ∨ excess = 0 then s
  else
    let g := grantFloor (floor50 ((s.bay b).grant - excess))
    (s.modBay b (fun r => { r with grant := g })).notify .grantCut (.bay b) CutCause.budget.code g

/-- The bays of an urgency rank number. -/
def State.ofRank (s : State) (k : Nat) : List BayNo :=
  allBays.filter (fun b => decide ((s.bay b).rank = some k))

/-- Sheds in reverse urgency order, from rank `k` down (R104). -/
def State.shedFrom (s : State) : Nat → State
  | 0 => s
  | k + 1 => State.shedFrom ((s.ofRank (k + 1)).foldl State.shedBay s) k

/-- Recomputes U in force; a fall sheds at once and wants a plan (R103). -/
def State.recomputeUsable (s : State) : State :=
  let u := s.budget
  let t := s.modGrants (fun g => { g with usable := u })
  if u < s.grants.usable then (t.shedFrom 24).wantReplan else t

/-! ### The pack record -/

/-- Clears a bay's pack record, with its band and the profile ceiling, which belong to it (R2, R21,
R143). -/
def Bay.withoutPack (r : Bay) : Bay :=
  match r.pack with
  | none => r
  | some _ => { r with pack := none, band := none, ceiling := none }

/-- Clears a bay's pack record and recomputes the cap (R102). -/
def State.clearPack (s : State) (b : BayNo) : State :=
  match (s.bay b).pack with
  | none => s
  | some _ => (s.modBay b Bay.withoutPack).recap b

/-- Compares a bay's SoC with its fill target and moves it between CHARGING and TOPPED (R9), queuing
the charge command (R28). -/
def State.fillTest (s : State) (b : BayNo) : State :=
  match (s.bay b).pack with
  | none => s
  | some p =>
    match (s.bay b).state with
    | .charging =>
      if s.fillTarget b ≤ p.soc then
        (s.edit b (fun r => { r with state := .topped })).queueCmd b (.chargeStop false)
      else s
    | .topped =>
      if p.soc + 30 < s.fillTarget b then
        (s.edit b (fun r => { r with state := .charging })).queueCmd b (.chargeStart p.profile)
      else s
    | _ => s

/-- Finds a bay's band afresh; a change of band wants a match pass and recomputes the cap (R143). -/
def State.rebandBay (s : State) (b : BayNo) : State :=
  match (s.bay b).pack with
  | none => s
  | some p =>
    let band := bandOf s.derate p.temp
    if (s.bay b).band = some band then s
    else ((s.modBay b (fun r => { r with band := some band })).wantPass).recap b

/-- Recomputes the effective reserve and the walk-up open indication and hands the effective reserve
to the Grant Controller when it has changed: U in force is recomputed, and a fall of the reserve
wants a plan (R99, R103, R158, R162). -/
def State.recomputeReserve (s : State) : State :=
  let was := s.schedule.effective
  let now := reserveOf s.params.reserve s.schedule.windows
  let t := { s with schedule :=
    { s.schedule with effective := now, walkupsOpen := openOf s.schedule.windows } }
  if now = was then t
  else
    let t := t.recomputeUsable
    if now < was then t.wantReplan else t

end Sys2Proof.Machine
end

