-- ==== Sys2Proof/Machine/Matching.lean ====
section
/-! DEFINITION. The claim book's and the matcher's operations (chapters 3 and 4): entry into READY,
the READY test, the choice of a bay, the making and the loss of a match, the match pass, the closing of
a claim and its hand-back. -/

namespace Sys2Proof.Machine

/-! ### READY -/

/-- SoC in a bay's pack record; 0 when none is present. -/
def Bay.soc (r : Bay) : Nat :=
  match r.pack with
  | none => 0
  | some p => p.soc

/-- A claim enters READY on its take bay, with CLAIM-READY (R69). The first entry records the first
ready time and gives a walk-up its hold (R55). -/
def State.enterReady (s : State) (id : ClaimId) (b : BayNo) : State :=
  match s.claim? id with
  | none => s
  | some c =>
    let hold := s.now + walkupHold
    let t :=
      match c.firstReady with
      | some _ => s.modClaim id (fun c => { c with state := .ready })
      | none =>
        if c.isBooking then s.modClaim id (fun c => { c with state := .ready, firstReady := some s.now })
        else
          (s.modClaim id (fun c =>
            { c with state := .ready, firstReady := some s.now, expiry := s.storedTime hold })).countTime
              hold
    t.notify .claimReady (.claim id) (bayNumber b) (s.bay b).soc

/-- A claim falls back to MATCHED with CLAIM-UNREADY (R69, R75). -/
def State.fallUnready (s : State) (id : ClaimId) (b : BayNo) (level : Nat) : State :=
  let found := (s.bay b).unreadyFor level
  (s.modClaim id (fun c => { c with state := .matched })).notify .claimUnready (.claim id) found.1.code
    found.2

/-- The READY test on one claim (R68, R69): made for a MATCHED or READY claim on its take bay. -/
def State.retest (s : State) (id : ClaimId) : State :=
  match s.claim? id with
  | none => s
  | some c =>
    match c.takeBay, c.state with
    | some b, .matched => if (s.bay b).readyFor c.level then s.enterReady id b else s
    | some b, .ready => if (s.bay b).readyFor c.level then s else s.fallUnready id b c.level
    | _, _ => s

/-- The names of the open claims, in book order. -/
def State.claimIds (s : State) : List ClaimId := s.book.claims.map (fun c => c.id)

/-- The READY tests before a pass, in book order (R60). A claim whose inputs the arrival has not touched
agrees with its state already, and nothing comes of its test. -/
def State.retestAll (s : State) : State := s.claimIds.foldl State.retest s

/-! ### Choosing a bay -/

/-- The better of two bays: the higher SoC, the lower number among equals (R63). -/
def State.better (s : State) (best : Option BayNo) (b : BayNo) : Option BayNo :=
  match best with
  | none => some b
  | some a => if (s.bay a).soc < (s.bay b).soc then some b else some a

/-- The bay with the highest SoC among those that pass, the lowest number among equals (R63, R65). -/
def State.bestBay (s : State) (ok : Bay → Bool) : Option BayNo :=
  (allBays.filter (fun b => ok (s.bay b))).foldl s.better none

/-- A candidate for a claim in a section (R62). -/
def Bay.candidateIn (r : Bay) (sec : BaySection) (c : Claim) : Bool :=
  r.candidate c.cls && decide (r.bsection = sec)

/-- A candidate in a section whose SoC is at or above the claim's level (R65). -/
def Bay.candidateAt (r : Bay) (sec : BaySection) (c : Claim) : Bool :=
  r.candidateIn sec c && decide (c.level ≤ r.soc)

/-- A candidate in a section that would pass the READY test at once (R73). -/
def Bay.candidateReady (r : Bay) (sec : BaySection) (c : Claim) : Bool :=
  r.candidateIn sec c && r.readyFor c.level

/-- The bay a booking chooses (R63). -/
def State.chooseBooking (s : State) (c : Claim) : Option (BayNo × MatchDetail) :=
  match s.bestBay (fun r => r.candidateIn .booked c) with
  | some b => some (b, .own)
  | none =>
    if s.inHorizon c then
      match s.bestBay (fun r => r.candidateIn .walkup c) with
      | some b => some (b, .borrow)
      | none => none
    else none

/-- The bay a walk-up chooses (R65). -/
def State.chooseWalkup (s : State) (c : Claim) : Option (BayNo × MatchDetail) :=
  match s.bestBay (fun r => r.candidateAt .walkup c) with
  | some b => some (b, .own)
  | none =>
    match (if s.covered then s.bestBay (fun r => r.candidateAt .booked c) else none) with
    | some b => some (b, .borrow)
    | none =>
      match s.bestBay (fun r => r.candidateIn .walkup c) with
      | some b => some (b, .deadline)
      | none => none

/-- The bay a claim chooses in a pass. -/
def State.chooseBay (s : State) (c : Claim) : Option (BayNo × MatchDetail) :=
  if c.isBooking then s.chooseBooking c else s.chooseWalkup c

/-- The bay the replacement search finds (R73). -/
def State.findReplacement (s : State) (c : Claim) : Option BayNo :=
  if c.isBooking then
    match s.bestBay (fun r => r.candidateReady .booked c) with
    | some b => some b
    | none => if s.inHorizon c then s.bestBay (fun r => r.candidateReady .walkup c) else none
  else
    match s.bestBay (fun r => r.candidateReady .walkup c) with
    | some b => some b
    | none => if s.covered then s.bestBay (fun r => r.candidateReady .booked c) else none

/-! ### Making and losing a match -/

/-- Binds a claim to a bay (R66): both fields, the fill target, MATCHED unless SWAPPING,
CLAIM-MATCHED, replan wanted, and the READY test. -/
def State.bindClaim (s : State) (id : ClaimId) (b : BayNo) (d : MatchDetail) : State :=
  let s := s.modClaim id (fun c => { c with takeBay := some b })
  let s := s.modBay b (fun r => { r with matched := some id })
  let s := s.fillTest b
  let s := s.modClaim id (fun c => if c.state = .swapping then c else { c with state := .matched })
  let s := s.notify .claimMatched (.claim id) d.code (bayNumber b)
  s.wantReplan.retest id

/-- Unbinds a claim from its take bay (R70): both fields, the fill target, WAITING without a
projection (R39) unless SWAPPING (R71), CLAIM-UNMATCHED, replan wanted. -/
def State.unmatch (s : State) (id : ClaimId) (cause : LossCause) : State :=
  match s.claim? id with
  | none => s
  | some c =>
    match c.takeBay with
    | none => s
    | some b =>
      let s := s.modClaim id (fun c => { c with takeBay := none })
      let s := s.modBay b (fun r => { r with matched := none })
      let s := s.fillTest b
      let s := s.modClaim id
        (fun c => if c.state = .swapping then c else { c with state := .waiting, projected := none })
      let s := s.notify .claimUnmatched (.claim id) cause.code (bayNumber b)
      s.wantReplan.wantPass

/-! ### The match pass -/

/-- The WAITING claims that pass a test, in book order. -/
def State.waitingIds (s : State) (p : Claim → Bool) : List ClaimId :=
  (s.book.claims.filter (fun c => decide (c.state = .waiting) && p c)).map (fun c => c.id)

/-- Takes one WAITING claim of a pass (R61). -/
def State.takeWaiting (s : State) (id : ClaimId) : State :=
  match s.claim? id with
  | none => s
  | some c =>
    if c.state = .waiting then
      match s.chooseBay c with
      | some (b, d) => s.bindClaim id b d
      | none => s
    else s

/-- The claims a pass takes, in its three parts (R61). -/
def State.passIds (s : State) : List ClaimId :=
  s.waitingIds (fun c => c.isBooking && s.inHorizon c) ++ s.waitingIds (fun c => !c.isBooking)
    ++ s.waitingIds (fun c => c.isBooking && !s.inHorizon c)

/-- One match pass (R61). -/
def State.runPass (s : State) : State := s.passIds.foldl State.takeWaiting s

/-- The end of an arrival: the READY tests, and one pass when an event of R60 has come (R60). -/
def State.settle (s : State) : State :=
  let s := s.retestAll
  let s := if s.passDue then s.runPass else s
  { s with passDue := false }

/-! ### Closing and handing back -/

/-- The CLAIM-CLOSED notice of a claim (R44). -/
def closedNotice (c : Claim) (o : CloseOutcome) (now : Nat) : Notice where
  kind := .claimClosed
  time := now
  subject := .claim c.id
  detail := o.code
  value := if c.isBooking && decide (o = .fulfilled) then c.lateness else 0
  credit := c.returned

/-- Closes a claim (R43): the bay released, the record removed, CLAIM-CLOSED, a pass wanted. -/
def State.closeClaim (s : State) (id : ClaimId) (o : CloseOutcome) : State :=
  match s.claim? id with
  | none => s
  | some c =>
    let s :=
      match c.takeBay with
      | none => s
      | some b => ((s.modBay b (fun r => { r with matched := none })).fillTest b).wantReplan
    let s := s.setClaims (s.book.claims.filter (fun d => !decide (d.id = id)))
    (s.post (closedNotice c o s.now)).wantPass

/-- Closes a claim EXPIRED when its expiry time is at or before the present kiosk time and it is not
SWAPPING (R54, R56). -/
def State.expireIfDue (s : State) (id : ClaimId) : State :=
  match s.claim? id with
  | none => s
  | some c => if c.expiry ≤ s.now ∧ c.state ≠ .swapping then s.closeClaim id .expired else s

/-- Settles the state of a claim its exchange hands back (R72). -/
def State.handBack (s : State) (id : ClaimId) : State :=
  match s.claim? id with
  | none => s
  | some c =>
    match c.takeBay with
    | none => s.modClaim id (fun c => { c with state := .waiting, projected := none })
    | some b =>
      match (s.bay b).lossFor c.cls with
      | some cause => (s.modClaim id (fun c => { c with state := .matched })).unmatch id cause
      | none =>
        if (s.bay b).readyFor c.level then s.enterReady id b else s.fallUnready id b c.level

end Sys2Proof.Machine
end

