-- ==== Sys2Proof/Machine/Phases.lean ====
section
/-! DEFINITION. The exchange's phases and the loss of a take bay (chapter 7): entry into each phase,
the release of a binding, and what becomes of a match when its bay stops serving. -/

namespace Sys2Proof.Machine

/-! ### Lookups over the exchange table -/

/-- The lowest exchange number that no record holds (R111). -/
def State.freeExchange (s : State) : Option ExNo := allExchanges.find? (fun x => (s.exch x).isNone)

/-- The number of exchange records (R111). -/
def State.exchangeCount (s : State) : Nat := (allExchanges.filter (fun x => (s.exch x).isSome)).length

/-- The exchange of a SWAPPING claim: the record that names it in a phase before TAKE-CLOSING (R112). A record
in TAKE-CLOSING names a claim that has left the book, also where its pair has been opened anew (R40). -/
def State.exchangeOf (s : State) (id : ClaimId) : Option ExNo :=
  allExchanges.find? (fun x =>
    match s.exch x with
    | some e => decide (e.claim = id) && decide (e.phase ≠ .takeClosing)
    | none => false)

/-- An exchange's number. -/
def exchangeNumber (x : ExNo) : Nat := x.val + 1

/-- A phase before the take (R124). -/
def Phase.beforeTake : Phase → Bool
  | .intakeOpen | .intakeCheck | .returnRejected => true
  | .takeOpen | .takeClosing => false

/-! ### Entering a phase -/

/-- Enters a phase: the phase, its deadline, and SWAP-PHASE (R111, R112). -/
def State.enterPhase (s : State) (x : ExNo) (ph : Phase) : State :=
  match s.exch x with
  | none => s
  | some e =>
    (s.setExch x (some { e with phase := ph, deadline := ph.length, relink := false })).notify .swapPhase
      (.claim e.claim) (ph.code + 1) (exchangeNumber x)

/-- Enters INTAKE-OPEN on an intake bay, with UNLOCK unless an abort waits (R114, R116). -/
def State.enterIntakeOpen (s : State) (x : ExNo) (b : BayNo) (unlock : Bool) : State :=
  (if unlock then s.queueUnlock b else s).enterPhase x .intakeOpen

/-- Enters RETURN-REJECTED: UNLOCK for the intake bay, 60 s (R118). -/
def State.enterReturnRejected (s : State) (x : ExNo) (b : BayNo) : State :=
  (s.queueUnlock b).enterPhase x .returnRejected

/-- Enters TAKE-OPEN: UNLOCK for the take bay, 60 s (R119). -/
def State.enterTakeOpen (s : State) (x : ExNo) (b : BayNo) : State :=
  (s.queueUnlock b).enterPhase x .takeOpen

/-! ### Losing the take bay -/

/-- Sets or clears a bay's exchange role (R16). -/
def State.setRole (s : State) (b : BayNo) (role : Role) : State := s.edit b (fun r => { r with role := role })

/-- Releases the binding of a SWAPPING claim (R71, R124): the match, the TAKE role and the record's take
bay go. -/
def State.releaseTake (s : State) (x : ExNo) (id : ClaimId) (b : BayNo) (cause : LossCause) : State :=
  ((s.unmatch id cause).setRole b .none).modExch x (fun e => { e with take := none })

/-- A SWAPPING claim's take bay stops serving: the binding is released before the take and kept in a take
phase (R124). -/
def State.takeLoss (s : State) (b : BayNo) (id : ClaimId) (cause : LossCause) : State :=
  match (s.bay b).role with
  | .take x =>
    match s.exch x with
    | none => s
    | some e => if e.phase.beforeTake then s.releaseTake x id b cause else s
  | _ => s

/-- A matched bay stops serving its claim: a MATCHED or READY claim is unmatched (R70), a SWAPPING
claim's loss goes to its exchange (R71). -/
def State.loseMatch (s : State) (b : BayNo) (cause : LossCause) : State :=
  match (s.bay b).matched with
  | none => s
  | some id =>
    match s.claim? id with
    | none => s
    | some c => if c.state = .swapping then s.takeLoss b id cause else s.unmatch id cause

/-- The holding test of a MATCHED or READY claim on its bay (R67): a bay that fails it loses its match. -/
def State.holdTest (s : State) (b : BayNo) : State :=
  match (s.bay b).matched with
  | none => s
  | some id =>
    match s.claim? id with
    | none => s
    | some c =>
      match (s.bay b).lossFor c.cls with
      | none => s
      | some cause => s.loseMatch b cause

end Sys2Proof.Machine
end

