-- ==== Sys2Proof/Machine/Faults.lean ====
section
/-! DEFINITION. Bay faults and kiosk faults (chapter 9): raising a cause, becoming FAULTED, the
precedence of causes, and the return watch's notice at an admission's result. -/

namespace Sys2Proof.Machine

/-- The return watch at an admission's result: UNCLAIMED-RETURN, and the entry goes (R123). -/
def State.watchResult (s : State) (b : BayNo) : State :=
  match (s.bay b).watch with
  | none => s
  | some w =>
    (s.modBay b (fun r => { r with watch := none })).notify .unclaimedReturn (.claim w.claim)
      w.outcome.code (bayNumber b)

/-- The intake bay of an exchange has become FAULTED before its admission result: RETURN-REJECTED
(R115, R116, R151). -/
def State.rejectIntake (s : State) (b : BayNo) : State :=
  match (s.bay b).role with
  | .intake x =>
    match s.exch x with
    | none => s
    | some e =>
      match e.phase with
      | .intakeOpen | .intakeCheck => s.enterReturnRejected x b
      | _ => s
  | _ => s

/-- The loss cause a fault gives a match (R70). -/
def FaultCause.loss : FaultCause → LossCause
  | .packMissing => .removal
  | _ => .fault

/-- A bay holding no cause becomes FAULTED (R151). The return watch's notice of an admission that ends so comes
after BAY-FAULT (log entry 34). `ending` says that the cause is a DOOR-AJAR of the
exchange's own ending, which moves the exchange to no other phase. A PROFILE fault is an admission
result, and moves it to none either (R116). -/
def State.becomeFaulted (s : State) (b : BayNo) (k : FaultCause) (value : Nat) (ending : Bool) : State :=
  let was := s.bay b
  let s := s.edit b (fun r => { r with state := .faulted, cause := some k, admission := none })
  let s := if was.holdsCharged then s.queueCmd b (.chargeStop false) else s
  let s := if was.admission.isSome then s.withdrawIdentify b else s
  let s := if was.admission.isSome && decide (k = .packError) then s.clearPack b else s
  let s := s.loseMatch b k.loss
  let s := if ending || decide (k = .profile) then s else s.rejectIntake b
  let s := s.notify .bayFault (.bay b) k.code value
  if was.admission.isSome && decide (k = .packError) then s.watchResult b else s

/-- Raises a fault cause on a bay (R148): it is set, replaces one of lower precedence, or changes
nothing. -/
def State.raiseFault (s : State) (b : BayNo) (k : FaultCause) (value : Nat) (ending : Bool) : State :=
  match (s.bay b).cause with
  | none => s.becomeFaulted b k value ending
  | some old =>
    if k.precedence < old.precedence then
      (s.edit b (fun r => { r with cause := some k })).notify .bayFault (.bay b) k.code value
    else s

/-- Sends BAY-CLEARED (R11, R12, R34, R153). -/
def State.sayCleared (s : State) (b : BayNo) (k : FaultCause) (value : Nat) : State :=
  s.notify .bayCleared (.bay b) k.code value

/-! ### Kiosk faults (R152): a report of a member held and a withdrawal of one not held change nothing -/

/-- Reports a member with the present kiosk time. -/
def reportMember (held : Option Nat) (now : Nat) : Option Nat := some (held.getD now)

/-- LINK-DOWN is reported. -/
def State.reportLinkDown (s : State) : State :=
  { s with faults := { s.faults with linkDown := reportMember s.faults.linkDown s.now } }

/-- LINK-DOWN is withdrawn. -/
def State.withdrawLinkDown (s : State) : State := { s with faults := { s.faults with linkDown := none } }

/-- FEED-STALE is reported. -/
def State.reportFeedStale (s : State) : State :=
  { s with faults := { s.faults with feedStale := reportMember s.faults.feedStale s.now } }

/-- FEED-STALE is withdrawn. -/
def State.withdrawFeedStale (s : State) : State := { s with faults := { s.faults with feedStale := none } }

/-- HALT is reported. -/
def State.reportHalt (s : State) : State :=
  { s with faults := { s.faults with halt := reportMember s.faults.halt s.now } }

/-- HALT is withdrawn. -/
def State.withdrawHalt (s : State) : State := { s with faults := { s.faults with halt := none } }

end Sys2Proof.Machine
end

