-- ==== Sys2Proof/Machine/Swap.lean ====
section
/-! DEFINITION. The swap exchange after its start (chapter 7): its ending, the take, the replacement of
a lost take bay, and what each report, deadline and loss does to it. -/

namespace Sys2Proof.Machine

/-! ### Ending an exchange -/

/-- Clears the role of a bay of an exchange, if there is one (R121). -/
def State.clearRole (s : State) : Option BayNo → State
  | none => s
  | some b => s.setRole b .none

/-- Places a bay on the return watch, if the ending calls for it (R123). -/
def State.placeWatch (s : State) (b : Option BayNo) (w : Watch) : State :=
  match b with
  | none => s
  | some b => s.modBay b (fun r => { r with watch := some w })

/-- The bay is placed on the return watch when its last report showed a pack sensed or the door OPEN
(R118, R123). -/
def Bay.leftBehind (r : Bay) : Bool := r.sensed || decide (r.door = .opened)

/-- A watch for a bay whose last report shows something left behind (R123). -/
def State.watchIfLeft (s : State) (b : BayNo) : Option BayNo :=
  if (s.bay b).leftBehind then some b else none

/-- DOOR-AJAR on a bay whose door was last reported OPEN (R149). -/
def State.ajarIfOpen (s : State) (b : BayNo) : State :=
  if (s.bay b).door = .opened then s.raiseFault b .doorAjar 0 true else s

/-- The outcomes after which the claim is handed back (R121). -/
def Outcome.handsBack : Outcome → Bool
  | .done | .unconfirmed => false
  | _ => true

/-- Ends an exchange (R121). `locks` are the bays LOCK is queued for, `ajar` those judged for DOOR-AJAR,
`watch` the intake bay placed on the return watch. -/
def State.endExchange (s : State) (x : ExNo) (o : Outcome) (locks ajar : List BayNo)
    (watch : Option BayNo) : State :=
  match s.exch x with
  | none => s
  | some e =>
    let s := locks.foldl State.queueLock s
    let s := ajar.foldl State.ajarIfOpen s
    let s := (s.clearRole e.intake).clearRole e.take
    let s := s.placeWatch watch { claim := e.claim, outcome := o }
    let s := s.setExch x none
    let s := s.notify .swapEnd (.claim e.claim) o.code (exchangeNumber x)
    if o.handsBack then ((s.handBack e.claim).expireIfDue e.claim).wantPass else s

/-! ### The take -/

/-- The replacement search for an exchange without a take bay, and the take, or NO-PACK (R117, R124). -/
def State.seekReplacement (s : State) (x : ExNo) (id : ClaimId) : State :=
  match s.claim? id with
  | none => s
  | some c =>
    match s.findReplacement c with
    | none => s.endExchange x .noPack [] [] none
    | some b =>
      (((s.bindClaim id b .replacement).modExch x (fun e => { e with take := some b })).setRole b
        (.take x)).enterTakeOpen x b

/-- The take is needed: TAKE-OPEN, a replacement, or NO-PACK (R117). -/
def State.takeNeeded (s : State) (x : ExNo) (e : Exchange) : State :=
  match s.claim? e.claim with
  | none => s
  | some c =>
    match e.take with
    | some b =>
      if (s.bay b).readyFor c.level then s.enterTakeOpen x b else s.endExchange x .noPack [] [] none
    | none => s.seekReplacement x e.claim

/-- The intake bay's admission result in INTAKE-CHECK: the credit, then the take, or ABORTED when an
abort waits (R116, R127). -/
def State.intakeResult (s : State) (b : BayNo) (pack : PackId) : State :=
  match (s.bay b).role with
  | .intake x =>
    match s.exch x with
    | none => s
    | some e =>
      if e.phase = .intakeCheck then
        let s := s.modClaim e.claim (fun c => { c with returned := some pack })
        if e.abort then s.endExchange x .aborted [] [] none else s.takeNeeded x e
      else s
  | _ => s

/-- A take bay's pack may have changed in TAKE-OPEN (R124): the match goes, LOCK is queued, the TAKE role
goes; then ABORTED, a replacement, or NO-PACK. -/
def State.takeChanged (s : State) (x : ExNo) (e : Exchange) (b : BayNo) : State :=
  let s := s.unmatch e.claim .packChanged
  let s := (s.queueLock b).setRole b .none
  let s := s.modExch x (fun e => { e with take := none })
  if e.abort then s.endExchange x .aborted [] [] none else s.seekReplacement x e.claim

/-- A readmission drops the bay's match (R36): a MATCHED or READY claim returns to WAITING, a SWAPPING
claim's loss goes to its exchange (R71, R124). -/
def State.dropMatchChanged (s : State) (b : BayNo) : State :=
  match (s.bay b).role with
  | .take x =>
    match s.exch x with
    | none => s
    | some e => if e.phase = .takeOpen then s.takeChanged x e b else s.loseMatch b .packChanged
  | _ => s.loseMatch b .packChanged

/-! ### Removals and reports -/

/-- The pack is taken in TAKE-OPEN (R119, R120): the claim closes FULFILLED, TAKE-CLOSING is entered, and
ends at once when the same report shows the door CLOSED. -/
def State.packTaken (s : State) (x : ExNo) (e : Exchange) (b : BayNo) : State :=
  let s := (s.closeClaim e.claim .fulfilled).enterPhase x .takeClosing
  if (s.bay b).door = .closed then s.endExchange x .done [b] [] none else s

/-- A removal is handed to the exchange of the bay (R11, R12, R116, R119, R124). `role` is the role the
bay held. -/
def State.exchangeRemoval (s : State) (b : BayNo) (role : Role) : State :=
  match role with
  | .none => s
  | .take x =>
    match s.exch x with
    | none => s
    | some e =>
      match e.phase with
      | .takeOpen => s.packTaken x e b
      | .takeClosing => s
      | _ => s.releaseTake x e.claim b .removal
  | .intake x =>
    match s.exch x with
    | none => s
    | some e =>
      if e.phase = .intakeCheck ∧ (s.bay b).state = .vacant then s.enterIntakeOpen x b (!e.abort) else s

/-- What a report that has not moved the exchange already does to it, by the phase (R115, R118, R120,
R125, R127). `back` says that the bay's link has returned with this report; in RETURN-REJECTED nothing is queued for
it (log entry 42). -/
def State.exchangeFollow (s : State) (x : ExNo) (e : Exchange) (b : BayNo) (back : Bool) : State :=
  let r := s.bay b
  match e.phase, r.role with
  | .intakeOpen, .intake _ =>
    if r.door = .closed ∧ r.sensed = true then (s.queueLock b).enterPhase x .intakeCheck
    else if e.abort = true ∧ r.door = .closed ∧ r.latch = .locked ∧ r.sensed = false then
      s.endExchange x .aborted [] [] (s.watchIfLeft b)
    else s
  | .returnRejected, .intake _ =>
    if r.sensed = false ∧ r.door = .closed then s.endExchange x .returnRejected [b] [] none else s
  | .takeOpen, .take _ =>
    if e.abort = true then
      if r.door = .closed ∧ r.latch = .locked ∧ r.sensed = true then s.endExchange x .aborted [] [] none
      else s
    else if e.relink || back then
      if r.latch = .locked then (s.queueUnlock b).modExch x (fun e => { e with relink := false })
      else s.modExch x (fun e => { e with relink := true })
    else s
  | .takeClosing, .take _ =>
    if r.door = .closed then s.endExchange x .done [b] [] none else s
  | _, _ => s

/-- The exchange number of a role. -/
def Role.exchange? : Role → Option ExNo
  | .none => .none
  | .intake x => some x
  | .take x => some x

/-- The Exchange Controller follows a report of a bay of an exchange, unless the report's earlier steps
have moved the exchange to another phase. `before` is the exchange as the report found it. -/
def State.exchangeReport (s : State) (b : BayNo) (before : Option Exchange) (back : Bool) : State :=
  match (s.bay b).role.exchange?, before with
  | some x, some e0 =>
    match s.exch x with
    | none => s
    | some e => if e.phase = e0.phase ∧ e.claim = e0.claim then s.exchangeFollow x e b back else s
  | _, _ => s

/-! ### Deadlines -/

/-- The phase deadline of an exchange runs out in `ph`, and `act` is that phase's rule; in any other phase
no such deadline exists and nothing comes of it (R115). -/
def State.atDeadline (s : State) (x : ExNo) (ph : Phase) (act : State → Exchange → State) : State :=
  match s.exch x with
  | none => s
  | some e => if e.phase = ph then act s e else s

/-- R115: INTAKE-TIMEOUT. -/
def State.intakeOpenExpired (s : State) (x : ExNo) (e : Exchange) : State :=
  match e.intake with
  | none => s
  | some b => s.endExchange x .intakeTimeout [b] [b] (some b)

/-- R116: PACK-ERROR on the intake bay, which sends the exchange to RETURN-REJECTED. -/
def State.intakeCheckExpired (s : State) (e : Exchange) : State :=
  match e.intake with
  | none => s
  | some b => s.raiseFault b .packError 2 false

/-- R118: RETURN-REJECTED. -/
def State.returnRejectedExpired (s : State) (x : ExNo) (e : Exchange) : State :=
  match e.intake with
  | none => s
  | some b => s.endExchange x .returnRejected [b] [b] (s.watchIfLeft b)

/-- R119, R125: TAKE-TIMEOUT, or UNCONFIRMED with the take bay LOST. -/
def State.takeOpenExpired (s : State) (x : ExNo) (e : Exchange) : State :=
  match e.take with
  | none => s
  | some b =>
    if (s.bay b).link = .lost then
      (s.closeClaim e.claim .unconfirmed).endExchange x .unconfirmed [b] [] none
    else s.endExchange x .takeTimeout [b] [b] none

/-- R120, R125: DONE. -/
def State.takeClosingExpired (s : State) (x : ExNo) (e : Exchange) : State :=
  match e.take with
  | none => s
  | some b => s.endExchange x .done [b] [b] none

end Sys2Proof.Machine
end

