-- ==== Sys2Proof/Machine/Admission.lean ====
section
/-! DEFINITION. The Admission Unit (chapter 2): starting an admission, identification and its failures,
the check of an identity, the admission result, charge commands that fail, refusals and downshift. -/

namespace Sys2Proof.Machine

/-! ### Starting an admission -/

/-- What the start of an admission does to the bay record by its cause (R22): an INSERTION clears the pack
record and the ceiling and copies the staged set, a RESTART copies the set and clears the ceiling, a
FAULT-CLEAR leaves them. -/
def Bay.admitAs (r : Bay) : AdmissionCause → Bay
  | .insertion => { r with inForce := r.staged, ceiling := none, pack := none, band := none }
  | .restart => { r with inForce := r.staged, ceiling := none }
  | .faultClear => r

/-- Starts an admission (R22): a running one's IDENTIFY is withdrawn, the bay is ADMITTING with a new
admission number, no attempt and not held, and IDENTIFY is queued. -/
def State.startAdmission (s : State) (b : BayNo) (k : AdmissionCause) : State :=
  let had := (s.bay b).pack.isSome
  let n := s.admissions + 1
  let s := { s.withdrawIdentify b with admissions := n }
  let s := s.edit b (fun r =>
    { r.admitAs k with
      state := .admitting
      cause := none
      admission := some { cause := k, attempts := 0, held := false, number := n } })
  let s := if had && decide (k = .insertion) then s.recap b else s
  s.queueIdentify b

/-! ### Refusals and downshift -/

/-- A downshift, or the CHARGE fault when no lower profile is shared (R31, R32). -/
def State.downshift (s : State) (b : BayNo) (p : Pack) : State :=
  match lowerProfile p.abilities (s.bay b).inForce p.health p.profile with
  | none => s.raiseFault b .charge p.profile.rate false
  | some q =>
    let s := s.modBay b (fun r => { r with
      pack := r.pack.map (fun p => { p with profile := q, refusals := 0 })
      ceiling := some q })
    let s := s.notify .downshift (.bay b) (profileDetail q) q.rate
    (s.recap b).queueCmd b (.chargeStart q)

/-- Writes a bay's refusal count. -/
def State.setRefusals (s : State) (b : BayNo) (n : Nat) : State :=
  s.modBay b (fun r => { r with pack := r.pack.map (fun p => { p with refusals := n }) })

/-- Counts one refusal and compares the count with the downshift count (R30). -/
def State.countRefusal (s : State) (b : BayNo) : State :=
  match (s.bay b).pack with
  | none => s
  | some p =>
    let n := p.refusals + 1
    let s := s.setRefusals b n
    if s.params.downshift ≤ n then s.downshift b p else s

/-- The session state of a report of a CHARGING bay (R30). -/
def State.takeSession (s : State) (b : BayNo) (x : Session) : State :=
  if (s.bay b).state = .charging then
    match x with
    | .refused => s.countRefusal b
    | .active => s.setRefusals b 0
    | .idle => s
  else s

/-- A charge command failed with the link REACHABLE (R29). -/
def State.chargeFailed (s : State) (b : BayNo) (c : BusCmd) : State :=
  let r := s.bay b
  match c with
  | .chargeStart _ =>
    if r.state = .charging then
      match r.pack with
      | none => s
      | some p =>
        let t := s.countRefusal b
        if s.params.downshift ≤ p.refusals + 1 then t else t.queueCmd b (.chargeStart p.profile)
    else s
  | .chargeStop byRestart =>
    if r.state = .topped ∨ r.state = .faulted ∨ (r.state = .admitting ∧ byRestart = true) then
      s.queueCmd b (.chargeStop byRestart)
    else s
  | _ => s

/-! ### Identification -/

/-- The present admission's IDENTIFY ended without an identity, the link REACHABLE (R23): queued again, or
PACK-ERROR at the third attempt. -/
def State.identifyFailed (s : State) (b : BayNo) : State :=
  match (s.bay b).admission with
  | none => s
  | some a => if a.attempts < 3 then s.queueIdentify b else s.raiseFault b .packError 2 false

/-- The admission of a bay whose link is LOST is held (R24). -/
def State.holdAdmission (s : State) (b : BayNo) : State :=
  s.modBay b (fun r => { r with admission := r.admission.map (fun a => { a with held := true }) })

/-- A held admission resumes at the link's return (R24). -/
def State.resumeAdmission (s : State) (b : BayNo) : State :=
  (s.modBay b (fun r => { r with
    admission := r.admission.map (fun a => { a with held := false, attempts := 0 }) })).queueIdentify b

/-- The pack record an accepted identity makes (R27). -/
def newPack (i : Identity) (cls : PackClass) (rep : ShortReport) (profile : Profile) : Pack where
  id := i.packId
  capacity := i.capacity
  cls := cls
  soc := clampSoc rep.soc
  temp := clampTemp rep.temp
  abilities := i.abilities
  health := i.health
  profile := profile
  refusals := 0
  socUsed := none

/-- A kept record's pack id differs from the identity's (R35, R37). -/
def Bay.otherPack (r : Bay) (i : Identity) : Bool :=
  match r.pack with
  | none => false
  | some p => !decide (p.id = i.packId)

/-- What a different pack id does before the result: a RESTART admission's claim is unmatched (R35), a
FAULT-CLEAR admission's ceiling is cleared (R37). -/
def State.settleOther (s : State) (b : BayNo) (a : Admission) (i : Identity) : State :=
  if (s.bay b).otherPack i then
    match a.cause with
    | .restart => s.loseMatch b .packChanged
    | .faultClear => s.modBay b (fun r => { r with ceiling := none })
    | .insertion => s
  else s

/-- Writes the new pack record, finds its band, and recomputes the cap; a new record brings a health grade
and class to the Matcher (R27, R102, R143, R18a). -/
def State.writePack (s : State) (b : BayNo) (p : Pack) : State :=
  ((s.modBay b (fun r => { r with pack := some p, band := some (bandOf s.derate p.temp) })).wantPass).recap
    b

/-- An admission ends in a bay state other than FAULTED (R8, R27). -/
def State.admitTo (s : State) (b : BayNo) (st : BayState) : State :=
  s.edit b (fun r => { r with state := st, admission := none })

/-- Delivers the result of an admission whose pack record has been written (R27, R28). `resolved` is the
profile of R26, if there is one. -/
def State.deliverResult (s : State) (b : BayNo) (p : Pack) (resolved : Option Profile) : State :=
  if p.health = .retire then s.admitTo b .withheld
  else
    match resolved with
    | none => s.raiseFault b .profile 0 false
    | some q =>
      if s.fillTarget b ≤ p.soc then (s.admitTo b .topped).queueCmd b (.chargeStop false)
      else (s.admitTo b .charging).queueCmd b (.chargeStart q)

/-- An identity answers the present admission (R25 to R27): checked, resolved, recorded, and the result
delivered to the Bay Table, the Matcher, the return watch and the exchange. The capacity is checked before the pack
ids are compared (log entry 38), and UNCLAIMED-RETURN is sent before the exchange's notices (log entry 34). -/
def State.acceptIdentity (s : State) (b : BayNo) (a : Admission) (i : Identity) (rep : ShortReport) :
    State :=
  match classOf i.capacity with
  | none => s.raiseFault b .packError 3 false
  | some cls =>
    let s := s.settleOther b a i
    let r := s.bay b
    let resolved := resolveProfile i.abilities r.inForce i.health r.ceiling
    let p := newPack i cls rep (resolved.getD .p0)
    let s := (s.writePack b p).deliverResult b p resolved
    ((s.holdTest b).watchResult b).intakeResult b i.packId

/-- An identification reply, its report already applied (R23): taken for the present admission when the
bay is in ADMITTING under the number its IDENTIFY was queued with, and discarded otherwise. -/
def State.takeAnswer (s : State) (b : BayNo) (number : Nat) (ans : Answer) (rep : ShortReport) : State :=
  match (s.bay b).admission with
  | none => s
  | some a =>
    if (s.bay b).state = .admitting ∧ a.number = number then
      match ans with
      | .unreadable => s.identifyFailed b
      | .identity i => s.acceptIdentity b a i rep
    else s

end Sys2Proof.Machine
end

