-- ==== Sys2Proof/Machine/Report.lean ====
section
/-! DEFINITION. Taking a short report (R6): the fields, removal, insertion, re-admission, the pack-fault
flag and the temperature, the session state, the fill target and the door, in the manual's order; then
what the Exchange Controller makes of it. -/

namespace Sys2Proof.Machine

/-! ### The fields -/

/-- The bay record with a report's fields taken (R6). A latch reported LOCKED takes the bay off the relock
list (R122). -/
def Bay.report (r : Bay) (rep : ShortReport) : Bay :=
  { r with
    door := rep.door
    latch := rep.latch
    sensed := rep.sensed
    count := rep.count
    lastTemp := clampTemp rep.temp
    lastFault := rep.packFault
    relock := r.relock && decide (rep.latch = .unlocked)
    pack := r.pack.map (fun p => { p with soc := clampSoc rep.soc, temp := clampTemp rep.temp }) }

/-- Two SoCs lie on different sides of a level (R18a, R60). -/
def crosses (level old new : Nat) : Bool := decide (old < level) != decide (new < level)

/-- The distance between two SoCs (R100). -/
def socGap (a b : Nat) : Nat := (a - b) + (b - a)

/-- A changed SoC differs from the one the plan in force used by the SoC deadband, and by at least 1
(R100). -/
def overDeadband (band : Nat) (used : Option Nat) (new : Nat) : Bool :=
  match used with
  | none => false
  | some u => decide (band ≤ socGap new u) && decide (1 ≤ socGap new u)

/-- The hand-ons of a changed SoC: the level of a WAITING claim crossed wants a pass (R60), the deadband a
plan (R100). The level of the bay's own claim crossed wants no pass; its READY test is made at the arrival's end
(R69, log entry 37). -/
def State.socChanged (s : State) (b : BayNo) (old : Pack) : State :=
  let new := (s.bay b).soc
  if new = old.soc then s
  else
    let s := if overDeadband s.params.socBand old.socUsed new then s.wantReplan else s
    if s.book.claims.any (fun c => decide (c.state = .waiting) && crosses c.level old.soc new) then s.wantPass
    else s

/-- Takes the fields of a report into a bay's record, with their hand-ons (R6). Eligibility that a door OPEN or a latch
UNLOCKED ends is handed on here, before the band and the session state lower a cap (log entry 41). -/
def State.takeFields (s : State) (b : BayNo) (rep : ShortReport) : State :=
  let t := s.edit b (fun r => r.report rep)
  match (s.bay b).pack with
  | none => t
  | some p => if rep.sensed then t.socChanged b p else t

/-! ### Removal (R11, R12) -/

/-- A removal after which the bay is VACANT: the pack record and any cause and admission go, with
BAY-CLEARED for a cause (R11, R12, R21). -/
def State.emptyBay (s : State) (b : BayNo) : State :=
  let r := s.bay b
  let s := if r.admission.isSome then s.withdrawIdentify b else s
  let s := s.edit b (fun r => { r.withoutPack with state := .vacant, cause := none, admission := none })
  let s := if r.pack.isSome then s.recap b else s
  match r.cause with
  | none => s
  | some k => s.sayCleared b k 0

/-- An unexpected removal: the pack record is cleared and PACK-MISSING raised (R12, R150). -/
def State.missPack (s : State) (b : BayNo) : State :=
  let had := (s.bay b).pack.isSome
  let s := (s.modBay b Bay.withoutPack).raiseFault b .packMissing 0 false
  if had then s.recap b else s

/-- The removal rules, by the role and the state (R11, R12). -/
def State.removePack (s : State) (b : BayNo) : State :=
  let r := s.bay b
  match r.role with
  | .take _ => s.emptyBay b
  | .intake _ =>
    match r.state with
    | .vacant => s
    | .admitting => s.emptyBay b
    | .faulted => if r.cause = some .packError then s.emptyBay b else s.clearPack b
    | _ => s.missPack b
  | .none => if r.state = .vacant then s else s.missPack b

/-! ### Insertion and re-admission -/

/-- Whether a VACANT bay that senses a pack admits it: an INTAKE bay only with its door CLOSED (R7). -/
def Bay.admits (r : Bay) : Bool :=
  decide (r.state = .vacant) && r.sensed &&
    (match r.role with | .intake _ => decide (r.door = .closed) | _ => true)

/-- The insertion rule (R7). -/
def State.insertPack (s : State) (b : BayNo) : State :=
  if (s.bay b).admits then s.startAdmission b .insertion else s

/-- The pack may not be the one recorded (R36). The exchange of a take bay acts on it at once, before the later
steps of the same report (log entry 31). -/
def State.readmit (s : State) (b : BayNo) : State :=
  match (s.bay b).state with
  | .vacant => s
  | .faulted => (s.clearPack b).dropMatchChanged b
  | _ => (s.startAdmission b .insertion).dropMatchChanged b

/-- The link has returned with the pack record standing: a held admission resumes, the charging session is
restored (R24, R28, R36). -/
def State.restoreLink (s : State) (b : BayNo) : State :=
  let r := s.bay b
  match r.state, r.pack with
  | .admitting, _ =>
    (match r.admission with
    | none => s
    | some a => if a.held then s.resumeAdmission b else s)
  | .charging, some p => s.queueCmd b (.chargeStart p.profile)
  | .topped, some _ => s.queueCmd b (.chargeStop false)
  | _, _ => s

/-! ### The whole report -/

/-- The pack-fault flag, the fault limit and the band of a report (R6, R143, R147, R150). -/
def State.takeHeat (s : State) (b : BayNo) (rep : ShortReport) : State :=
  let s := if rep.sensed && rep.packFault then s.raiseFault b .packError 1 false else s
  let t := clampTemp rep.temp
  let s := if rep.sensed && decide (faultLimit ≤ t) then s.raiseFault b .hot t.toNat false else s
  s.rebandBay b

/-- The door rule: DOOR-FORCED on a bay with role NONE whose door is reported OPEN (R13, R149). -/
def State.takeDoor (s : State) (b : BayNo) : State :=
  if (s.bay b).door = .opened ∧ (s.bay b).role = .none then s.raiseFault b .doorForced 0 false else s

/-- A watch entry goes without notice when a report shows no pack and the door CLOSED (R123). -/
def State.dropWatch (s : State) (b : BayNo) : State :=
  if (s.bay b).sensed = false ∧ (s.bay b).door = .closed then s.modBay b (fun r => { r with watch := none })
  else s

/-- LOCK is queued again for a bay of the relock list that returns UNLOCKED (R122). The list is read as the report's
earlier steps have left it (log entry 40). -/
def State.relockBack (s : State) (b : BayNo) (back : Bool) : State :=
  if back = true ∧ (s.bay b).relock = true ∧ (s.bay b).latch = .unlocked then s.queueLock b else s

/-- Takes a short report (R6). `back` says that the bay's link has returned from LOST with it. A TAKE role that
a removal, a re-admission or a fault of this report has released (R124) is gone when the door rule is applied,
so a door OPEN in the report raises DOOR-FORCED (log entries 15 and 31). -/
def State.applyReport (s : State) (b : BayNo) (rep : ShortReport) (back : Bool) : State :=
  let was := s.bay b
  let exchange := was.role.exchange?.bind s.exch
  let moved := decide (was.state ≠ .vacant) && rep.sensed && (decide (rep.count ≠ was.count) || rep.restart)
  let s := s.takeFields b rep
  let s := if was.sensed && !rep.sensed then (s.removePack b).exchangeRemoval b was.role else s
  let s := s.insertPack b
  let s := if moved then s.readmit b else if back then s.restoreLink b else s
  let s := s.takeHeat b rep
  let s := s.takeSession b rep.session
  let s := s.fillTest b
  let s := s.takeDoor b
  let s := s.dropWatch b
  let s := s.relockBack b back
  s.exchangeReport b exchange (back && !moved)

end Sys2Proof.Machine
end

