-- ==== Sys2Proof/Machine/BayBus.lean ====
section
/-! DEFINITION. The bay bus (chapter 8): the arbiter, answers and misses, what becomes of a command, link
states, LINK-DOWN, and the commands BUS_DISPATCH, LOCK_ALL_SENT, BAY_REPLY and
ANSWER_PERIOD_TIMEOUT. -/

namespace Sys2Proof.Machine

/-- The bay a transaction in flight is addressed to; none for the broadcast (R129, R130). -/
def Flight.bay? : Flight → Option BayNo
  | .lockAll => none
  | .poll b => some b
  | .command e _ => some e.bay

/-! ### The arbiter (R136, R137) -/

/-- The bay after a bay in the rotation (R137). -/
def nextBay (b : BayNo) : BayNo := ⟨(b.val + 1) % 24, by omega⟩

/-- What the arbiter sends next on an idle bus (R136). -/
def Bus.dispatch (u : Bus) : Bus :=
  if u.lockAllPending then { u with flight := some .lockAll, lockAllPending := false }
  else
    match u.queue with
    | e :: rest =>
      if u.sent < 4 then
        { u with queue := rest, flight := some (.command e true), sent := u.sent + 1 }
      else { u with flight := some (.poll u.nextPoll), sent := 0, nextPoll := nextBay u.nextPoll }
    | [] => { u with flight := some (.poll u.nextPoll), sent := 0, nextPoll := nextBay u.nextPoll }

/-- The bus falls idle and the arbiter chooses (R136); on a bus that is not idle nothing is chosen. -/
def State.dispatchBus (s : State) : State :=
  match s.bus.flight with
  | some _ => s
  | none => s.modBus Bus.dispatch

/-- The transaction in flight ends: the bus is idle, and a command that has kept its place leaves the queue
(R129, R133). -/
def Bus.land (u : Bus) : Bus := Bus.refill { u with flight := none }

/-- The broadcast has been sent (R129, R141). -/
def State.endLockAll (s : State) : State :=
  match s.bus.flight with
  | some .lockAll => s.modBus Bus.land
  | _ => s

/-! ### Link changes -/

/-- A bay's link state changes: the record, the hand-ons of R15, BAY-LINK. -/
def State.changeLink (s : State) (b : BayNo) (l : Link) : State :=
  (s.edit b (fun r => { r with link := l })).notify .bayLink (.bay b) (l.code + 1) 0

/-- The link of an exchange's intake bay is lost (R125): LINK-LOST in INTAKE-OPEN and INTAKE-CHECK. -/
def State.exchangeLinkLost (s : State) (b : BayNo) : State :=
  match (s.bay b).role with
  | .intake x =>
    match s.exch x with
    | none => s
    | some e =>
      match e.phase with
      | .intakeOpen | .intakeCheck => s.endExchange x .linkLost [b] [] (some b)
      | _ => s
  | _ => s

/-- All 24 bays are LOST (R140). -/
def State.allLost (s : State) : Bool := allBays.all (fun b => decide ((s.bay b).link = .lost))

/-- LINK-DOWN is raised when a change of link state has left all 24 bays LOST (R140). -/
def State.raiseLinkDown (s : State) : State :=
  if s.allLost then s.reportLinkDown.notify .linkDown .none 1 0 else s

/-- A bay's link becomes LOST (R15, R138, R139): the match is lost, its commands are dropped, its admission
is held, its exchange acts by the phase, and LINK-DOWN may follow. BAY-LINK is sent before
CLAIM-UNMATCHED, and LINK-DOWN after the notices of that exchange's end (log entry 33). -/
def State.loseLink (s : State) (b : BayNo) : State :=
  let s := (s.changeLink b .lost).loseMatch b .link
  let s := (s.modBus (fun u => u.dropBay b)).holdAdmission b
  (s.exchangeLinkLost b).raiseLinkDown

/-- LINK-DOWN clears at an answer: withdrawn, LINK-DOWN CLEARED with the bay's number, LOCK-ALL pending
(R140, R141). -/
def State.clearLinkDown (s : State) (b : BayNo) : State :=
  match s.faults.linkDown with
  | none => s
  | some _ =>
    ((s.withdrawLinkDown).notify .linkDown .none 2 (bayNumber b)).modBus
      (fun u => { u with lockAllPending := true })

/-! ### A transaction without an accepted reply -/

/-- A miss counts for the addressed bay (R138). -/
def Bay.miss (r : Bay) : Bay :=
  { r with misses := min 3 (r.misses + 1), missCount := min 255 (r.missCount + 1) }

/-- A door command failed with the link REACHABLE (R122). -/
def State.doorFailed (s : State) (b : BayNo) (c : BusCmd) : State :=
  match c with
  | .unlock =>
    match (s.bay b).role with
    | .none => s
    | .intake x =>
      (match s.exch x with
      | none => s
      | some e =>
        match e.phase with
        | .intakeOpen | .returnRejected => s.queueUnlock b
        | _ => s)
    | .take x =>
      (match s.exch x with
      | none => s
      | some e => if e.phase = .takeOpen ∧ e.abort = false then s.queueUnlock b else s)
  | .lock => if (s.bay b).relock then s.queueLock b else s
  | _ => s

/-- The owner of a command dropped on its third unanswered attempt is told, the link REACHABLE (R135). -/
def State.commandFailed (s : State) (b : BayNo) (c : BusCmd) : State :=
  match c with
  | .identify n =>
    match (s.bay b).admission with
    | none => s
    | some a => if a.number = n then s.identifyFailed b else s
  | .unlock | .lock => s.doorFailed b c
  | .chargeStart _ | .chargeStop _ => s.chargeFailed b c

/-- An unanswered command that has kept its place: back to the tail with one attempt more, or dropped on the
third, and its owner told (R135). -/
def State.retryCommand (s : State) (e : Entry) : State :=
  if e.attempts + 1 < 3 then
    s.modBus (fun u => { u with flight := none, queue := u.queue ++ [{ e with attempts := e.attempts + 1 }] })
  else (s.modBus Bus.land).commandFailed e.bay e.cmd

/-- A transaction to a bay ends without an accepted reply (R132, R135, R138): a miss, which may make the bay
LOST; then the entry of a command. -/
def State.unanswered (s : State) (fl : Flight) (b : BayNo) : State :=
  let s := s.modBay b Bay.miss
  if (s.bay b).misses = 3 ∧ (s.bay b).link ≠ .lost then (s.modBus (fun u => { u with flight := none })).loseLink b
  else if (s.bay b).link = .lost then s.modBus Bus.land
  else
    match fl with
    | .command e true => s.retryCommand e
    | _ => s.modBus Bus.land

/-! ### An accepted reply -/

/-- The identity part of an IDENTIFY reply (R131). -/
def State.takeIdentity (s : State) (fl : Flight) (b : BayNo) (rep : ShortReport) (ans : Answer) : State :=
  match fl with
  | .command e _ =>
    match e.cmd with
    | .identify n => s.takeAnswer b n ans rep
    | _ => s
  | _ => s

/-- An answer's effect on the link (R138): no misses, REACHABLE, and BAY-LINK on a change. -/
def State.answerLink (s : State) (b : BayNo) : State :=
  let s := s.modBay b (fun r => { r with misses := 0 })
  if (s.bay b).link = .reachable then s else s.changeLink b .reachable

/-- A reply is accepted (R131, R132, R138): the transaction is complete, the link, the report, LINK-DOWN,
and the identity. -/
def State.answered (s : State) (fl : Flight) (b : BayNo) (rep : ShortReport) (ans : Answer) : State :=
  let back := decide ((s.bay b).link = .lost)
  let s := (s.modBus Bus.land).answerLink b
  let s := s.applyReport b rep back
  (s.clearLinkDown b).takeIdentity fl b rep ans

/-- A reply arrives (R129, R132): discarded while no answer period is open; a failed check or another
address ends the transaction as one without a reply. -/
def State.takeReply (s : State) (checkOk : Bool) (address : Byte) (rep : ShortReport) (ans : Answer) :
    State :=
  match s.bus.flight with
  | none => s
  | some fl =>
    match fl.bay? with
    | none => s
    | some b =>
      if !checkOk then (s.unanswered fl b).settle
      else if address.toNat ≠ bayNumber b then
        ((s.modBus (fun u => { u with addrErrors := min 65535 (u.addrErrors + 1) })).unanswered fl b).settle
      else (s.answered fl b rep ans).settle

/-- The answer period closes with no reply (R129). -/
def State.takeSilence (s : State) : State :=
  match s.bus.flight with
  | none => s
  | some fl =>
    match fl.bay? with
    | none => s
    | some b => (s.unanswered fl b).settle

/-! ### The commands -/

/-- BUS_DISPATCH (R136). -/
def execBusDispatch (s : State) : Host.Outcome State Fault Refusal := .next s.dispatchBus

/-- LOCK_ALL_SENT (R129). -/
def execLockAllSent (s : State) : Host.Outcome State Fault Refusal := .next s.endLockAll

/-- BAY_REPLY (R132). -/
def execBayReply (checkOk : Bool) (address : Byte) (rep : ShortReport) (ans : Answer) (s : State) :
    Host.Outcome State Fault Refusal := .next (s.takeReply checkOk address rep ans)

/-- ANSWER_PERIOD_TIMEOUT (R129). -/
def execAnswerPeriodTimeout (s : State) : Host.Outcome State Fault Refusal := .next s.takeSilence

end Sys2Proof.Machine
end

