-- ==== Sys2Proof/Machine/Plan.lean ====
section
/-! DEFINITION. The charging plan, stage by stage (chapter 5), its installation, the at-risk judgement
(R74), and the command FRAME_BOUNDARY (chapter 6). -/

namespace Sys2Proof.Machine

/-! ### Stages 1 and 2: taking part, need, window -/

/-- The claim matched to a bay. -/
def State.matchedClaim (s : State) (b : BayNo) : Option Claim :=
  match (s.bay b).matched with
  | none => none
  | some id => s.claim? id

/-- The bay takes part in the plan (R80). -/
def State.takesPart (s : State) (b : BayNo) : Bool := s.eligible b && decide (minGrant ≤ s.capOf b)

/-- The energy a pack lacks for a level, in whole watt-hours rounded up (R81). -/
def Pack.need (p : Pack) (level : Nat) : Nat := ceilDiv (p.capacity * (level - p.soc)) 1000

/-- A bay's need (R81). -/
def State.need (s : State) (b : BayNo) : Nat :=
  match (s.bay b).pack, s.matchedClaim b with
  | some p, some c => p.need c.level
  | _, _ => 0

/-- The window for a due time at plan time `t`, s (R82). -/
def planWindow (t due : Nat) : Nat := max 60 (due - readyMargin - t)

/-! ### Stage 3: urgency order -/

/-- The tiers of the urgency order: tier 1 is the deadline bays, tier 2 the ordinary bays (R83). -/
inductive Tier where
  | deadline | ordinary
  deriving DecidableEq, Repr

/-- A bay's tier; none for a bay that takes no part (R83, R90). -/
def State.tier (s : State) (b : BayNo) : Option Tier :=
  if s.takesPart b then some (if 0 < s.need b then .deadline else .ordinary) else none

/-- What orders a bay within its tier, after the tier itself: due time and open sequence of its claim for a
deadline bay, SoC for an ordinary bay (R83). The bay number decides last. -/
def State.urgencyKey (s : State) (b : BayNo) : List Nat :=
  match s.tier b, s.matchedClaim b with
  | some .deadline, some c => [1, c.due, c.seq, b.val]
  | _, _ => [2, (s.bay b).soc, b.val]

/-- One key stands before another: the first place at which they differ decides. -/
def keyBefore : List Nat → List Nat → Bool
  | _, [] => false
  | [], _ :: _ => true
  | x :: xs, y :: ys => decide (x < y) || (decide (x = y) && keyBefore xs ys)

/-- A bay put in its place in an urgency order. -/
def State.insertUrgent (s : State) (b : BayNo) : List BayNo → List BayNo
  | [] => [b]
  | c :: cs =>
    if keyBefore (s.urgencyKey b) (s.urgencyKey c) then b :: c :: cs else c :: s.insertUrgent b cs

/-- The urgency order of the taking-part bays (R83). -/
def State.urgencyOrder (s : State) : List BayNo :=
  (allBays.filter s.takesPart).foldr s.insertUrgent []

/-- A bay's urgency rank in an order: its position from 1, or none (R83). -/
def rankIn (order : List BayNo) (b : BayNo) : Option Nat :=
  if b ∈ order then some (order.findIdx (fun c => decide (c = b)) + 1) else none

/-! ### Stage 4: duty and parity -/

/-- A bay's parity in a plan of this urgency order: BOTH when its sibling takes no part, and otherwise EVEN
for the earlier of the two (R84). -/
def parityIn (order : List BayNo) (b : BayNo) : Parity :=
  match rankIn order b, rankIn order (sibling b) with
  | none, _ => .none
  | some _, none => .both
  | some i, some j => if i < j then .even else .odd

/-- The duty factor of a parity (R84). -/
def Parity.factor : Parity → Nat
  | .both => 1
  | _ => 2

/-! ### Stage 5: the wanted rate -/

/-- The wanted rate of a need within a window at a duty factor, under a cap (R85). -/
def wantedRate (need factor window cap : Nat) : Nat :=
  let w := min (ceil50Ratio (need * 3600 * factor) window) cap
  if w = 0 then 0 else max minGrant w

/-- The wanted rate of a deadline bay (R85). -/
def State.wanted (s : State) (t : Nat) (order : List BayNo) (b : BayNo) : Nat :=
  match s.matchedClaim b with
  | none => 0
  | some c => wantedRate (s.need b) (parityIn order b).factor (planWindow t c.due) (s.capOf b)

/-! ### Stages 6 and 7: the deadline pass and the fill pass -/

/-- The headrooms of the two parities, and the grants given so far. -/
structure Draw where
  even : Nat
  odd : Nat
  given : Vector Nat 24
  deriving DecidableEq, Repr

/-- The headroom a parity sees (R86). -/
def Draw.room (d : Draw) : Parity → Nat
  | .both => min d.even d.odd
  | .even => d.even
  | .odd => d.odd
  | .none => 0

/-- Takes an amount from the headroom of a parity for a bay, whose grant becomes `g` (R86, R87). -/
def Draw.take (d : Draw) (b : BayNo) (p : Parity) (amount g : Nat) : Draw where
  even := if p.inEven then d.even - amount else d.even
  odd := if p.inOdd then d.odd - amount else d.odd
  given := d.given.set b.val g b.isLt

/-- The deadline pass for one bay (R86). -/
def State.deadlineStep (s : State) (t : Nat) (order : List BayNo) (d : Draw) (b : BayNo) : Draw :=
  if s.tier b = some .deadline then
    let p := parityIn order b
    let g := grantFloor (floor50 (min (s.wanted t order b) (d.room p)))
    d.take b p g g
  else d

/-- The fill pass for one bay (R87). -/
def State.fillStep (s : State) (order : List BayNo) (d : Draw) (b : BayNo) : Draw :=
  let p := parityIn order b
  let g := d.given.get b
  let g' := floor50 (g + min (s.capOf b - g) (d.room p))
  if g' < minGrant then { d with given := d.given.set b.val 0 b.isLt } else d.take b p (g' - g) g'

/-! ### Stage 8: the projections -/

/-- How long a need takes at a grant and a duty factor, s (R89). -/
def chargeTime (need factor grant : Nat) : Nat := ceilDiv (need * 3600 * factor) grant

/-- A bay's projected ready time from its parity and its final grant: plan time `t` for no need, absent for a
need and no grant (R89). A bay without a matched claim has none. It is not yet held in a kiosk time. -/
def State.projection (s : State) (t : Nat) (b : BayNo) (parity : Parity) (grant : Nat) : Option Nat :=
  match s.matchedClaim b with
  | none => none
  | some _ =>
    let e := s.need b
    if e = 0 then some t else if grant = 0 then none else some (t + chargeTime e parity.factor grant)

/-! ### The finished plan (R90) -/

/-- What a plan holds for one bay (R90). -/
structure PlanEntry where
  /-- W -/
  grant : Nat
  /-- none for a bay that does not take part -/
  parity : Parity
  /-- W -/
  cap : Nat
  /-- urgency rank, 1 to 24 -/
  rank : Option Nat
  tier : Option Tier
  /-- projected ready time -/
  projected : Option Nat
  /-- the SoC the plan used, for a bay with a pack record -/
  socUsed : Option Nat
  deriving DecidableEq, Repr

/-- A finished plan (R90). -/
structure Plan where
  /-- frame number of the boundary it was computed for -/
  frame : Nat
  /-- plan time t -/
  time : Nat
  /-- F as the plan used it, W -/
  feed : Nat
  /-- R_eff as the plan used it, W -/
  reserve : Nat
  /-- U as the plan used it, W -/
  usable : Nat
  /-- final headroom H_even -/
  hEven : Nat
  /-- final headroom H_odd -/
  hOdd : Nat
  entries : Vector PlanEntry 24
  deriving DecidableEq, Repr

/-- What a plan holds for a bay. -/
def Plan.entry (p : Plan) (b : BayNo) : PlanEntry := p.entries.get b

/-- The entry of a bay in a plan of this urgency order, with what the two passes gave (R90). -/
def State.planEntry (s : State) (order : List BayNo) (d : Draw) (b : BayNo) : PlanEntry :=
  let parity := parityIn order b
  let grant := d.given.get b
  { grant := grant
    parity := parity
    cap := s.capOf b
    rank := rankIn order b
    tier := s.tier b
    projected := s.projection s.now b parity grant
    socUsed := (s.bay b).pack.map (fun q => q.soc) }

/-- What the deadline pass and the fill pass leave, in an urgency order (R86, R87). -/
def State.draw (s : State) (order : List BayNo) : Draw :=
  let start : Draw := { even := s.budget, odd := s.budget, given := Vector.replicate 24 0 }
  order.foldl (s.fillStep order) (order.foldl (s.deadlineStep s.now order) start)

/-- The plan computed from the inputs as they stand (R76 to R90). -/
def State.plan (s : State) : Plan :=
  let order := s.urgencyOrder
  let d := s.draw order
  { frame := s.grants.frame
    time := s.now
    feed := s.grants.watts
    reserve := s.schedule.effective
    usable := s.budget
    hEven := d.even
    hOdd := d.odd
    entries := Vector.ofFn (s.planEntry order d) }

/-! ### Installing (R98) -/

/-- The bay record with the plan's entry and the SoC the plan used (R98 steps 1 and 2). -/
def Bay.planned (r : Bay) (e : PlanEntry) : Bay :=
  { r with
    grant := e.grant
    parity := e.parity
    cap := e.cap
    rank := e.rank
    pack := r.pack.map (fun q => { q with socUsed := e.socUsed }) }

/-- Writes one bay's entry. -/
def State.installBay (p : Plan) (s : State) (b : BayNo) : State := s.modBay b (fun r => r.planned (p.entry b))

/-- Writes one claim's projection: that of its take bay in the plan, absent for a claim without one (R58,
R98). -/
def State.installProjection (p : Plan) (s : State) (id : ClaimId) : State :=
  match s.claim? id with
  | none => s
  | some c =>
    match c.takeBay.bind (fun b => (p.entry b).projected) with
    | none => s.modClaim id (fun c => { c with projected := none })
    | some t => (s.modClaim id (fun c => { c with projected := some (s.storedTime t) })).countTime t

/-- The plan header of the in-force grant table (R95). -/
def Plan.header (p : Plan) : Header where
  frame := p.frame
  feed := p.feed
  hEven := p.hEven
  hOdd := p.hOdd

/-! ### The at-risk judgement (R74) -/

/-- The SoC the plan used for a claim's take bay is at or above the claim's level. -/
def State.levelUsed (s : State) (c : Claim) : Bool :=
  match c.takeBay with
  | none => false
  | some b =>
    match (s.bay b).pack with
    | none => false
    | some p => match p.socUsed with | none => false | some u => decide (c.level ≤ u)

/-- Why a claim is at risk: the detail and the value of its notice (R74, R75); none when it is not. -/
def State.riskOf (s : State) (c : Claim) : Option (Nat × Nat) :=
  if c.state = .swapping then none
  else if s.levelUsed c then none
  else
    match c.projected with
    | none => some (1, 0)
    | some t => if (if c.isBooking then c.due else c.expiry) < t then some (2, t) else none

/-- Judges one claim's flag, with a notice on a change (R74). -/
def State.judgeRisk (s : State) (id : ClaimId) : State :=
  match s.claim? id with
  | none => s
  | some c =>
    match s.riskOf c, c.atRisk with
    | some (detail, value), false =>
      (s.modClaim id (fun c => { c with atRisk := true })).notify .claimAtRisk (.claim id) detail value
    | none, true =>
      (s.modClaim id (fun c => { c with atRisk := false })).notify .claimAtRiskCleared (.claim id) 0
        (c.projected.getD 0)
    | _, _ => s

/-- Installs a plan (R98): the entries and the header, the projections, the flags, PLAN-INSTALLED, the
at-risk judgement. `wanted` says that the flag was SET (R97). -/
def State.install (s : State) (p : Plan) (wanted : Bool) : State :=
  let t := allBays.foldl (State.installBay p) s
  let t := t.claimIds.foldl (State.installProjection p) t
  let t := t.modGrants (fun g => { g with header := some p.header, replan := false, since := 0 })
  let t := t.notify .planInstalled .none (if wanted then 1 else 2) p.frame
  t.claimIds.foldl State.judgeRisk t

/-! ### FRAME_BOUNDARY -/

/-- The frame counter and parity move on, and frames since install grows (R96). -/
def Grants.boundary (g : Grants) : Grants :=
  let n := (g.frame + 1) % 4294967296
  { g with frame := n, odd := decide (n % 2 = 1), since := min 15 (g.since + 1) }

/-- A frame boundary (R96, R97). -/
def State.frameBoundary (s : State) : State :=
  let s := s.modGrants Grants.boundary
  if s.grants.replan = true ∨ 15 ≤ s.grants.since then s.install s.plan s.grants.replan else s

/-- FRAME_BOUNDARY (R96). -/
def execFrameBoundary (s : State) : Host.Outcome State Fault Refusal := .next s.frameBoundary

end Sys2Proof.Machine
end

