-- ==== Sys2Proof/Machine/Layout.lean ====
section
/-! DEFINITION. Reply payloads and records as they are sent (R176): the layouts R176 gives, and, for the
other replies, the items of each request's entry in their order by R176's general rule (log entry 10). The
bits and bytes of a reply that no layout names, and the bytes of an absent field of a layout, are 0 (log
entry 36). -/

namespace Sys2Proof.Machine

/-! ### Fields -/

/-- A one-byte field. -/
def u8 (n : Nat) : List Byte := beBytes 1 n

/-- A two-byte field. -/
def u16 (n : Nat) : List Byte := beBytes 2 n

/-- A three-byte field of the READ-GRANTS header. -/
def u24 (n : Nat) : List Byte := beBytes 3 n

/-- A four-byte field: a kiosk time, an open sequence, a frame number, a figure in watts. -/
def u32 (n : Nat) : List Byte := beBytes 4 n

/-- A pack id. -/
def u64 (id : PackId) : List Byte := beBytes 8 id.toNat

/-- A flag or a yes/no indication. -/
def flagByte (b : Bool) : List Byte := u8 (flagCode b)

/-- A set of profiles, in one byte. -/
def setByte (a : AbilitySet) : List Byte := u8 a.toNat

/-- A temperature or a bound: one byte, signed, two's complement. -/
def signedByte (t : Int) : List Byte := [BitVec.ofInt 8 t]

/-- An item that may be absent and has 0 among its values: a presence byte, then its bytes. -/
def optional (bytes : Nat → List Byte) : Option Nat → List Byte
  | none => 0 :: bytes 0
  | some n => 1 :: bytes n

/-- A returned pack id that may be absent. -/
def optionalPack : Option PackId → List Byte
  | none => 0 :: u64 0
  | some id => 1 :: u64 id

/-- A bay number, 0 for none. -/
def bayCode : Option BayNo → Nat
  | none => 0
  | some b => bayNumber b

/-- Fields packed into one number, the first in the highest bits: each of its width in bits and its value. -/
def packBits (fields : List (Nat × Nat)) : Nat :=
  fields.foldl (fun acc f => acc * 2 ^ f.1 + f.2 % 2 ^ f.1) 0

/-- The present bay as a code of each of its fields that may be absent. -/
def rankCode : Option Nat → Nat
  | none => 0
  | some k => k

/-! ### Bay record as returned by READ-BAY (R176) -/

/-- Word 0. Pack sensed is 1 for YES, like every yes/no indication (log entry 9). -/
def Bay.word0 (r : Bay) (b : BayNo) : Nat :=
  packBits [(5, bayNumber b), (1, r.bsection.code), (1, r.service.code), (2, r.link.code),
    (1, r.door.code), (1, r.latch.code), (1, flagCode r.sensed), (1, flagCode r.pack.isSome),
    (3, r.state.code), (4, r.count.toNat), (3, causeCode r.cause), (2, r.role.code),
    (3, r.role.number), (2, r.parity.code),
    (2, match r.matched with | none => 0 | some c => c.origin.code)]

/-- Word 1; bit 0, which no layout names, is 0 (log entry 36). -/
def Bay.word1 (r : Bay) : Nat :=
  packBits [(16, match r.matched with | none => 0 | some c => c.tag.toNat), (4, r.staged.toNat),
    (4, r.inForce.toNat), (7, r.grant / 50), (1, 0)]

/-- Word 2. -/
def Bay.word2 (r : Bay) (target : Nat) : Nat :=
  match r.pack with
  | none => packBits [(10, target), (10, 0), (10, 0), (2, 0)]
  | some p => packBits [(10, target), (10, p.soc), (10, p.socUsed.getD 1023), (2, p.cls.code)]

/-- Word 3; bit 0, which no layout names, is 0 (log entry 36). -/
def Bay.word3 (r : Bay) : Nat :=
  match r.pack with
  | none => 0
  | some p =>
    packBits [(12, p.capacity), (7, (p.temp + 40).toNat), (4, p.abilities.toNat), (2, p.health.code),
      (2, p.profile.index), (4, p.refusals), (1, 0)]

/-- One entry of READ-BAY, 24 bytes (R19, R176). -/
def State.bayEntry (s : State) (b : BayNo) : List Byte :=
  let r := s.bay b
  u32 (r.word0 b) ++ u32 r.word1 ++ u32 (r.word2 (s.fillTarget b)) ++ u32 r.word3
    ++ u64 (match r.pack with | none => 0 | some p => p.id)

/-! ### Claims (R176) -/

/-- The flags byte of the claim record: first ready, credit, projection, at risk, first issue; its upper
bits are 0 (log entry 36). -/
def Claim.flags (c : Claim) : Nat :=
  packBits [(1, flagCode c.firstIssue), (1, flagCode c.atRisk), (1, flagCode c.projected.isSome),
    (1, flagCode c.returned.isSome), (1, flagCode c.firstReady.isSome)]

/-- The claim record as returned by READ-CLAIM, 45 bytes (R52, R176). The bytes of a first ready time, a
returned pack id or a projection that its flag says is absent are 0 (log entry 36). -/
def State.claimRecord (s : State) (c : Claim) : List Byte :=
  u8 c.id.origin.code ++ u16 c.id.tag.toNat ++ u32 c.seq ++ u32 c.openTime ++ u8 c.cls.code
    ++ u16 c.level ++ u32 c.due ++ u16 (c.hold.getD 0) ++ u32 c.expiry ++ u8 c.state.code
    ++ u8 (bayCode c.takeBay) ++ u8 c.flags ++ u32 (c.firstReady.getD 0)
    ++ u64 (c.returned.getD 0) ++ u32 (c.projected.getD 0) ++ u8 (positionIn c.id s.book.claims)
    ++ u8 (match c.state, s.exchangeOf c.id with | .swapping, some x => exchangeNumber x | _, _ => 0)

/-- The claim summary in LIST-CLAIMS, 19 bytes (R53, R176). -/
def Claim.summary (c : Claim) : List Byte :=
  u8 c.id.origin.code ++ u16 c.id.tag.toNat ++ u32 c.seq ++ u8 c.state.code ++ u8 c.cls.code
    ++ u32 c.due ++ u32 c.expiry ++ u8 (bayCode c.takeBay)
    ++ u8 (packBits [(1, flagCode c.returned.isSome), (1, flagCode c.atRisk)])

/-! ### READ-GRANTS (R110, R176) -/

/-- The grant entry of a bay, 3 bytes; bits 2 to 0 are 0 (log entry 36). -/
def Bay.grantEntry (r : Bay) : List Byte :=
  u24 (packBits [(7, r.grant / 50), (7, r.cap / 50), (2, r.parity.code), (5, rankCode r.rank), (3, 0)])

/-- The 22-byte header. While no plan is present the plan frame is 0 (log entry 36), as the headrooms are. -/
def Grants.head (g : Grants) : List Byte :=
  u32 g.frame ++ u32 (match g.header with | none => 0 | some h => h.frame) ++ u24 g.usable ++ u24 g.watts
    ++ u8 (packBits [(1, flagCode g.header.isSome), (1, flagCode g.halt), (2, g.feed.code),
        (1, flagCode g.odd)])
    ++ u8 g.since ++ u24 (match g.header with | none => 0 | some h => h.hEven)
    ++ u24 (match g.header with | none => 0 | some h => h.hOdd)

/-- The payload of READ-GRANTS. -/
def State.grantsPayload (s : State) : List Byte :=
  s.grants.head ++ allBays.flatMap (fun b => (s.bay b).grantEntry)

/-! ### Notices (R171, R176) -/

/-- The subject type. -/
def Subject.type : Subject → Nat
  | .none => 0 | .bay _ => 1 | .claim _ => 2 | .exchange _ => 3 | .directive _ => 4

/-- The three subject bytes; those a subject does not use are 0 (log entry 36). -/
def Subject.bytes : Subject → List Byte
  | .none => u24 0
  | .bay b => u8 (bayNumber b) ++ u16 0
  | .claim c => u8 c.origin.code ++ u16 c.tag.toNat
  | .exchange x => u8 (exchangeNumber x) ++ u16 0
  | .directive n => u16 n ++ u8 0

/-- The notice record, 23 bytes. -/
def Notice.record (n : Notice) : List Byte :=
  u8 n.kind.code ++ u8 n.kind.severity ++ u32 n.time
    ++ u8 (n.subject.type + (if n.credit.isSome then 128 else 0)) ++ n.subject.bytes ++ u8 n.detail
    ++ u32 n.value ++ u64 (n.credit.getD 0)

/-! ### Exchanges (R128) -/

/-- Door, latch and pack sensed as last reported, for a bay of an exchange: items that are absent with the bay
and have 0 among their values, so each has its presence byte (R176; log entry 10). -/
def State.bayView (s : State) (b : Option BayNo) : List Byte :=
  optional u8 (b.map (fun b => (s.bay b).door.code)) ++ optional u8 (b.map (fun b => (s.bay b).latch.code))
    ++ optional u8 (b.map (fun b => flagCode (s.bay b).sensed))

/-- The payload of READ-EXCHANGE: the record's fields, the view of the intake bay and then of the take bay (log
entry 10), and, present with an intake bay, whether the credit has been written, which is so in the take phases
alone (R116, R128). -/
def State.exchangePayload (s : State) (x : ExNo) (e : Exchange) : List Byte :=
  u8 (exchangeNumber x) ++ u8 e.claim.origin.code ++ u16 e.claim.tag.toNat ++ u8 e.phase.code
    ++ u8 (bayCode e.intake) ++ u8 (bayCode e.take) ++ u8 e.deadline ++ u32 e.start ++ flagByte e.abort
    ++ s.bayView e.intake ++ s.bayView e.take
    ++ optional u8 (e.intake.map (fun _ => flagCode (!e.phase.beforeTake)))

/-! ### The bus counts (R142) -/

/-- The payload of READ-LINK-COUNTERS. -/
def State.linkPayload (s : State) : List Byte :=
  allBays.flatMap (fun b => u8 (s.bay b).link.code ++ u8 (s.bay b).misses ++ u8 (s.bay b).missCount)
    ++ u16 s.bus.addrErrors ++ u8 s.bus.count ++ u8 s.bus.overflow.length
    ++ flagByte s.faults.linkDown.isSome

/-! ### The derate table (R144, R145) -/

/-- A row: bound and percentages. -/
def DerateRow.bytes (r : DerateRow) : List Byte := signedByte r.bound ++ u8 r.pctS ++ u8 r.pctM ++ u8 r.pctL

/-- A band: the row's number, ABOVE, or none; in that order from 1, 0 for none. -/
def bandCode : Option Band → Nat
  | none => 0
  | some (.row i) => i.val + 1
  | some .above => 9

/-- The payload of READ-DERATE-TABLE. -/
def State.deratePayload (s : State) : List Byte :=
  allRows.flatMap (fun i => (s.derate.get i).bytes) ++ allBays.flatMap (fun b => u8 (bandCode (s.bay b).band))

/-! ### Parameters and the schedule (R157, R159, R165) -/

/-- The eight parameters in the order of R157's table. -/
def Params.bytes (q : Params) : List Byte :=
  u32 q.reserve ++ u8 q.socBand ++ u32 q.feedBand ++ u16 q.horizon ++ u16 q.level ++ u16 q.fill ++ u8 q.split
    ++ u8 q.downshift

/-- A pending directive: number, kind, effective time, value, duration. -/
def Directive.bytes (d : Directive) : List Byte :=
  u16 d.number ++ u8 d.kind.code ++ u32 d.time ++ optional u32 d.value ++ u32 (d.duration.getD 0)

/-- An active window: number, kind, reserve value, start, end. -/
def Window.bytes (w : Window) : List Byte :=
  u16 w.number ++ u8 w.kind.code ++ optional u32 w.value ++ u32 w.start ++ u32 w.stop

/-- Free entries of the schedule. -/
def Schedule.free (h : Schedule) : Nat := scheduleRoom - h.directives.length

/-- The counts every READ-SCHEDULE reply begins with. -/
def Schedule.counts (h : Schedule) : List Byte :=
  u8 h.directives.length ++ u8 h.free ++ u8 h.windows.length ++ u32 h.effective ++ flagByte h.walkupsOpen

/-- A list of entries with its count. -/
def counted (entries : List (List Byte)) : List Byte := u8 entries.length ++ entries.flatten

/-! ### READ-STATUS (R170) -/

/-- A kiosk fault held: its code in the order of R152, its time, and its severity, KIOSK. -/
def faultEntry (code : Nat) : Option Nat → List (List Byte)
  | none => []
  | some t => [u8 code ++ u32 t ++ u8 3]

/-- The kiosk faults held (R152, R170), in the order LINK-DOWN, FEED-STALE, HALT (log entry 10). -/
def KioskFaults.entries (k : KioskFaults) : List (List Byte) :=
  faultEntry 0 k.linkDown ++ faultEntry 1 k.feedStale ++ faultEntry 2 k.halt

/-- A port's own counts. -/
def PortState.bytes (p : PortState) : List Byte :=
  u8 p.notices.length ++ u8 p.threshold ++ flagByte p.overflow ++ u8 p.dropped ++ u16 p.crcErrors
    ++ u16 p.overruns

/-- The payload of READ-STATUS. -/
def State.statusPayload (s : State) (p : Port) : List Byte :=
  u32 s.clock.time ++ flagByte s.clock.isSet ++ u8 s.grants.feed.code ++ u32 s.grants.usable
    ++ flagByte s.grants.halt ++ u8 s.book.claims.length ++ u8 s.exchangeCount
    ++ counted s.faults.entries ++ u8 s.params.split ++ flagByte s.schedule.walkupsOpen
    ++ (s.ports.get p).bytes

end Sys2Proof.Machine
end

