-- ==== Sys2Proof/Machine/BayRequests.lean ====
section
/-! DEFINITION. What a request's owner answers, and the requests of the Bay Table, the Admission Unit and
the Derate and Fault Unit: READ-BAY, SET-BAY-SERVICE, SET-BAY-ABILITY, RESTART-BAY, WRITE-DERATE-ROW,
READ-DERATE-TABLE, CLEAR-BAY-FAULT. Each is the request's entry after the length, code and permission
checks: the state after it, and its reply. -/

namespace Sys2Proof.Machine

/-- What a request is answered with (R168): a success payload, or a refusal with what follows its code. -/
inductive Reply where
  | ok (payload : List Byte)
  | refused (code : RefusalCode) (more : List Byte)
  deriving DecidableEq, Repr

/-- A refusal: no state changes (R168). -/
def State.refuse (s : State) (c : RefusalCode) : State × Reply := (s, .refused c [])

/-- A success reply. -/
def State.reply (s : State) (payload : List Byte) : State × Reply := (s, .ok payload)

/-! ### The Bay Table (R19, R20) -/

/-- READ-BAY (R19). -/
def State.readBay (s : State) (bays : List Byte) : State × Reply :=
  if bays = [] ∨ 4 < bays.length then s.refuse .badLength
  else
    match baysOfBytes bays with
    | none => s.refuse .badField
    | some bs => s.reply (bs.flatMap s.bayEntry)

/-- A bay's service changes (R14, R20): the hand-ons, the lost match, and replan wanted on a return to IN. -/
def State.changeService (s : State) (b : BayNo) (v : Service) : State :=
  let s := s.edit b (fun r => { r with service := v })
  match v with
  | .outOfService => s.loseMatch b .service
  | .inService => s.wantReplan

/-- SET-BAY-SERVICE (R20). -/
def State.setBayService (s : State) (bay service : Byte) : State × Reply :=
  match bayOfByte bay, serviceOfByte service with
  | some b, some v =>
    if v = .outOfService ∧ (s.bay b).role ≠ .none then s.refuse .bayBusy
    else
      let t := if (s.bay b).service = v then s else (s.changeService b v).settle
      t.reply (u8 (bayNumber b) ++ u8 (t.bay b).service.code ++ u8 (t.bay b).state.code)
  | _, _ => s.refuse .badField

/-! ### The Admission Unit (R33, R34) -/

/-- SET-BAY-ABILITY (R33). -/
def State.setBayAbility (s : State) (bay abilities : Byte) : State × Reply :=
  match bayOfByte bay with
  | none => s.refuse .badField
  | some b =>
    let a := abilitiesOfByte abilities
    if a = 0 then s.refuse .badField
    else
      let t := s.modBay b (fun r => { r with staged := a })
      t.reply (u8 (bayNumber b) ++ setByte (t.bay b).staged ++ setByte (t.bay b).inForce)

/-- The staged set is copied to the in-force set. -/
def Bay.copyStaged (r : Bay) : Bay := { r with inForce := r.staged }

/-- The cause of the admission that replaces a running one at RESTART-BAY (R34). -/
def Admission.restarted : Option Admission → AdmissionCause
  | some { cause := .insertion, .. } => .insertion
  | _ => .restart

/-- The cause of a bay FAULTED is removed (R34, R153): an admission starts when a pack record is present or a
pack is sensed, and otherwise the bay becomes VACANT; BAY-CLEARED. `kept` is the admission's cause when a
record is present. -/
def State.liftFault (s : State) (b : BayNo) (k : FaultCause) (kept : AdmissionCause) : State :=
  let r := s.bay b
  if r.pack.isSome then (s.startAdmission b kept).sayCleared b k 1
  else if r.sensed then (s.startAdmission b .insertion).sayCleared b k 1
  else (s.edit b (fun r => { r with state := .vacant, cause := none })).sayCleared b k 0

/-- What RESTART-BAY does to a bay without a role, by its state (R34). -/
def State.restart (s : State) (b : BayNo) : State :=
  let r := s.bay b
  match r.state with
  | .vacant => s.modBay b Bay.copyStaged
  | .admitting =>
    (s.modBay b (fun r => { r.copyStaged with ceiling := none })).startAdmission b (Admission.restarted r.admission)
  | .charging | .topped => (s.queueCmd b (.chargeStop true)).startAdmission b .restart
  | .withheld => s.startAdmission b .restart
  | .faulted =>
    let t := s.modBay b (fun r => { r.copyStaged with ceiling := none })
    match r.cause with
    | some .profile => t.liftFault b .profile .restart
    | some .charge => t.liftFault b .charge .restart
    | _ => t

/-- RESTART-BAY (R34). -/
def State.restartBay (s : State) (bay : Byte) : State × Reply :=
  match bayOfByte bay with
  | none => s.refuse .badField
  | some b =>
    if (s.bay b).role ≠ .none then s.refuse .bayBusy
    else
      let t := (s.restart b).settle
      t.reply (u8 (bayNumber b) ++ u8 (t.bay b).state.code ++ setByte (t.bay b).staged
        ++ setByte (t.bay b).inForce)

/-! ### The Derate and Fault Unit (R144 to R146, R153) -/

/-- The bound lies above the row before and below the row after, where there is one (R144 checks 3, 4). -/
def boundFits (table : Vector DerateRow 8) (i : RowNo) (bound : Int) : Bool :=
  allRows.all (fun j =>
    (!decide (j.val + 1 = i.val) || decide ((table.get j).bound < bound))
      && (!decide (i.val + 1 = j.val) || decide (bound < (table.get j).bound)))

/-- A written row's effect on one bay (R146): a band changed, or the percentage of the band that stands. -/
def State.rebandRow (row : RowNo) (s : State) (b : BayNo) : State :=
  match (s.bay b).pack with
  | none => s
  | some p =>
    if (s.bay b).band = some (bandOf s.derate p.temp) then
      if (s.bay b).band = some (.row row) then s.recap b else s
    else s.rebandBay b

/-- A row is written whole, and acts at once (R146). -/
def State.putRow (s : State) (i : RowNo) (r : DerateRow) : State :=
  (allBays.foldl (State.rebandRow i) { s with derate := s.derate.set i.val r i.isLt }).wantReplan

/-- The row a WRITE-DERATE-ROW gives, after the clamp (R144). -/
def rowOf (bound pctS pctM pctL : Byte) : DerateRow where
  bound := bound.toInt
  pctS := min 100 pctS.toNat
  pctM := min 100 pctM.toNat
  pctL := min 100 pctL.toNat

/-- WRITE-DERATE-ROW (R144). -/
def State.writeDerateRow (s : State) (row bound pctS pctM pctL : Byte) : State × Reply :=
  match rowOfByte row with
  | none => s.refuse .badField
  | some i =>
    let r := rowOf bound pctS pctM pctL
    if r.bound < -40 ∨ 85 < r.bound ∨ boundFits s.derate i r.bound = false then s.refuse .badField
    else
      let t := if s.derate.get i = r then s else (s.putRow i r).settle
      t.reply (u8 (i.val + 1) ++ (t.derate.get i).bytes)

/-- READ-DERATE-TABLE (R145). -/
def State.readDerateTable (s : State) : State × Reply := s.reply s.deratePayload

/-- The first condition that bars a clear (R153 checks 3 to 6). -/
def Bay.clearBar (r : Bay) : Option ClearBar :=
  if r.link ≠ .reachable then some .link
  else if r.door = .opened then some .door
  else if r.sensed = true ∧ faultLimit ≤ r.lastTemp then some .temperature
  else if r.sensed = true ∧ r.lastFault = true then some .packFlag
  else none

/-- CLEAR-BAY-FAULT (R153). -/
def State.clearBayFault (s : State) (bay : Byte) : State × Reply :=
  match bayOfByte bay with
  | none => s.refuse .badField
  | some b =>
    if (s.bay b).role ≠ .none then s.refuse .bayBusy
    else
      match (s.bay b).clearBar with
      | some bar => (s, .refused .faultPresent (u8 bar.code))
      | none =>
        let cause := (s.bay b).cause
        let t :=
          match cause with
          | none => s
          | some k => (s.liftFault b k .faultClear).settle
        t.reply (u8 (bayNumber b) ++ u8 (causeCode cause) ++ u8 (t.bay b).state.code)

end Sys2Proof.Machine
end

