-- ==== Sys2Proof/Machine/ClaimRequests.lean ====
section
/-! DEFINITION. The requests of the Claim Book (chapter 3): OPEN-BOOKING, OPEN-WALKUP, AMEND-BOOKING,
CANCEL-CLAIM, READ-CLAIM, LIST-CLAIMS. -/

namespace Sys2Proof.Machine

/-! ### Opening -/

/-- A new claim takes its place in the book (R38, R41): the next open sequence, WAITING. The place follows
the due time and the sequence. -/
def State.addClaim (s : State) (c : Claim) : State :=
  { s with book := { claims := insertClaim c s.book.claims, seq := c.seq } }

/-- The next open sequence (R41). -/
def Book.nextSeq (k : Book) : Nat := (k.seq + 1) % 4294967296

/-- A record as opened (R38): WAITING, and the rest absent. -/
def newClaim (id : ClaimId) (seq now : Nat) (cls : PackClass) (level due : Nat) (hold : Option Nat)
    (firstIssue : Bool) (expiry : Nat) : Claim where
  id := id
  seq := seq
  openTime := now
  cls := cls
  level := level
  due := due
  hold := hold
  firstIssue := firstIssue
  expiry := expiry
  state := .waiting
  takeBay := none
  firstReady := none
  returned := none
  atRisk := false
  projected := none

/-- The items of an opening's reply (R46): origin and tag, open sequence, position, level, due time, hold
window, expiry, state, take bay. -/
def State.openedPayload (s : State) (id : ClaimId) : List Byte :=
  match s.claim? id with
  | none => []
  | some c =>
    u8 id.origin.code ++ u16 id.tag.toNat ++ u32 c.seq ++ u8 (positionIn id s.book.claims) ++ u16 c.level
      ++ u32 c.due ++ u16 (c.hold.getD 0) ++ u32 c.expiry ++ u8 c.state.code ++ u8 (bayCode c.takeBay)

/-- Opens a checked claim: the record, the pass, the reply (R46, R47). `sum` is the sum its expiry was stored
from. -/
def State.openClaim (s : State) (c : Claim) (sum : Nat) : State × Reply :=
  let t := ((s.addClaim c).countTime sum).wantPass.settle
  t.reply (t.openedPayload c.id)

/-- A hold window as taken (R45, R48). -/
def takenHold (n : Nat) : Nat := clampNat 300 1800 n

/-- OPEN-BOOKING (R45, R46). -/
def State.openBooking (s : State) (tag : Half) (cls : Byte) (level : Half) (due : Word) (hold : Half)
    (first : Byte) : State × Reply :=
  match classOfByte cls, flagOfByte first with
  | some k, some fi =>
    if tag = 0 ∨ 1000 < level.toNat then s.refuse .badField
    else if s.clock.isSet = false then s.refuse .clockUnset
    else if s.now + dueAhead < due.toNat then s.refuse .badField
    else if (s.claim? ⟨.gateway, tag⟩).isSome then s.refuse .duplicateTag
    else if bookRoom ≤ s.book.claims.length then s.refuse .bookFull
    else
      let d := max s.now due.toNat
      let h := takenHold hold.toNat
      s.openClaim
        (newClaim ⟨.gateway, tag⟩ s.book.nextSeq s.now k (takenLevel s.params.level level.toNat) d (some h) fi
          (s.storedTime (d + h)))
        (d + h)
  | _, _ => s.refuse .badField

/-- OPEN-WALKUP (R47). -/
def State.openWalkup (s : State) (tag : Half) (cls : Byte) (level : Half) : State × Reply :=
  match classOfByte cls with
  | some k =>
    if tag = 0 ∨ 1000 < level.toNat then s.refuse .badField
    else if s.schedule.walkupsOpen = false then s.refuse .walkupClosed
    else if (s.claim? ⟨.terminal, tag⟩).isSome then s.refuse .duplicateTag
    else if bookRoom ≤ s.book.claims.length then s.refuse .bookFull
    else
      s.openClaim
        (newClaim ⟨.terminal, tag⟩ s.book.nextSeq s.now k (takenLevel s.params.level level.toNat) s.now none
          false (s.storedTime (s.now + walkupWait)))
        (s.now + walkupWait)
  | none => s.refuse .badField

/-! ### Amending -/

/-- The values an AMEND-BOOKING carries, each present or not (R48). -/
structure Amend where
  due : Option Nat
  hold : Option Nat
  level : Option Nat
  cls : Option PackClass
  deriving DecidableEq, Repr

/-- The clamps of an amend (R48): a due time not before now, a hold window of 300 to 1,800, a level of 500 to
1000. A due time that has passed is raised to now also when it is the one in force (log entry 39). -/
def Amend.taken (a : Amend) (now walkupLevel : Nat) : Amend where
  due := a.due.map (fun d => max now d)
  hold := a.hold.map takenHold
  level := a.level.map (takenLevel walkupLevel)
  cls := a.cls

/-- The sum a booking's expiry comes from: its due time and its hold window (R46, R49). -/
def Claim.expirySum (c : Claim) : Nat := c.due + c.hold.getD 0

/-- The claim with an amend's values written (R49), its expiry not yet recomputed. -/
def Amend.write (a : Amend) (c : Claim) : Claim :=
  { c with
    due := a.due.getD c.due
    hold := match a.hold with | none => c.hold | some h => some h
    level := a.level.getD c.level
    cls := a.cls.getD c.cls }

/-- An accepted amend writes all its values at once, moves the claim to its place, and gives it a new expiry
where its due time or hold window has changed (R41, R49). -/
def State.writeAmend (s : State) (c : Claim) (a : Amend) : State :=
  let d := a.write c
  if d.due = c.due ∧ d.hold = c.hold then
    s.modClaim c.id (fun _ => d)
  else
    let d := { d with expiry := s.storedTime d.expirySum }
    (s.setClaims (insertClaim d (s.book.claims.filter (fun e => !decide (e.id = c.id))))).countTime d.expirySum

/-- The effects of what an amend changed, the values already written (R49), in the order of R49's table; the
READY test of a changed level is made last (log entry 32). `old` is the claim before. -/
def State.amendEffects (s : State) (old new : Claim) : State :=
  let s := if new.due = old.due then s else s.wantReplan
  let s :=
    if new.level = old.level then s
    else
      match old.takeBay with
      | none => s.wantReplan
      | some b => (s.fillTest b).wantReplan
  let s := if new.cls = old.cls then s else s.unmatch old.id .amendClass
  s.retest old.id

/-- The items of an amend's reply (R49): state (4 for EXPIRED), take bay, position, level, due time, hold
window, expiry. -/
def amendedPayload (c : Claim) (position state : Nat) : List Byte :=
  u8 state ++ u8 (bayCode c.takeBay) ++ u8 position ++ u16 c.level ++ u32 c.due ++ u16 (c.hold.getD 0)
    ++ u32 c.expiry

/-- Carries out a checked amend (R49): the record, the effects, EXPIRED at once when the new expiry has come,
the pass, the reply. -/
def State.amend (s : State) (c : Claim) (a : Amend) : State × Reply :=
  let t := (s.writeAmend c a).amendEffects c (a.write c)
  match t.claim? c.id with
  | none => t.settle.reply []
  | some d =>
    if d.expiry ≤ t.now then
      ((t.closeClaim c.id .expired).settle).reply (amendedPayload d (positionIn c.id t.book.claims) 4)
    else
      let u := t.wantPass.settle
      match u.claim? c.id with
      | none => u.reply []
      | some e => u.reply (amendedPayload e (positionIn c.id u.book.claims) e.state.code)

/-- Some value of an AMEND-BOOKING is present (R48). -/
def amendHasValue (present : Byte) : Bool :=
  present.getLsbD 0 || present.getLsbD 1 || present.getLsbD 2 || present.getLsbD 3

/-- AMEND-BOOKING (R48, R49). -/
def State.amendBooking (s : State) (tag : Half) (present : Byte) (due : Word) (hold level : Half)
    (cls : Byte) : State × Reply :=
  let badClass := present.getLsbD 3 && (classOfByte cls).isNone
  let badLevel := present.getLsbD 2 && decide (1000 < level.toNat)
  if tag = 0 ∨ amendHasValue present = false ∨ badClass = true ∨ badLevel = true then s.refuse .badField
  else
    match s.claim? ⟨.gateway, tag⟩ with
    | none => s.refuse .noSuchClaim
    | some c =>
      if c.state = .swapping then s.refuse .claimBusy
      else if present.getLsbD 0 = true ∧ s.now + dueAhead < due.toNat then s.refuse .badField
      else
        let a : Amend :=
          { due := presentIf present 0 due.toNat
            hold := presentIf present 1 hold.toNat
            level := presentIf present 2 level.toNat
            cls := if present.getLsbD 3 then classOfByte cls else none }
        s.amend c (a.taken s.now s.params.level)

/-! ### Cancelling and reading -/

/-- CANCEL-CLAIM (R50); `p` is the sending port. -/
def State.cancelClaim (s : State) (p : Port) (origin : Byte) (tag : Half) : State × Reply :=
  if p = .terminal ∧ originOfByte origin = some .gateway then s.refuse .notPermitted
  else
    match claimIdOf origin tag with
    | none => s.refuse .badField
    | some id =>
      match s.claim? id with
      | none => s.refuse .noSuchClaim
      | some c =>
        if c.state = .swapping then s.refuse .claimBusy
        else
          ((s.closeClaim id .cancelled).settle).reply
            (u8 id.origin.code ++ u16 id.tag.toNat ++ optionalPack c.returned)

/-- READ-CLAIM (R52). -/
def State.readClaim (s : State) (origin : Byte) (tag : Half) : State × Reply :=
  match claimIdOf origin tag with
  | none => s.refuse .badField
  | some id =>
    match s.claim? id with
    | none => s.refuse .noSuchClaim
    | some c => s.reply (s.claimRecord c)

/-- LIST-CLAIMS (R53). -/
def State.listClaims (s : State) (start : Byte) : State × Reply :=
  if start = 0 ∨ 48 < start.toNat then s.refuse .badField
  else
    s.reply (u8 s.book.claims.length
      ++ ((s.book.claims.drop (start.toNat - 1)).take 5).flatMap Claim.summary)

end Sys2Proof.Machine
end

