-- ==== Sys2Proof/Machine/Clock.lean ====
section
/-! DEFINITION. The kiosk clock, the parameters and the directive schedule (chapter 10): what a change of
kiosk time does, how a changed parameter acts, and the command CLOCK_ADVANCE. -/

namespace Sys2Proof.Machine

/-! ### Parameters (R157, R158) -/

/-- A bay's section is recomputed from the split line in force (R3). -/
def State.resection (s : State) (b : BayNo) : State :=
  s.edit b (fun r => { r with bsection := sectionOf s.params.split b })

/-- Hands on the parameters that differ from those before, which the record already holds: the effective
reserve, the sections, the fill targets, and a pass for the split line, the horizon and the walk-up level
(R158). The reserve sheds before the fill targets are tested, and the bays are tested in order of bay number (log
entry 35). -/
def State.handParams (s : State) (old : Params) : State :=
  let s := s.recomputeReserve
  let s := if s.params.split = old.split then s else (allBays.foldl State.resection s).wantPass
  let s := if s.params.fill = old.fill then s else allBays.foldl State.fillTest s
  if s.params.horizon = old.horizon ∧ s.params.level = old.level then s else s.wantPass

/-! ### The schedule (R160 to R163) -/

/-- A directive put in its place: by effective time, after those of equal time (R160). -/
def insertDirective (d : Directive) : List Directive → List Directive
  | [] => [d]
  | e :: es => if d.time < e.time then d :: e :: es else e :: insertDirective d es

/-- A window put in its place: by start, after those of equal start (R163). -/
def insertWindow (w : Window) : List Window → List Window
  | [] => [w]
  | v :: vs => if w.start < v.start then w :: v :: vs else v :: insertWindow w vs

/-- Changes the schedule's own items. -/
def State.modSchedule (s : State) (f : Schedule → Schedule) : State := { s with schedule := f s.schedule }

/-- The reserve value of a reserve window, 0 for a close-walk-up window (R162). -/
def Window.endValue (w : Window) : Nat := if w.kind = .reserveWindow then w.value.getD 0 else 0

/-- A window ends, with WINDOW-END (R163). `how` is EXPIRED 1 or ENDED 2. -/
def State.sayWindowEnd (how : Nat) (s : State) (w : Window) : State :=
  s.notify .windowEnd (.directive w.number) how w.endValue

/-- Step 1 of R162: every window whose end time has come ends, in list order. -/
def State.endDueWindows (s : State) : State :=
  let due := s.schedule.windows.filter (fun w => decide (w.stop ≤ s.now))
  let t := s.modSchedule (fun h => { h with windows := h.windows.filter (fun w => !decide (w.stop ≤ s.now)) })
  due.foldl (State.sayWindowEnd 1) t

/-- A parameter directive writes its value (R162). -/
def Params.write (q : Params) (k : DirKind) (v : Nat) : Params :=
  match k with
  | .reserve => { q with reserve := v }
  | .split => { q with split := v }
  | .walkupLevel => { q with level := v }
  | .target => { q with fill := v }
  | .horizon => { q with horizon := v }
  | .reserveWindow | .closeWalkupWindow => q

/-- A window kind (R160). -/
def DirKind.isWindow : DirKind → Bool
  | .reserveWindow | .closeWalkupWindow => true
  | _ => false

/-- The value DIRECTIVE-RUN carries: the parameter's value in force after the run, or the duration (R162). -/
def Directive.runValue (d : Directive) : Nat := if d.kind.isWindow then d.duration.getD 0 else d.value.getD 0

/-- A window directive starts its window, or is refused when 8 are active (R162). -/
def State.startWindow (s : State) (d : Directive) : State :=
  if s.schedule.windows.length < windowRoom then
    let stop := s.now + d.duration.getD 0
    let w : Window :=
      { number := d.number, kind := d.kind, value := d.value, start := s.now, stop := s.storedTime stop }
    ((s.modSchedule (fun h => { h with windows := insertWindow w h.windows })).countTime stop).notify
      .windowStart (.directive d.number) (d.kind.code + 1) w.stop
  else s.notify .windowRefused (.directive d.number) (d.kind.code + 1) (d.duration.getD 0)

/-- One directive runs (R162). -/
def State.runDirective (s : State) (d : Directive) : State :=
  let s := s.notify .directiveRun (.directive d.number) (d.kind.code + 1) d.runValue
  if d.kind.isWindow then s.startWindow d
  else { s with params := s.params.write d.kind (d.value.getD 0) }

/-- Step 2 of R162: every directive whose time has come runs, in schedule order, and leaves. -/
def State.runDue (s : State) : State :=
  let due := s.schedule.directives.filter (fun d => decide (d.time ≤ s.now))
  let t := s.modSchedule
    (fun h => { h with directives := h.directives.filter (fun d => !decide (d.time ≤ s.now)) })
  due.foldl State.runDirective t

/-- The three steps of R162. -/
def State.runSchedule (s : State) : State := (s.endDueWindows.runDue).handParams s.params

/-! ### A change of kiosk time (R154) -/

/-- The claims' expiry, in book order (R54). -/
def State.expireAll (s : State) : State := s.claimIds.foldl State.expireIfDue s

/-- The Matcher's watch on time: a WAITING booking that has come within the horizon wants a pass (R60). -/
def State.watchHorizon (s : State) (was : Nat) : State :=
  if s.book.claims.any (fun c => c.isBooking && decide (c.state = .waiting) && s.inHorizon c
      && decide (was + s.params.horizon < c.due)) then s.wantPass
  else s

/-- What a change of kiosk time from `was` does, the new time already in force (R54, R60, R162). -/
def State.timeChanged (s : State) (was : Nat) : State := (s.expireAll.runSchedule.watchHorizon was).settle

/-! ### CLOCK_ADVANCE -/

/-- One second passes for a countdown (R105, R111). -/
def Exchange.tick (e : Exchange) : Exchange := { e with deadline := e.deadline - 1 }

/-- One second passes for the part's other timers: the phase deadlines and the staleness timer (R105, R111;
log entry 5). -/
def State.tickTimers (s : State) : State :=
  (allExchanges.foldl (fun s x => s.modExch x Exchange.tick) s).modGrants
    (fun g => { g with timer := g.timer.map (fun n => n - 1) })

/-- One second passes (R154): the timers count down, the kiosk time advances until it stands at its largest
value, and an advance is a change of kiosk time. -/
def State.clockAdvance (s : State) : State :=
  let s := s.tickTimers
  if s.clock.time < maxWord then
    let was := s.clock.time
    { s with clock := { s.clock with time := was + 1 } }.timeChanged was
  else s

/-- CLOCK_ADVANCE (R154). -/
def execClockAdvance (s : State) : Host.Outcome State Fault Refusal := .next s.clockAdvance

end Sys2Proof.Machine
end

