-- ==== Sys2Proof/Machine/FeedRequests.lean ====
section
/-! DEFINITION. The feed and the requests of the Grant Controller (chapter 6): REPORT-FEED, SET-MODULE,
HALT-CHARGING, RESUME-CHARGING, READ-GRANTS, and the command STALENESS_TIMEOUT. -/

namespace Sys2Proof.Machine

/-! ### REPORT-FEED (R105) -/

/-- The largest feed budget (R105). -/
def maxFeed : Nat := 96000

/-- F is written and the staleness timer started (R105 steps 1, 2). -/
def State.writeFeed (s : State) (f : Nat) : State :=
  s.modGrants (fun g => { g with watts := f, timer := some stalenessLength })

/-- The feed becomes CURRENT (R105 step 3). -/
def State.feedCurrent (s : State) : State :=
  match s.grants.feed with
  | .current => s
  | .unknown => (s.modGrants (fun g => { g with feed := .current })).wantReplan
  | .stale =>
    (((s.modGrants (fun g => { g with feed := .current })).notify .feedRestored .none 0
      s.grants.watts).withdrawFeedStale).wantReplan

/-- The feed deadband test (R100). -/
def State.feedTest (s : State) : State :=
  match s.grants.header with
  | none => s
  | some h =>
    if h.feed + s.params.feedBand ≤ s.grants.watts ∧ h.feed < s.grants.watts then s.wantReplan else s

/-- REPORT-FEED (R105). -/
def State.reportFeed (s : State) (watts : Word) : State × Reply :=
  let t := (((s.writeFeed (min maxFeed watts.toNat)).feedCurrent).recomputeUsable).feedTest
  t.reply (u32 t.grants.watts ++ u8 t.grants.feed.code ++ u32 t.grants.usable ++ flagByte t.grants.halt)

/-! ### SET-MODULE (R107) -/

/-- A module limit as taken (R107). -/
def takenLimit (n : Nat) : Nat := floor50 (min 4000 n)

/-- An entry of the module table is replaced, and the caps of both its bays recomputed (R102, R107), in order of bay
number (log entry 35). -/
def State.putModule (s : State) (m : ModNo) (x : Module) : State :=
  let t := s.modGrants (fun g => { g with modules := g.modules.set m.val x m.isLt })
  ((moduleBays m).foldl State.recap t).wantReplan

/-- SET-MODULE (R107). -/
def State.setModule (s : State) (module : Byte) (limit : Half) (state : Byte) : State × Reply :=
  match moduleOfByte module, flagOfByte state with
  | some m, some fault =>
    let x : Module := { limit := takenLimit limit.toNat, fault := fault }
    let t := if s.grants.modules.get m = x then s else s.putModule m x
    t.reply (u8 (m.val + 1) ++ u32 (t.grants.modules.get m).limit ++ flagByte (t.grants.modules.get m).fault
      ++ (moduleBays m).flatMap (fun b => u32 (t.bay b).grant))
  | _, _ => s.refuse .badField

/-! ### Halt and resume (R108, R109) -/

/-- Charging halts (R108): the flag, every grant cut, U 0, HALT, the kiosk fault, replan wanted. -/
def State.halt (s : State) : State :=
  let s := (s.modGrants (fun g => { g with halt := true })).cutAll
  ((s.recomputeUsable.notify .halt .none 0 0).reportHalt).wantReplan

/-- HALT-CHARGING (R108). -/
def State.haltCharging (s : State) : State × Reply :=
  let t := if s.grants.halt then s else s.halt
  t.reply (flagByte t.grants.halt ++ u32 t.grants.usable)

/-- A halt is lifted (R109). -/
def State.resume (s : State) : State :=
  let s := (s.modGrants (fun g => { g with halt := false })).recomputeUsable
  ((s.notify .resume .none 0 s.grants.usable).withdrawHalt).wantReplan

/-- RESUME-CHARGING (R109). -/
def State.resumeCharging (s : State) : State × Reply :=
  let t := if s.grants.halt then s.resume else s
  t.reply (flagByte t.grants.halt ++ u8 t.grants.feed.code ++ u32 t.grants.usable)

/-- READ-GRANTS (R110). -/
def State.readGrants (s : State) : State × Reply := s.reply s.grantsPayload

/-! ### STALENESS_TIMEOUT (R106) -/

/-- The staleness timer runs out with the feed CURRENT (R106): the feed is STALE, every grant cut, U 0,
FEED-STALE, the kiosk fault, replan wanted. With the feed UNKNOWN or STALE the timer does not run. -/
def State.goStale (s : State) : State :=
  match s.grants.feed with
  | .current =>
    let s := (s.modGrants (fun g => { g with feed := .stale, timer := none })).cutAll
    ((s.recomputeUsable.notify .feedStale .none 0 s.grants.watts).reportFeedStale).wantReplan
  | _ => s

/-- STALENESS_TIMEOUT (R106). -/
def execStalenessTimeout (s : State) : Host.Outcome State Fault Refusal := .next s.goStale

end Sys2Proof.Machine
end

