-- ==== Sys2Proof/Machine/SwapRequests.lean ====
section
/-! DEFINITION. The requests of the Exchange Controller and of the Bay Bus Controller (chapters 7 and 8):
BEGIN-SWAP, ABORT-SWAP, READ-EXCHANGE, READ-LINK-COUNTERS, and the five phase deadlines. -/

namespace Sys2Proof.Machine

/-! ### BEGIN-SWAP (R113, R114) -/

/-- A claim needs an intake: it holds no credit and is no first issue (R113). -/
def Claim.needsIntake (c : Claim) : Bool := c.returned.isNone && !c.firstIssue

/-- The lowest-numbered bay of a section that may be an intake bay (R113). -/
def State.intakeIn (s : State) (sec : BaySection) : Option BayNo :=
  allBays.find? (fun b => (s.bay b).intakeFit && decide ((s.bay b).bsection = sec))

/-- The intake bay chosen for a claim: its own section first (R113). -/
def State.chooseIntake (s : State) (c : Claim) : Option BayNo :=
  let own := if c.isBooking then BaySection.booked else BaySection.walkup
  let other := if c.isBooking then BaySection.walkup else BaySection.booked
  match s.intakeIn own with
  | some b => some b
  | none => s.intakeIn other

/-- The refusal NOT-READY, with the claim's state and projection (R113, R176). -/
def notReady (c : Claim) : Reply :=
  .refused .notReady (u8 c.state.code ++ optional u32 c.projected)

/-- Sets the role of a bay of an exchange, if there is one. -/
def State.giveRole (s : State) (role : Role) : Option BayNo → State
  | none => s
  | some b => s.setRole b role

/-- An accepted BEGIN-SWAP (R114). -/
def State.startSwap (s : State) (x : ExNo) (c : Claim) (intake : Option BayNo) : State :=
  let first : Phase := if intake.isSome then .intakeOpen else .takeOpen
  let s := s.setExch x (some
    { claim := c.id, phase := first, intake := intake, take := c.takeBay, deadline := 0, start := s.now,
      abort := false, relink := false })
  let s := s.modClaim c.id (fun c => { c with state := .swapping })
  let s := (s.giveRole (.take x) c.takeBay).giveRole (.intake x) intake
  match intake, c.takeBay with
  | some b, _ => s.enterIntakeOpen x b true
  | none, some b => s.enterTakeOpen x b
  | none, none => s

/-- The reply of BEGIN-SWAP: exchange number, phase, intake bay or none, take bay (R114). -/
def State.beganPayload (s : State) (x : ExNo) : List Byte :=
  match s.exch x with
  | none => []
  | some e => u8 (exchangeNumber x) ++ u8 e.phase.code ++ u8 (bayCode e.intake) ++ u8 (bayCode e.take)

/-- BEGIN-SWAP (R113, R114). -/
def State.beginSwap (s : State) (origin : Byte) (tag : Half) : State × Reply :=
  match claimIdOf origin tag with
  | none => s.refuse .badField
  | some id =>
    match s.claim? id with
    | none => s.refuse .noSuchClaim
    | some c =>
      if c.state = .swapping then s.refuse .claimBusy
      else if c.state ≠ .ready then (s, notReady c)
      else
        match s.freeExchange with
        | none => s.refuse .exchangesFull
        | some x =>
          let intake := if c.needsIntake then s.chooseIntake c else none
          if c.needsIntake = true ∧ intake = none then s.refuse .noVacantBay
          else
            let t := (s.startSwap x c intake).settle
            t.reply (t.beganPayload x)

/-! ### ABORT-SWAP (R126) -/

/-- Door CLOSED and latch LOCKED as last reported. -/
def Bay.shut (r : Bay) : Bool := decide (r.door = .closed) && decide (r.latch = .locked)

/-- What a first accepted abort does (R126): LOCK for the phase's bay, and the end of the exchange when that
bay is shut; in INTAKE-CHECK the abort waits. -/
def State.abort (s : State) (x : ExNo) (e : Exchange) : State :=
  let s := s.setExch x (some { e with abort := true })
  match e.phase, e.intake, e.take with
  | .intakeOpen, some b, _ =>
    if (s.bay b).shut && !(s.bay b).sensed then s.endExchange x .aborted [b] [] (s.watchIfLeft b)
    else s.queueLock b
  | .takeOpen, _, some b =>
    if (s.bay b).shut then s.endExchange x .aborted [b] [] none else s.queueLock b
  | _, _, _ => s

/-- ABORT-SWAP (R126). -/
def State.abortSwap (s : State) (exchange origin : Byte) (tag : Half) : State × Reply :=
  match exchangeOfByte exchange, claimIdOf origin tag with
  | some x, some id =>
    (match s.exch x with
    | none => s.refuse .noSuchExchange
    | some e =>
      if e.claim ≠ id then s.refuse .noSuchExchange
      else if e.phase = .returnRejected ∨ e.phase = .takeClosing then s.refuse .tooLate
      else
        let t := if e.abort then s else (s.abort x e).settle
        t.reply (u8 (exchangeNumber x) ++ u8 e.phase.code ++ flagByte (t.exch x).isNone))
  | _, _ => s.refuse .badField

/-! ### Reads (R128, R142) -/

/-- READ-EXCHANGE (R128). -/
def State.readExchange (s : State) (exchange : Byte) : State × Reply :=
  match exchangeOfByte exchange with
  | none => s.refuse .badField
  | some x =>
    match s.exch x with
    | none => s.refuse .noSuchExchange
    | some e => s.reply (s.exchangePayload x e)

/-- Clears the miss counts and the address-error count (R142). -/
def State.clearCounts (s : State) : State :=
  (allBays.foldl (fun s b => s.modBay b (fun r => { r with missCount := 0 })) s).modBus
    (fun u => { u with addrErrors := 0 })

/-- READ-LINK-COUNTERS (R142). -/
def State.readLinkCounters (s : State) : State × Reply := s.clearCounts.reply s.linkPayload

/-! ### The deadlines -/

/-- INTAKE_OPEN_DEADLINE (R115). -/
def execIntakeOpenDeadline (x : ExNo) (s : State) : Host.Outcome State Fault Refusal :=
  .next (s.atDeadline x .intakeOpen (fun s e => (s.intakeOpenExpired x e).settle))

/-- INTAKE_CHECK_DEADLINE (R116). -/
def execIntakeCheckDeadline (x : ExNo) (s : State) : Host.Outcome State Fault Refusal :=
  .next (s.atDeadline x .intakeCheck (fun s e => (s.intakeCheckExpired e).settle))

/-- RETURN_REJECTED_DEADLINE (R118). -/
def execReturnRejectedDeadline (x : ExNo) (s : State) : Host.Outcome State Fault Refusal :=
  .next (s.atDeadline x .returnRejected (fun s e => (s.returnRejectedExpired x e).settle))

/-- TAKE_OPEN_DEADLINE (R119). -/
def execTakeOpenDeadline (x : ExNo) (s : State) : Host.Outcome State Fault Refusal :=
  .next (s.atDeadline x .takeOpen (fun s e => (s.takeOpenExpired x e).settle))

/-- TAKE_CLOSING_DEADLINE (R120). -/
def execTakeClosingDeadline (x : ExNo) (s : State) : Host.Outcome State Fault Refusal :=
  .next (s.atDeadline x .takeClosing (fun s e => (s.takeClosingExpired x e).settle))

end Sys2Proof.Machine
end

