-- ==== Sys2Proof/Machine/PolicyRequests.lean ====
section
/-! DEFINITION. The requests of the Kiosk Clock and Schedule (chapter 10): SET-TIME, SET-KIOSK-PARAMS,
READ-KIOSK-PARAMS, ADD-DIRECTIVE, CLEAR-DIRECTIVES, END-WINDOWS, READ-SCHEDULE. -/

namespace Sys2Proof.Machine

/-! ### SET-TIME (R155, R156) -/

/-- How a SET-TIME is taken, or its refusal (R155); none is a step of 0 on a SET clock. -/
inductive TimeTaken where
  | nothing
  | mode (m : TimeMode)
  | refused
  deriving DecidableEq, Repr

/-- Nothing blocks a step of the clock: no booking, no pending directive, no active window (R155). -/
def State.stepFree (s : State) : Bool :=
  !s.book.claims.any Claim.isBooking && s.schedule.directives.isEmpty && s.schedule.windows.isEmpty

/-- The judgement of R155. -/
def State.judgeTime (s : State) (new : Nat) : TimeTaken :=
  let step : Int := (new : Int) - (s.now : Int)
  if s.clock.isSet = false then .mode .set
  else if step = 0 then .nothing
  else if -120 ≤ step ∧ step ≤ 120 then .mode .trim
  else if s.stepFree then .mode .shift
  else .refused

/-- The clock takes a new time and is SET (R154). -/
def State.putTime (s : State) (new : Nat) : State := { s with clock := { time := new, isSet := true } }

/-- A claim's five times shifted by a step (R42, R156). -/
def Claim.shift (step : Int) (c : Claim) : Claim :=
  { c with
    openTime := shiftTime step c.openTime
    due := shiftTime step c.due
    expiry := shiftTime step c.expiry
    firstReady := c.firstReady.map (shiftTime step)
    projected := c.projected.map (shiftTime step) }

/-- Every stored absolute time shifted by a step (R156). -/
def State.shiftTimes (s : State) (step : Int) : State :=
  let s := s.setClaims (sortClaims (s.book.claims.map (Claim.shift step)))
  let s := { s with faults :=
    { linkDown := s.faults.linkDown.map (shiftTime step)
      feedStale := s.faults.feedStale.map (shiftTime step)
      halt := s.faults.halt.map (shiftTime step) } }
  allExchanges.foldl (fun s x => s.modExch x (fun e => { e with start := shiftTime step e.start })) s

/-- CLOCK-STEPPED, sent when the time has changed (R155). -/
def State.sayStepped (s : State) (was : Nat) (m : TimeMode) : State :=
  if s.now = was then s else s.notify .clockStepped .none m.code s.now

/-- An accepted SET-TIME (R155, R156). -/
def State.takeTime (s : State) (new : Nat) (m : TimeMode) : State :=
  let was := s.now
  match m with
  | .trim => ((s.putTime new).sayStepped was m).timeChanged was
  | .set | .shift => ((s.putTime new).shiftTimes ((new : Int) - (was : Int))).sayStepped was m

/-- The reply of SET-TIME: the time in force, the clock state, the mode or none. -/
def State.timePayload (s : State) (mode : Nat) : List Byte :=
  u32 s.clock.time ++ flagByte s.clock.isSet ++ u8 mode

/-- SET-TIME (R155). -/
def State.setTime (s : State) (time : Word) : State × Reply :=
  match s.judgeTime time.toNat with
  | .refused => s.refuse .clockStep
  | .nothing => s.reply (s.timePayload 0)
  | .mode m =>
    let t := s.takeTime time.toNat m
    t.reply (t.timePayload m.code)

/-! ### The parameters (R157, R159) -/

/-- The parameters after a SET-KIOSK-PARAMS: each present one clamped and written (R157). -/
def Params.set (q : Params) (present : Byte) (reserve : Word) (socBand feedBand horizon level fill : Half)
    (split downshift : Byte) : Params where
  reserve := (presentIf present 0 (clampNat 0 96000 reserve.toNat)).getD q.reserve
  socBand := (presentIf present 1 (clampNat 0 100 socBand.toNat)).getD q.socBand
  feedBand := (presentIf present 2 (clampNat 0 5000 feedBand.toNat)).getD q.feedBand
  horizon := (presentIf present 3 (clampNat 0 7200 horizon.toNat)).getD q.horizon
  level := (presentIf present 4 (clampNat 500 1000 level.toNat)).getD q.level
  fill := (presentIf present 5 (clampNat 600 1000 fill.toNat)).getD q.fill
  split := (presentIf present 6 (clampNat 0 24 split.toNat)).getD q.split
  downshift := (presentIf present 7 (clampNat 1 8 downshift.toNat)).getD q.downshift

/-- SET-KIOSK-PARAMS (R157, R158). -/
def State.setKioskParams (s : State) (present : Byte) (reserve : Word)
    (socBand feedBand horizon level fill : Half) (split downshift : Byte) : State × Reply :=
  if present = 0 then s.refuse .badField
  else
    let q := s.params.set present reserve socBand feedBand horizon level fill split downshift
    let t := if q = s.params then s else ({ s with params := q }.handParams s.params).settle
    t.reply t.params.bytes

/-- READ-KIOSK-PARAMS (R159). -/
def State.readKioskParams (s : State) : State × Reply :=
  s.reply (s.params.bytes ++ u32 s.schedule.effective ++ flagByte s.schedule.walkupsOpen)

/-! ### The schedule (R160, R164, R165) -/

/-- The number after a directive number, from 1 to 65,535, wrapping (R160). -/
def nextNumber (n : Nat) : Nat := if 65535 ≤ n then 1 else n + 1

/-- A directive number is held by a pending directive or an active window. -/
def Schedule.holds (h : Schedule) (n : Nat) : Bool :=
  h.directives.any (fun d => decide (d.number = n)) || h.windows.any (fun w => decide (w.number = n))

/-- The next number not held, looking at most `fuel` numbers on (R160). At most 40 numbers are held, so 41
always suffice. -/
def Schedule.freeNumber (h : Schedule) : Nat → Nat → Nat
  | 0, n => n
  | fuel + 1, n => if h.holds n then h.freeNumber fuel (nextNumber n) else n

/-- The number the next accepted directive takes (R160). -/
def Schedule.nextFree (h : Schedule) : Nat := h.freeNumber 41 (nextNumber h.counter)

/-- A directive's value held to its kind's range; none for a close-walk-up window (R160). -/
def DirKind.takenValue (k : DirKind) (v : Nat) : Option Nat :=
  match k with
  | .reserve | .reserveWindow => some (clampNat 0 96000 v)
  | .split => some (clampNat 0 24 v)
  | .walkupLevel => some (clampNat 500 1000 v)
  | .target => some (clampNat 600 1000 v)
  | .horizon => some (clampNat 0 7200 v)
  | .closeWalkupWindow => none

/-- A directive's duration; none for a kind without one (R160). -/
def DirKind.takenDuration (k : DirKind) (d : Nat) : Option Nat :=
  if k.isWindow then some (clampNat 60 86400 d) else none

/-- ADD-DIRECTIVE (R160). -/
def State.addDirective (s : State) (kind : Byte) (time value duration : Word) : State × Reply :=
  match kindOfByte kind with
  | none => s.refuse .badField
  | some k =>
    if s.clock.isSet = false then s.refuse .clockUnset
    else if scheduleRoom ≤ s.schedule.directives.length then s.refuse .scheduleFull
    else
      let d : Directive :=
        { number := s.schedule.nextFree, kind := k, time := time.toNat,
          value := k.takenValue value.toNat, duration := k.takenDuration duration.toNat }
      let t := s.modSchedule (fun h =>
        { h with directives := insertDirective d h.directives, counter := d.number })
      t.reply (u16 d.number ++ optional u32 d.value ++ u32 (d.duration.getD 0) ++ u8 t.schedule.free)

/-- What a CLEAR-DIRECTIVES kind field removes: one kind, or all for 0xFF (R164, R176). -/
def clearsOf (kind : Byte) : Option (DirKind → Bool) :=
  if kind = 0xFF then some (fun _ => true)
  else
    match kindOfByte kind with
    | none => none
    | some k => some (fun j => decide (j = k))

/-- CLEAR-DIRECTIVES (R164). -/
def State.clearDirectives (s : State) (kind : Byte) : State × Reply :=
  match clearsOf kind with
  | none => s.refuse .badField
  | some goes =>
    let removed := s.schedule.directives.filter (fun d => goes d.kind)
    let t := s.modSchedule (fun h => { h with directives := h.directives.filter (fun d => !goes d.kind) })
    t.reply (u8 removed.length ++ u8 t.schedule.free)

/-- Every active window ends (R164). -/
def State.endAllWindows (s : State) : State :=
  let t := s.modSchedule (fun h => { h with windows := [] })
  (s.schedule.windows.foldl (State.sayWindowEnd 2) t).recomputeReserve

/-- END-WINDOWS (R164). -/
def State.endWindows (s : State) : State × Reply :=
  let t := s.endAllWindows
  t.reply (u8 s.schedule.windows.length ++ u32 t.schedule.effective)

/-- READ-SCHEDULE (R165). -/
def State.readSchedule (s : State) (list start : Byte) : State × Reply :=
  let h := s.schedule
  let pos := start.toNat
  if list = 0 ∧ 1 ≤ pos ∧ pos ≤ 32 then
    s.reply (h.counts ++ counted (((h.directives.drop (pos - 1)).take 4).map Directive.bytes))
  else if list = 1 ∧ 1 ≤ pos ∧ pos ≤ 8 then
    s.reply (h.counts ++ counted (((h.windows.drop (pos - 1)).take 4).map Window.bytes))
  else s.refuse .badField

end Sys2Proof.Machine
end

