-- ==== Sys2Proof/Machine/Ports.lean ====
section
/-! DEFINITION. The Port Interface (chapter 11): the requests READ-STATUS, FETCH-NOTICES, SET-ATTENTION and
PORT-CLEAR; the checking and answering of a request; the receiver; and the commands on the lines of a
port. -/

namespace Sys2Proof.Machine

/-! ### The port requests (R170, R173 to R175) -/

/-- The attention line judged afresh (R172). -/
def PortState.judged (p : PortState) : PortState := { p with attn := p.judge }

/-- READ-STATUS (R170). -/
def State.readStatus (s : State) (p : Port) : State × Reply := s.reply (s.statusPayload p)

/-- A port after a fetch: the oldest four gone, the flag and the count cleared (R173). -/
def PortState.fetched (p : PortState) : PortState :=
  PortState.judged { p with notices := p.notices.drop 4, overflow := false, dropped := 0 }

/-- The payload of FETCH-NOTICES: returned, remaining, the flag and the count, the records (R173). -/
def PortState.fetchPayload (p : PortState) : List Byte :=
  u8 (p.notices.take 4).length ++ u8 (p.notices.drop 4).length ++ flagByte p.overflow ++ u8 p.dropped
    ++ (p.notices.take 4).flatMap Notice.record

/-- FETCH-NOTICES (R173). -/
def State.fetchNotices (s : State) (p : Port) : State × Reply :=
  (s.modPort p PortState.fetched).reply (s.ports.get p).fetchPayload

/-- A threshold as taken (R174). -/
def takenThreshold (n : Nat) : Nat := clampNat 1 16 n

/-- SET-ATTENTION (R174). The reply's line byte is 1 when the line is asserted (log entry 9). -/
def State.setAttention (s : State) (p : Port) (threshold : Byte) : State × Reply :=
  let t := s.modPort p
    (fun q => PortState.judged { q with threshold := takenThreshold threshold.toNat })
  let q := t.ports.get p
  t.reply (u8 q.threshold ++ u8 q.notices.length ++ flagByte q.attn)

/-- A port after PORT-CLEAR (R175). -/
def PortState.cleared (p : PortState) : PortState :=
  PortState.judged
    { p with notices := [], overflow := false, dropped := 0, crcErrors := 0, overruns := 0 }

/-- PORT-CLEAR (R175). -/
def State.portClear (s : State) (p : Port) : State × Reply :=
  (s.modPort p PortState.cleared).reply (u8 (s.ports.get p).notices.length)

/-! ### Checking and answering a request (R167, R168) -/

/-- Hands a permitted request to its owner. -/
def State.runRequest (s : State) (p : Port) : Request → State × Reply
  | .readStatus => s.readStatus p
  | .fetchNotices => s.fetchNotices p
  | .setAttention t => s.setAttention p t
  | .portClear => s.portClear p
  | .readBay bays => s.readBay bays
  | .setBayService b v => s.setBayService b v
  | .setBayAbility b a => s.setBayAbility b a
  | .restartBay b => s.restartBay b
  | .openBooking tag c lv due hold fi => s.openBooking tag c lv due hold fi
  | .openWalkup tag c lv => s.openWalkup tag c lv
  | .amendBooking tag pr due hold lv c => s.amendBooking tag pr due hold lv c
  | .cancelClaim o tag => s.cancelClaim p o tag
  | .readClaim o tag => s.readClaim o tag
  | .listClaims st => s.listClaims st
  | .reportFeed w => s.reportFeed w
  | .setModule m l st => s.setModule m l st
  | .haltCharging => s.haltCharging
  | .resumeCharging => s.resumeCharging
  | .readGrants => s.readGrants
  | .beginSwap o tag => s.beginSwap o tag
  | .abortSwap x o tag => s.abortSwap x o tag
  | .readExchange x => s.readExchange x
  | .readLinkCounters => s.readLinkCounters
  | .writeDerateRow r b ps pm pL => s.writeDerateRow r b ps pm pL
  | .readDerateTable => s.readDerateTable
  | .clearBayFault b => s.clearBayFault b
  | .setTime t => s.setTime t
  | .setKioskParams pr rs sb fb hz lv ft sp dc => s.setKioskParams pr rs sb fb hz lv ft sp dc
  | .readKioskParams => s.readKioskParams
  | .addDirective k t v d => s.addDirective k t v d
  | .clearDirectives k => s.clearDirectives k
  | .endWindows => s.endWindows
  | .readSchedule l st => s.readSchedule l st

/-- Permission, then the owner (R168 checks 3 and 4, R169). -/
def State.permitRequest (s : State) (p : Port) (r : Request) : State × Reply :=
  if permitted p r then s.runRequest p r else s.refuse .notPermitted

/-- The frame of a reply (R168): a success echoes the CODE, a refusal sets its bit 7. -/
def Reply.frame (code : Byte) : Reply → List Byte
  | .ok payload => Sys2Proof.frame code payload
  | .refused c more => Sys2Proof.frame (code ||| 0x80) (c.byte :: more)

/-- The reply is formed, and transmitted on the port's TXD line from now on (R167). -/
def State.putReply (s : State) (p : Port) (bytes : List Byte) : State :=
  s.modPort p (fun q => { q with reply := some bytes })

/-- A request's result, answered on the port it came on. -/
def replied (result : State × Reply) (p : Port) (code : Byte) : State :=
  result.1.putReply p (result.2.frame code)

/-- A complete frame at a port that holds a request is discarded and counted (R167). -/
def PortState.overrun (p : PortState) : PortState := { p with overruns := min 65535 (p.overruns + 1) }

/-- The port holds a request: its reply has not left entirely (R167). -/
def PortState.busy (p : PortState) : Bool := p.reply.isSome

/-- The complete frame of a request arrives at a port (R167). -/
def State.takeRequest (s : State) (p : Port) (r : Request) : State :=
  if (s.ports.get p).busy then s.modPort p PortState.overrun
  else replied (s.permitRequest p r) p r.code

/-- A complete frame arrives at a port (R167, R168): as the request its CODE and payload spell, or refused by
check 1 or 2. -/
def State.takeFrame (s : State) (p : Port) (code : Byte) (payload : List Byte) : State :=
  match decodeRequest code payload with
  | .ok r => s.takeRequest p r
  | .error c =>
    if (s.ports.get p).busy then s.modPort p PortState.overrun
    else replied (s.refuse c) p code

/-! ### The receiver (R166) -/

/-- One more CRC error. -/
def PortState.crcError (p : PortState) : PortState := { p with crcErrors := min 65535 (p.crcErrors + 1) }

/-- Sets a port's receiver. -/
def State.setRx (s : State) (p : Port) (x : Rx) : State := s.modPort p (fun q => { q with rx := x })

/-- A frame is abandoned and counted. -/
def State.abandon (s : State) (p : Port) : State := (s.setRx p .hunting).modPort p PortState.crcError

/-- All of a frame's bytes after SYNC have come: the frame check, and the frame if it matches (R166). -/
def State.endFrame (s : State) (p : Port) (bytes : List Byte) : State :=
  match bytes with
  | len :: code :: rest =>
    let payload := rest.take len.toNat
    if rest.drop len.toNat = halfBytes (crc16 (len :: code :: payload)) then
      (s.setRx p .hunting).takeFrame p code payload
    else s.abandon p
  | _ => s.setRx p .hunting

/-- The bytes an IN-FRAME receiver holds, a new one among them (R166): LEN above 96 abandons the frame, the
second CRC byte ends it. -/
def State.growFrame (s : State) (p : Port) (bytes : List Byte) : State :=
  match bytes with
  | [] => s
  | len :: _ =>
    if maxLen < len.toNat then s.abandon p
    else if bytes.length = len.toNat + 4 then s.endFrame p bytes
    else s.setRx p (.inFrame bytes)

/-- A byte arrives on a port's RXD line (R166). -/
def State.takeByte (s : State) (p : Port) (b : Byte) : State :=
  match (s.ports.get p).rx with
  | .hunting => if b = syncByte then s.setRx p (.inFrame []) else s
  | .inFrame bytes => s.growFrame p (bytes ++ [b])

/-- More than 10 ms pass between two bytes of a frame (R166). -/
def State.takeGap (s : State) (p : Port) : State := s.setRx p .hunting

/-- The last byte of a port's reply has left (R167). -/
def State.sentReply (s : State) (p : Port) : State := s.modPort p (fun q => { q with reply := none })

end Sys2Proof.Machine
end

