-- ==== Sys2Proof/Machine/Commands.lean ====
section
/-! DEFINITION. The commands of the ports: bytes, gaps, replies sent, power-on, and one command for each
request, which is the arrival of that request's complete frame on a port (R167). -/

namespace Sys2Proof.Machine

/-- POWER_ON (R5): every piece of state at its value after power-on. The queue of commands is not the
part's, and the count of free values used goes on. -/
def State.powerOn (s : State) : State := { State.reset with pending := s.pending, freeCount := s.freeCount }

/-- POWER_ON (R5). -/
def execPowerOn (s : State) : Host.Outcome State Fault Refusal := .next s.powerOn

/-- RX_BYTE (R166). -/
def execRxByte (p : Port) (b : Byte) (s : State) : Host.Outcome State Fault Refusal := .next (s.takeByte p b)

/-- INTER_BYTE_GAP (R166). -/
def execInterByteGap (p : Port) (s : State) : Host.Outcome State Fault Refusal := .next (s.takeGap p)

/-- REPLY_TRANSMITTED (R167). -/
def execReplyTransmitted (p : Port) (s : State) : Host.Outcome State Fault Refusal := .next (s.sentReply p)

/-- READ_STATUS (R170). -/
def execReadStatus (p : Port) (s : State) :
    Host.Outcome State Fault Refusal :=
  .next (s.takeRequest p .readStatus)

/-- FETCH_NOTICES (R173). -/
def execFetchNotices (p : Port) (s : State) :
    Host.Outcome State Fault Refusal :=
  .next (s.takeRequest p .fetchNotices)

/-- SET_ATTENTION (R174). -/
def execSetAttention (p : Port) (threshold : Byte) (s : State) :
    Host.Outcome State Fault Refusal :=
  .next (s.takeRequest p (.setAttention threshold))

/-- PORT_CLEAR (R175). -/
def execPortClear (p : Port) (s : State) :
    Host.Outcome State Fault Refusal :=
  .next (s.takeRequest p .portClear)

/-- READ_BAY (R19). -/
def execReadBay (p : Port) (bays : List Byte) (s : State) :
    Host.Outcome State Fault Refusal :=
  .next (s.takeRequest p (.readBay bays))

/-- SET_BAY_SERVICE (R20). -/
def execSetBayService (p : Port) (bay service : Byte) (s : State) :
    Host.Outcome State Fault Refusal :=
  .next (s.takeRequest p (.setBayService bay service))

/-- SET_BAY_ABILITY (R33). -/
def execSetBayAbility (p : Port) (bay abilities : Byte) (s : State) :
    Host.Outcome State Fault Refusal :=
  .next (s.takeRequest p (.setBayAbility bay abilities))

/-- RESTART_BAY (R34). -/
def execRestartBay (p : Port) (bay : Byte) (s : State) :
    Host.Outcome State Fault Refusal :=
  .next (s.takeRequest p (.restartBay bay))

/-- OPEN_BOOKING (R46). -/
def execOpenBooking (p : Port) (tag : Half) (cls : Byte) (level : Half) (due : Word)
    (hold : Half) (first : Byte) (s : State) :
    Host.Outcome State Fault Refusal :=
  .next (s.takeRequest p (.openBooking tag cls level due hold first))

/-- OPEN_WALKUP (R47). -/
def execOpenWalkup (p : Port) (tag : Half) (cls : Byte) (level : Half) (s : State) :
    Host.Outcome State Fault Refusal :=
  .next (s.takeRequest p (.openWalkup tag cls level))

/-- AMEND_BOOKING (R49). -/
def execAmendBooking (p : Port) (tag : Half) (present : Byte) (due : Word) (hold level : Half)
    (cls : Byte) (s : State) :
    Host.Outcome State Fault Refusal :=
  .next (s.takeRequest p (.amendBooking tag present due hold level cls))

/-- CANCEL_CLAIM (R50). -/
def execCancelClaim (p : Port) (origin : Byte) (tag : Half) (s : State) :
    Host.Outcome State Fault Refusal :=
  .next (s.takeRequest p (.cancelClaim origin tag))

/-- READ_CLAIM (R52). -/
def execReadClaim (p : Port) (origin : Byte) (tag : Half) (s : State) :
    Host.Outcome State Fault Refusal :=
  .next (s.takeRequest p (.readClaim origin tag))

/-- LIST_CLAIMS (R53). -/
def execListClaims (p : Port) (start : Byte) (s : State) :
    Host.Outcome State Fault Refusal :=
  .next (s.takeRequest p (.listClaims start))

/-- REPORT_FEED (R105). -/
def execReportFeed (p : Port) (watts : Word) (s : State) :
    Host.Outcome State Fault Refusal :=
  .next (s.takeRequest p (.reportFeed watts))

/-- SET_MODULE (R107). -/
def execSetModule (p : Port) (module : Byte) (limit : Half) (state : Byte) (s : State) :
    Host.Outcome State Fault Refusal :=
  .next (s.takeRequest p (.setModule module limit state))

/-- HALT_CHARGING (R108). -/
def execHaltCharging (p : Port) (s : State) :
    Host.Outcome State Fault Refusal :=
  .next (s.takeRequest p .haltCharging)

/-- RESUME_CHARGING (R109). -/
def execResumeCharging (p : Port) (s : State) :
    Host.Outcome State Fault Refusal :=
  .next (s.takeRequest p .resumeCharging)

/-- READ_GRANTS (R110). -/
def execReadGrants (p : Port) (s : State) :
    Host.Outcome State Fault Refusal :=
  .next (s.takeRequest p .readGrants)

/-- BEGIN_SWAP (R113). -/
def execBeginSwap (p : Port) (origin : Byte) (tag : Half) (s : State) :
    Host.Outcome State Fault Refusal :=
  .next (s.takeRequest p (.beginSwap origin tag))

/-- ABORT_SWAP (R126). -/
def execAbortSwap (p : Port) (exchange origin : Byte) (tag : Half) (s : State) :
    Host.Outcome State Fault Refusal :=
  .next (s.takeRequest p (.abortSwap exchange origin tag))

/-- READ_EXCHANGE (R128). -/
def execReadExchange (p : Port) (exchange : Byte) (s : State) :
    Host.Outcome State Fault Refusal :=
  .next (s.takeRequest p (.readExchange exchange))

/-- READ_LINK_COUNTERS (R142). -/
def execReadLinkCounters (p : Port) (s : State) :
    Host.Outcome State Fault Refusal :=
  .next (s.takeRequest p .readLinkCounters)

/-- WRITE_DERATE_ROW (R144). -/
def execWriteDerateRow (p : Port) (row bound pctS pctM pctL : Byte) (s : State) :
    Host.Outcome State Fault Refusal :=
  .next (s.takeRequest p (.writeDerateRow row bound pctS pctM pctL))

/-- READ_DERATE_TABLE (R145). -/
def execReadDerateTable (p : Port) (s : State) :
    Host.Outcome State Fault Refusal :=
  .next (s.takeRequest p .readDerateTable)

/-- CLEAR_BAY_FAULT (R153). -/
def execClearBayFault (p : Port) (bay : Byte) (s : State) :
    Host.Outcome State Fault Refusal :=
  .next (s.takeRequest p (.clearBayFault bay))

/-- SET_TIME (R155). -/
def execSetTime (p : Port) (time : Word) (s : State) :
    Host.Outcome State Fault Refusal :=
  .next (s.takeRequest p (.setTime time))

/-- SET_KIOSK_PARAMS (R157). -/
def execSetKioskParams (p : Port) (present : Byte) (reserve : Word)
    (socBand feedBand horizon level fill : Half) (split downshift : Byte) (s : State) :
    Host.Outcome State Fault Refusal :=
  .next (s.takeRequest p (.setKioskParams present reserve socBand feedBand horizon level fill split downshift))

/-- READ_KIOSK_PARAMS (R159). -/
def execReadKioskParams (p : Port) (s : State) :
    Host.Outcome State Fault Refusal :=
  .next (s.takeRequest p .readKioskParams)

/-- ADD_DIRECTIVE (R160). -/
def execAddDirective (p : Port) (kind : Byte) (time value duration : Word) (s : State) :
    Host.Outcome State Fault Refusal :=
  .next (s.takeRequest p (.addDirective kind time value duration))

/-- CLEAR_DIRECTIVES (R164). -/
def execClearDirectives (p : Port) (kind : Byte) (s : State) :
    Host.Outcome State Fault Refusal :=
  .next (s.takeRequest p (.clearDirectives kind))

/-- END_WINDOWS (R164). -/
def execEndWindows (p : Port) (s : State) :
    Host.Outcome State Fault Refusal :=
  .next (s.takeRequest p .endWindows)

/-- READ_SCHEDULE (R165). -/
def execReadSchedule (p : Port) (list start : Byte) (s : State) :
    Host.Outcome State Fault Refusal :=
  .next (s.takeRequest p (.readSchedule list start))

end Sys2Proof.Machine
end

