-- ==== Sys2Proof/Machine/Dispatch.lean ====
section
/-! DEFINITION. One arm per command: what each does to everything but the queue. -/

namespace Sys2Proof.Machine

/-- A command's effect. -/
def exec (i : Instr) (s : State) : Host.Outcome State Fault Refusal :=
  match i with
  | .powerOn => Sys2Proof.Machine.execPowerOn s
  | .rxByte p b => Sys2Proof.Machine.execRxByte p b s
  | .interByteGap p => Sys2Proof.Machine.execInterByteGap p s
  | .replyTransmitted p => Sys2Proof.Machine.execReplyTransmitted p s
  | .readStatus p => Sys2Proof.Machine.execReadStatus p s
  | .fetchNotices p => Sys2Proof.Machine.execFetchNotices p s
  | .setAttention p threshold => Sys2Proof.Machine.execSetAttention p threshold s
  | .portClear p => Sys2Proof.Machine.execPortClear p s
  | .readBay p bays => Sys2Proof.Machine.execReadBay p bays s
  | .setBayService p bay service => Sys2Proof.Machine.execSetBayService p bay service s
  | .setBayAbility p bay abilities => Sys2Proof.Machine.execSetBayAbility p bay abilities s
  | .restartBay p bay => Sys2Proof.Machine.execRestartBay p bay s
  | .openBooking p tag cls level due hold first => Sys2Proof.Machine.execOpenBooking p tag cls level due hold first s
  | .openWalkup p tag cls level => Sys2Proof.Machine.execOpenWalkup p tag cls level s
  | .amendBooking p tag present due hold level cls => Sys2Proof.Machine.execAmendBooking p tag present due hold level cls s
  | .cancelClaim p origin tag => Sys2Proof.Machine.execCancelClaim p origin tag s
  | .readClaim p origin tag => Sys2Proof.Machine.execReadClaim p origin tag s
  | .listClaims p start => Sys2Proof.Machine.execListClaims p start s
  | .reportFeed p watts => Sys2Proof.Machine.execReportFeed p watts s
  | .setModule p module limit state => Sys2Proof.Machine.execSetModule p module limit state s
  | .haltCharging p => Sys2Proof.Machine.execHaltCharging p s
  | .resumeCharging p => Sys2Proof.Machine.execResumeCharging p s
  | .readGrants p => Sys2Proof.Machine.execReadGrants p s
  | .beginSwap p origin tag => Sys2Proof.Machine.execBeginSwap p origin tag s
  | .abortSwap p exchange origin tag => Sys2Proof.Machine.execAbortSwap p exchange origin tag s
  | .readExchange p exchange => Sys2Proof.Machine.execReadExchange p exchange s
  | .readLinkCounters p => Sys2Proof.Machine.execReadLinkCounters p s
  | .writeDerateRow p row bound pctS pctM pctL => Sys2Proof.Machine.execWriteDerateRow p row bound pctS pctM pctL s
  | .readDerateTable p => Sys2Proof.Machine.execReadDerateTable p s
  | .clearBayFault p bay => Sys2Proof.Machine.execClearBayFault p bay s
  | .setTime p time => Sys2Proof.Machine.execSetTime p time s
  | .setKioskParams p present reserve socBand feedBand horizon level fill split downshift => Sys2Proof.Machine.execSetKioskParams p present reserve socBand feedBand horizon level fill split downshift s
  | .readKioskParams p => Sys2Proof.Machine.execReadKioskParams p s
  | .addDirective p kind time value duration => Sys2Proof.Machine.execAddDirective p kind time value duration s
  | .clearDirectives p kind => Sys2Proof.Machine.execClearDirectives p kind s
  | .endWindows p => Sys2Proof.Machine.execEndWindows p s
  | .readSchedule p list start => Sys2Proof.Machine.execReadSchedule p list start s
  | .clockAdvance => Sys2Proof.Machine.execClockAdvance s
  | .frameBoundary => Sys2Proof.Machine.execFrameBoundary s
  | .stalenessTimeout => Sys2Proof.Machine.execStalenessTimeout s
  | .intakeOpenDeadline x => Sys2Proof.Machine.execIntakeOpenDeadline x s
  | .intakeCheckDeadline x => Sys2Proof.Machine.execIntakeCheckDeadline x s
  | .returnRejectedDeadline x => Sys2Proof.Machine.execReturnRejectedDeadline x s
  | .takeOpenDeadline x => Sys2Proof.Machine.execTakeOpenDeadline x s
  | .takeClosingDeadline x => Sys2Proof.Machine.execTakeClosingDeadline x s
  | .busDispatch => Sys2Proof.Machine.execBusDispatch s
  | .lockAllSent => Sys2Proof.Machine.execLockAllSent s
  | .bayReply checkOk address report answer => Sys2Proof.Machine.execBayReply checkOk address report answer s
  | .answerPeriodTimeout => Sys2Proof.Machine.execAnswerPeriodTimeout s

end Sys2Proof.Machine
end

