-- ==== Sys2Proof/Machine/Step.lean ====
section
/-! DEFINITION. One step: the command at the front of the queue is taken, and its effect is that of `exec`
with the rest of the queue. -/

namespace Sys2Proof.Machine

/-- One step of the part. With no command waiting nothing arrives and the part idles: DESIGN CHOICE (log
entry 4). -/
def step (s : State) : Host.Outcome State Fault Refusal :=
  match s.pending with
  | [] => .next s
  | c :: rest => exec c { s with pending := rest }

/-- A state with the command a word spells put at the front of its queue; unchanged where the word spells
none, and the table's words spell none. -/
def State.withFetchWord (s : State) (nbits w : Nat) : State :=
  match decodeTableWord nbits w with
  | none => s
  | some c => { s with pending := c :: s.pending }

end Sys2Proof.Machine
end

