-- ==== Sys2Proof/Safety.lean ====
section
/-! DEFINITION. What the statements about the part are written in: the reply of a request, a run over
several commands, the parts of the state a command may leave alone, and the conditions a state of the part
always meets. -/

namespace Sys2Proof.Machine

/-! ### Replies and runs -/

/-- The port holds no request (R167). -/
def State.free (s : State) (p : Port) : Prop := (s.ports.get p).reply = none

/-- The state after a request answered with success: CODE echoed, the payload behind it (R168). -/
def State.success (s : State) (p : Port) (r : Request) (payload : List Byte) : State :=
  s.modPort p (fun q => { q with reply := some (frame r.code payload) })

/-- The state after a request of this CODE refused: bit 7 of CODE set, the refusal code, and what may follow
it (R168). Nothing but the reply is new. -/
def State.refusal (s : State) (p : Port) (code : Byte) (c : RefusalCode) (more : List Byte) : State :=
  s.modPort p (fun q => { q with reply := some (frame (code ||| 0x80) (c.byte :: more)) })

/-- Runs commands one after another; a fault or a refusal ends the run. -/
def runs (s : State) : List Instr → Host.Outcome State Fault Refusal
  | [] => .next s
  | c :: cs =>
    match exec c s with
    | .next t => runs t cs
    | .fault f => .fault f
    | .refused r => .refused r

/-- The commands of a row of bytes on a port's RXD line. -/
def bytesOn (p : Port) (bytes : List Byte) : List Instr := bytes.map (Instr.rxByte p)

/-- The three bytes of a figure of the READ-GRANTS reply, high byte first (R176). -/
def tripleBytes (w : BitVec 24) : List Byte := [w.extractLsb' 16 8, w.extractLsb' 8 8, w.extractLsb' 0 8]

/-- The eight bytes of a pack id, high byte first (R176). -/
def packIdBytes (id : PackId) : List Byte :=
  wordBytes (id.extractLsb' 32 32) ++ wordBytes (id.extractLsb' 0 32)

/-- A notice has been placed in a port's queue, or the queue was full and the overflow flag says that a notice
was dropped (R171). -/
def State.sent (t : State) (p : Port) (n : Notice) : Prop :=
  n ∈ (t.ports.get p).notices ∨ (t.ports.get p).overflow = true

/-- A notice of the present kiosk time without a credit (R171). -/
def State.notice (s : State) (kind : NoticeKind) (subject : Subject) (detail value : Nat) : Notice :=
  { kind := kind, time := s.clock.time, subject := subject, detail := detail, value := value, credit := none }

/-- The GRANT-CUT notices of an end of every bay's eligibility, in order of bay number: one for each bay with a
grant above 0, detail ELIGIBILITY 1, value 0 (R101, R110). -/
def State.cuts (s : State) : List Notice :=
  (allBays.filter (fun b => decide ((s.bay b).grant ≠ 0))).map (fun b => s.notice .grantCut (.bay b) 1 0)

/-! ### What a command may leave alone -/

/-- The items no bay, claim, charge or bus command writes: the waiting commands, the derate table, the clock,
the parameters and the schedule. -/
def State.settings (s : State) : List Instr × Vector DerateRow 8 × Clock × Params × Schedule :=
  (s.pending, s.derate, s.clock, s.params, s.schedule)

/-- The Grant Controller's items but the replan-wanted flag. -/
def Grants.settings (g : Grants) : Grants := { g with replan := false }

/-- The Bay Bus Controller's items but the queue, the overflow list and the transaction in flight. -/
def Bus.settings (u : Bus) : Nat × BayNo × Bool × Nat := (u.sent, u.nextPoll, u.lockAllPending, u.addrErrors)

/-- A bay record but for what a match, a fill test and a grant cut write: state, grant, matched claim. -/
def Bay.base (r : Bay) : Bay := { r with state := .vacant, grant := 0, matched := none }

/-- What a bay's own reports and transactions write, with its service and staged set. -/
def Bay.reported (r : Bay) : Door × Latch × Bool × BitVec 4 × Int × Bool × Link × Nat × Nat :=
  (r.door, r.latch, r.sensed, r.count, r.lastTemp, r.lastFault, r.link, r.misses, r.missCount)

/-- What a port's own commands write and no notice does. -/
def PortState.line (q : PortState) : Rx × Option (List Byte) × Nat × Nat × Nat :=
  (q.rx, q.reply, q.threshold, q.crcErrors, q.overruns)

/-- A claim but for what a match and the plan write. -/
def Claim.terms (c : Claim) : ClaimId × Nat × Nat × PackClass × Nat × Nat × Option Nat × Bool × Option PackId :=
  (c.id, c.seq, c.openTime, c.cls, c.level, c.due, c.hold, c.firstIssue, c.returned)

/-- What a pass, a READY test and a fill test never write: of two states, everything but the claims' matches,
the bays' states, grants and matched claims, the replan flag, the queue and the notices is the same. -/
def State.sameButMatches (s t : State) : Prop :=
  t.settings = s.settings ∧ t.grants.settings = s.grants.settings ∧ t.bus.settings = s.bus.settings
    ∧ t.exchanges = s.exchanges ∧ t.faults = s.faults ∧ t.admissions = s.admissions
    ∧ t.book.seq = s.book.seq ∧ (∀ b, (t.bay b).base = (s.bay b).base)
    ∧ ∀ p, (t.ports.get p).line = (s.ports.get p).line

/-! ### Conditions a state of the part always meets -/

/-- A port's ranges, and its attention line (R166, R167, R171, R172). -/
def PortState.ok (q : PortState) : Prop :=
  q.notices.length ≤ 32 ∧ q.dropped ≤ 255 ∧ 1 ≤ q.threshold ∧ q.threshold ≤ 16 ∧ q.crcErrors ≤ 65535
    ∧ q.overruns ≤ 65535 ∧ (q.attn = true ↔ q.threshold ≤ q.notices.length ∨ q.overflow = true)

/-- The three ports are within their ranges. -/
def State.portsOk (s : State) : Prop := ∀ p, (s.ports.get p).ok

/-- The book (R40, R41): at most 48 claims, no two of one name, in book order; and no match pass owed between
arrivals (R60, log entry 8). -/
def State.bookOk (s : State) : Prop :=
  s.passDue = false ∧ s.book.claims.length ≤ 48 ∧ (s.book.claims.map (fun c => c.id)).Nodup
    ∧ s.book.claims.Pairwise (fun c d => c.due < d.due ∨ (c.due = d.due ∧ c.seq ≤ d.seq))

/-- An in-force grant is 0, or a multiple of 50 W not below the minimum grant, of a bay with a parity and a
rank (R79, R84, R95). -/
def Bay.grantOk (r : Bay) : Prop :=
  r.grant = 0 ∨ (200 ≤ r.grant ∧ r.grant % 50 = 0 ∧ r.parity ≠ .none ∧ ∃ k, r.rank = some k ∧ 1 ≤ k ∧ k ≤ 24)

/-- The grants never draw more than the usable budget allows: U in force is the budget of R78, in either
parity the grants active sum to no more than it (R103), and the two bays of a module never both hold a grant
active in one parity (R98). -/
def State.drawOk (s : State) : Prop :=
  (∀ b, (s.bay b).grantOk) ∧ s.grants.usable = s.budget ∧ s.evenSum ≤ s.grants.usable
    ∧ s.oddSum ≤ s.grants.usable
    ∧ ∀ b, (s.bay b).grant ≠ 0 → (s.bay (sibling b)).grant ≠ 0 →
        ¬((s.bay b).parity.inEven = true ∧ (s.bay (sibling b)).parity.inEven = true)
          ∧ ¬((s.bay b).parity.inOdd = true ∧ (s.bay (sibling b)).parity.inOdd = true)

/-- The link command queue (R133): at most 48 entries, none in overflow while the queue has room, one for
each bay and group, the one in flight included. -/
def Bus.ok (u : Bus) : Prop :=
  u.count ≤ 48 ∧ (u.overflow ≠ [] → u.count = 48)
    ∧ ((match u.flight with | some (.command e true) => [e] | _ => []) ++ u.queue ++ u.overflow).Pairwise
        (fun e f => ¬(e.bay = f.bay ∧ e.cmd.group = f.cmd.group))

end Sys2Proof.Machine
end

