-- ==== Sys2Proof/WellFormed.lean ====
section
/-! DEFINITION. When a command is one that can arrive. Almost every operand's type already holds
exactly the values that can arrive; what is left is the length of a READ-BAY payload, which a frame
carries, and the wires of a node's reply. No meaning is undefined on an ill-formed command: the check
only says which commands the part's surroundings can produce. -/

namespace Sys2Proof

/-- A request whose payload fits a frame: LEN is at most 96 (R166). -/
def Request.wellFormed : Request → Bool
  | .readBay bays => decide (bays.length ≤ 96)
  | _ => true

/-- An IDENTIFY with no pack in the bay is answered with the indication that the pack could not be
read (R130): no node gives an identity beside pack present NO. -/
def answerWellFormed (report : ShortReport) : Answer → Bool
  | .unreadable => true
  | .identity _ => report.sensed

/-- The commands that can arrive (R130, R166). -/
def Instr.wellFormed : Instr → Bool
  | .readBay _ bays => Request.wellFormed (.readBay bays)
  | .bayReply _ _ report answer => answerWellFormed report answer
  | _ => true

end Sys2Proof
end

