-- ==== Sys2Proof/Certificates/Slice0/Obligations.lean ====
section
/-! DEFINITION. The statements for the provers, in the order of the manual's chapters: the step and reset,
the ports, the bay table and admission, the claim book and matching, the plan and the grants, the exchange,
the bay bus, faults, and the clock. -/

section

open Sys2Proof Sys2Proof.Machine

/-! ### The step and reset -/

/-- O1. A step is the command at the front of the queue, run with the rest of the queue; with an empty queue
the part idles (log entry 4). -/
def Obligations.StepTakesFront : Prop :=
  (∀ (c : Instr) (s : State), step { s with pending := c :: s.pending } = exec c s)
    ∧ ∀ s : State, s.pending = [] → step s = .next s

/-- O2. R5: the bay records after power-on. -/
def Obligations.ResetBayRecords : Prop :=
  ∀ b : BayNo,
    let r := State.reset.bay b
    r.bsection = (if bayNumber b ≤ 12 then .booked else .walkup) ∧ r.service = .inService
      ∧ r.link = .unpolled ∧ r.door = .closed ∧ r.latch = .locked ∧ r.sensed = false ∧ r.count = 0
      ∧ r.state = .vacant ∧ r.pack = none ∧ r.cause = none ∧ r.role = .none ∧ r.matched = none
      ∧ r.serviceable = false ∧ State.reset.eligible b = false

/-- O3. POWER_ON from every state: each block at its values after power-on. The waiting commands and the count
of free values used, which are the model's own, stay (log entries 2 and 3). -/
def Obligations.PowerOnValues : Prop :=
  ∀ s : State, ∃ t : State, exec .powerOn s = .next t ∧ t.pending = s.pending ∧ t.freeCount = s.freeCount
    ∧ (∀ b, t.bay b = State.reset.bay b ∧ (t.bay b).staged = 0b1111 ∧ (t.bay b).inForce = 0b1111
        ∧ (t.bay b).ceiling = none ∧ (t.bay b).admission = none ∧ (t.bay b).band = none
        ∧ (t.bay b).grant = 0 ∧ (t.bay b).parity = .none ∧ (t.bay b).cap = 0 ∧ (t.bay b).rank = none
        ∧ (t.bay b).misses = 0 ∧ (t.bay b).missCount = 0 ∧ (t.bay b).relock = false
        ∧ (t.bay b).watch = none)
    ∧ t.book.claims = [] ∧ t.book.seq = 0
    ∧ (t.grants.frame = 0 ∧ t.grants.odd = false ∧ t.grants.since = 0 ∧ t.grants.replan = true
        ∧ t.grants.header = none ∧ t.grants.feed = .unknown ∧ t.grants.watts = 0 ∧ t.grants.timer = none
        ∧ t.grants.usable = 0
        ∧ t.grants.halt = false ∧ ∀ m, t.grants.modules.get m = { limit := 3000, fault := false })
    ∧ (∀ x, t.exch x = none)
    ∧ (t.bus.queue = [] ∧ t.bus.overflow = [] ∧ t.bus.flight = none ∧ t.bus.lockAllPending = true
        ∧ t.bus.sent = 0 ∧ t.bus.nextPoll = 0 ∧ t.bus.addrErrors = 0)
    ∧ (t.derate.toList.map (fun r => (r.bound, r.pctS, r.pctM, r.pctL))
        = [(-10, 0, 0, 0), (0, 25, 20, 15), (10, 60, 50, 40), (30, 100, 100, 100), (40, 90, 80, 70),
           (45, 60, 50, 40), (50, 30, 25, 20), (55, 10, 10, 5)])
    ∧ (t.faults.linkDown = none ∧ t.faults.feedStale = none ∧ t.faults.halt = none)
    ∧ (t.clock.time = 0 ∧ t.clock.isSet = false)
    ∧ (t.params.reserve = 2000 ∧ t.params.socBand = 25 ∧ t.params.feedBand = 500 ∧ t.params.horizon = 1800
        ∧ t.params.level = 800 ∧ t.params.fill = 950 ∧ t.params.split = 12 ∧ t.params.downshift = 3)
    ∧ (t.schedule.directives = [] ∧ t.schedule.counter = 0 ∧ t.schedule.windows = []
        ∧ t.schedule.effective = 2000 ∧ t.schedule.walkupsOpen = true)
    ∧ ∀ p, (t.ports.get p).rx = .hunting ∧ (t.ports.get p).reply = none ∧ (t.ports.get p).notices = []
        ∧ (t.ports.get p).overflow = false ∧ (t.ports.get p).dropped = 0 ∧ (t.ports.get p).threshold = 1
        ∧ (t.ports.get p).attn = false ∧ (t.ports.get p).crcErrors = 0 ∧ (t.ports.get p).overruns = 0

/-! ### Ports, frames and notices (chapter 11) -/

/-- O4. R166: what each byte on a port's RXD line, and each gap, does to the receiver, the frame check apart
from what the frame then asks for. -/
def Obligations.ReceiverTakesBytes : Prop :=
  ∀ (p : Port) (b : Byte) (s : State),
    ((s.ports.get p).rx = .hunting →
      exec (.rxByte p b) s
        = .next (if b = 0xD5 then s.modPort p (fun q => { q with rx := .inFrame [] }) else s))
    ∧ ((s.ports.get p).rx = .inFrame [] → 96 < b.toNat →
        exec (.rxByte p b) s = .next (s.modPort p (fun q =>
          { q with rx := .hunting, crcErrors := min 65535 (q.crcErrors + 1) })))
    ∧ (∀ bytes, (s.ports.get p).rx = .inFrame bytes →
        (∀ len ∈ (bytes ++ [b]).head?, len.toNat ≤ 96 ∧ bytes.length < len.toNat + 3) →
        exec (.rxByte p b) s = .next (s.modPort p (fun q => { q with rx := .inFrame (bytes ++ [b]) })))
    ∧ (∀ len code payload c, (s.ports.get p).rx = .inFrame (len :: code :: (payload ++ [c])) →
        len.toNat ≤ 96 → payload.length = len.toNat →
        exec (.rxByte p b) s =
          if be16 c b = crc16 (len :: code :: payload) then
            .next ((s.modPort p (fun q => { q with rx := .hunting })).takeFrame p code payload)
          else .next (s.modPort p (fun q =>
            { q with rx := .hunting, crcErrors := min 65535 (q.crcErrors + 1) })))
    ∧ exec (.interByteGap p) s = .next (s.modPort p (fun q => { q with rx := .hunting }))

/-- O5. The bytes of a request's frame, arriving one after another at a receiver that is HUNTING, do exactly
what that request's row of the table does, whatever the port holds. -/
def Obligations.RequestFrameIsRequestRow : Prop :=
  ∀ (p : Port) (r : Request) (s : State), r.wellFormed = true → (s.ports.get p).rx = .hunting →
    runs s (bytesOn p (frame r.code r.payload)) = exec (r.onPort p) s

/-- O6. R176: the request code list and the payload layouts spell each request in exactly one way. -/
def Obligations.RequestDecodeEncode : Prop :=
  (∀ r : Request, decodeRequest r.code r.payload = .ok r)
    ∧ ∀ (code : Byte) (payload : List Byte) (r : Request), decodeRequest code payload = .ok r →
        r.code = code ∧ r.payload = payload

/-- O7. R168, checks 1 and 2: a frame of no request's code is refused with UNKNOWN-REQUEST, and one of a
request's code whose length is no payload length of it, with BAD-LENGTH; nothing else changes. (READ-BAY's
lengths are its own entry's: O16.) -/
def Obligations.UndecodedFrameRefused : Prop :=
  ∀ (p : Port) (code : Byte) (payload : List Byte) (s : State), (s.ports.get p).rx = .hunting → s.free p →
    payload.length ≤ 96 →
    ((∀ r : Request, r.code ≠ code) →
      runs s (bytesOn p (frame code payload)) = .next (s.refusal p code .unknownRequest []))
    ∧ ((∃ r : Request, r.code = code) → (∀ r : Request, r.code = code → r.payload.length ≠ payload.length) →
      runs s (bytesOn p (frame code payload)) = .next (s.refusal p code .badLength []))

/-- O8. R167: a complete frame at a port that holds a request is discarded and counted, and the last byte of
the reply frees the port. -/
def Obligations.BusyPortOverruns : Prop :=
  ∀ (p : Port) (r : Request) (s : State),
    (¬ s.free p → exec (r.onPort p) s
      = .next (s.modPort p (fun q => { q with overruns := min 65535 (q.overruns + 1) })))
    ∧ ∃ t, exec (.replyTransmitted p) s = .next t ∧ t.free p
        ∧ t = s.modPort p (fun q => { q with reply := none })

/-- O9. R169: which port may send which request, by the request codes of R176; any other port is refused with
NOT-PERMITTED. -/
def Obligations.PermissionTable : Prop :=
  ∀ (p : Port) (r : Request),
    (permitted p r = true ↔
      r.code ∈ ([0x01, 0x02, 0x03, 0x04, 0x10, 0x51, 0x62] : List Byte)
      ∨ (p = .terminal ∧ r.code ∈ ([0x21, 0x23, 0x24, 0x40, 0x41, 0x42] : List Byte))
      ∨ (p = .gateway ∧ r.code ∈ ([0x11, 0x18, 0x19, 0x20, 0x22, 0x25, 0x23, 0x24, 0x34, 0x42, 0x48, 0x50,
          0x52, 0x60, 0x61, 0x63, 0x64, 0x65, 0x66] : List Byte))
      ∨ (p = .cabinet ∧ r.code ∈ ([0x30, 0x31, 0x32, 0x33, 0x34] : List Byte)))
    ∧ ∀ s : State, permitted p r = false → s.free p →
        exec (r.onPort p) s = .next (s.refusal p r.code .notPermitted [])

/-- O10. The reads without a field: READ-STATUS (R170), READ-GRANTS (R110), READ-DERATE-TABLE (R145) and
READ-KIOSK-PARAMS (R159) change nothing but their port's reply, whose items stand here in the order of each
request's entry. The model's choice in them: a flag is 1 when it is SET, ON, or walk-ups are open (log entry
9); the code of a kiosk fault, the order in which the kiosk faults held stand, and the code of a band (log entry
10); 0 for the plan frame while no plan is present and for bits no layout names (log entry 36). The grant table is
for grants, caps and ranks that fit their fields. -/
def Obligations.PlainReadsChangeNothing : Prop :=
  ∀ (p : Port) (s : State), s.free p →
    let g := s.grants
    let q := s.ports.get p
    let flag (b : Bool) : Byte := if b then 1 else 0
    let word (n : Nat) := wordBytes (BitVec.ofNat 32 n)
    let half (n : Nat) := halfBytes (BitVec.ofNat 16 n)
    let triple (n : Nat) := tripleBytes (BitVec.ofNat 24 n)
    let held : List (Byte × Nat) := s.faults.linkDown.toList.map (fun t => (0, t))
      ++ s.faults.feedStale.toList.map (fun t => (1, t)) ++ s.faults.halt.toList.map (fun t => (2, t))
    exec (.readStatus p) s = .next (s.success p .readStatus
        (word s.clock.time ++ [flag s.clock.isSet, BitVec.ofNat 8 g.feed.code] ++ word g.usable
          ++ [flag g.halt, BitVec.ofNat 8 s.book.claims.length,
              BitVec.ofNat 8 (allExchanges.filter (fun x => (s.exch x).isSome)).length,
              BitVec.ofNat 8 held.length]
          ++ held.flatMap (fun f => f.1 :: (word f.2 ++ [3]))
          ++ [BitVec.ofNat 8 s.params.split, flag s.schedule.walkupsOpen, BitVec.ofNat 8 q.notices.length,
              BitVec.ofNat 8 q.threshold, flag q.overflow, BitVec.ofNat 8 q.dropped]
          ++ half q.crcErrors ++ half q.overruns))
    ∧ exec (.readDerateTable p) s = .next (s.success p .readDerateTable
        (allRows.flatMap (fun i =>
            let r := s.derate.get i
            [BitVec.ofInt 8 r.bound, BitVec.ofNat 8 r.pctS, BitVec.ofNat 8 r.pctM, BitVec.ofNat 8 r.pctL])
          ++ allBays.map (fun b => match (s.bay b).band with
            | none => 0
            | some (.row i) => BitVec.ofNat 8 (i.val + 1)
            | some .above => 9)))
    ∧ exec (.readKioskParams p) s = .next (s.success p .readKioskParams
        (word s.params.reserve ++ [BitVec.ofNat 8 s.params.socBand] ++ word s.params.feedBand
          ++ half s.params.horizon ++ half s.params.level ++ half s.params.fill
          ++ [BitVec.ofNat 8 s.params.split, BitVec.ofNat 8 s.params.downshift]
          ++ word s.schedule.effective ++ [flag s.schedule.walkupsOpen]))
    ∧ (p ≠ .terminal →
        (∀ b, (s.bay b).grant < 6400 ∧ (s.bay b).cap < 6400 ∧ ∀ k, (s.bay b).rank = some k → k < 32) →
        exec (.readGrants p) s = .next (s.success p .readGrants
          (word g.frame ++ word (match g.header with | none => 0 | some h => h.frame)
            ++ triple g.usable ++ triple g.watts
            ++ [BitVec.ofNat 8 ((if g.odd then 1 else 0) + 2 * g.feed.code + (if g.halt then 8 else 0)
                  + (if g.header.isSome then 16 else 0)), BitVec.ofNat 8 g.since]
            ++ triple (match g.header with | none => 0 | some h => h.hEven)
            ++ triple (match g.header with | none => 0 | some h => h.hOdd)
            ++ allBays.flatMap (fun b =>
                let r := s.bay b
                triple (r.grant / 50 * 131072 + r.cap / 50 * 1024 + r.parity.code * 256
                  + r.rank.getD 0 * 8)))))
    ∧ s.grantsPayload.length = 94

/-- O11. R173: FETCH-NOTICES. That the overflow flag's byte is 1 when it is SET is the model's choice (log entry
9). -/
def Obligations.FetchNotices : Prop :=
  ∀ (p : Port) (s : State), s.free p →
    let q := s.ports.get p
    ∃ t, exec (.fetchNotices p) s = .next t
      ∧ t = (s.modPort p (fun q =>
          { q with notices := q.notices.drop 4, overflow := false, dropped := 0,
                   attn := decide (q.threshold ≤ q.notices.length - 4) })).success p .fetchNotices
          ([BitVec.ofNat 8 (min 4 q.notices.length), BitVec.ofNat 8 (q.notices.length - 4),
            (if q.overflow then 1 else 0), BitVec.ofNat 8 q.dropped]
            ++ (q.notices.take 4).flatMap Notice.record)
      ∧ ∀ n ∈ q.notices, n.record.length = 23

/-- O12. R174: SET-ATTENTION. That the attention line's byte is 1 when it is asserted is the model's choice (log
entry 9). -/
def Obligations.SetAttention : Prop :=
  ∀ (p : Port) (threshold : Byte) (s : State), s.free p →
    let q := s.ports.get p
    let n := min 16 (max 1 threshold.toNat)
    let line := decide (n ≤ q.notices.length) || q.overflow
    exec (.setAttention p threshold) s = .next ((s.modPort p (fun q =>
        { q with threshold := n, attn := line })).success p (.setAttention threshold)
          [BitVec.ofNat 8 n, BitVec.ofNat 8 q.notices.length, (if line then 1 else 0)])

/-- O13. R175: PORT-CLEAR. -/
def Obligations.PortClear : Prop :=
  ∀ (p : Port) (s : State), s.free p → 1 ≤ (s.ports.get p).threshold →
    exec (.portClear p) s = .next ((s.modPort p (fun q =>
        { q with notices := [], overflow := false, dropped := 0, crcErrors := 0, overruns := 0,
                 attn := false })).success p .portClear
          [BitVec.ofNat 8 (s.ports.get p).notices.length])

/-- O14. R171, R172: where a notice goes, and what it does to each queue it reaches. -/
def Obligations.NoticePlacement : Prop :=
  ∀ (s : State) (n : Notice) (p : Port),
    let q := s.ports.get p
    let q' := (s.post n).ports.get p
    (s.post n = { s with ports := (s.post n).ports })
    ∧ (routed n p = false → q' = q)
    ∧ (routed n p = true → q'.line = q.line
        ∧ (q.notices.length < 32 →
            q'.notices = q.notices ++ [n] ∧ q'.overflow = q.overflow ∧ q'.dropped = q.dropped)
        ∧ (32 ≤ q.notices.length →
            q'.notices = q.notices ∧ q'.overflow = true ∧ q'.dropped = min 255 (q.dropped + 1))
        ∧ (q'.attn = true ↔ q'.threshold ≤ q'.notices.length ∨ q'.overflow = true))
    ∧ (routed n .cabinet = true ↔ n.kind ∈ ([.planInstalled, .grantCut, .feedStale, .feedRestored, .halt,
        .resume, .clockStepped] : List NoticeKind))
    ∧ (routed n .gateway = false ↔ n.kind ∈ ([.planInstalled, .grantCut] : List NoticeKind))
    ∧ (routed n .terminal = true ↔ n.kind ∈ ([.swapPhase, .swapEnd, .clockStepped] : List NoticeKind)
        ∨ (n.kind ∈ ([.claimMatched, .claimReady, .claimUnready, .claimUnmatched, .claimAtRisk,
              .claimAtRiskCleared, .claimClosed] : List NoticeKind)
            ∧ ∃ tag, n.subject = .claim ⟨.terminal, tag⟩))

/-- O15. R166, R167, R171, R172: every step keeps the ports' counts, queues and thresholds in their ranges and
each attention line as its queue has it. -/
def Obligations.StepKeepsPortsOk : Prop :=
  ∀ s t : State, s.portsOk → step s = .next t → t.portsOk

/-! ### The bay table and admission (chapters 1 and 2) -/

/-- O16. R19: READ-BAY. -/
def Obligations.ReadBay : Prop :=
  ∀ (p : Port) (s : State), s.free p →
    (∀ bays : List Byte, bays = [] ∨ 4 < bays.length →
      exec (.readBay p bays) s = .next (s.refusal p 0x10 .badLength []))
    ∧ (∀ bays : List Byte, 1 ≤ bays.length → bays.length ≤ 4 → (∃ n ∈ bays, n.toNat = 0 ∨ 24 < n.toNat) →
      exec (.readBay p bays) s = .next (s.refusal p 0x10 .badField []))
    ∧ (∀ bs : List BayNo, 1 ≤ bs.length → bs.length ≤ 4 →
      let bays := bs.map (fun b => BitVec.ofNat 8 (bayNumber b))
      exec (.readBay p bays) s = .next (s.success p (.readBay bays) (bs.flatMap s.bayEntry)))
    ∧ ∀ b, (s.bayEntry b).length = 24

/-- O17. R19, R176: a READ-BAY entry is four words and the pack id, and they hold the bay's fields in the bits
R176 names, for figures that fit their fields. That pack sensed is 1 for YES is the model's choice: R1 lists
YES or NO, and R176's order of codes read by itself would give YES 0 (log entry 9). So are the zeros of the
bits no layout names (log entry 36). -/
def Obligations.BayEntryBits : Prop :=
  ∀ (s : State) (b : BayNo),
    let r := s.bay b
    let w0 := BitVec.ofNat 32 (r.word0 b)
    let w1 := BitVec.ofNat 32 r.word1
    let w2 := BitVec.ofNat 32 (r.word2 (s.fillTarget b))
    let w3 := BitVec.ofNat 32 r.word3
    s.bayEntry b = wordBytes w0 ++ wordBytes w1 ++ wordBytes w2 ++ wordBytes w3
        ++ packIdBytes (match r.pack with | none => 0 | some q => q.id)
      ∧ (w0.extractLsb' 27 5).toNat = bayNumber b ∧ (w0.extractLsb' 26 1).toNat = r.bsection.code
      ∧ (w0.extractLsb' 25 1).toNat = r.service.code ∧ (w0.extractLsb' 23 2).toNat = r.link.code
      ∧ (w0.extractLsb' 22 1).toNat = r.door.code ∧ (w0.extractLsb' 21 1).toNat = r.latch.code
      ∧ (w0.extractLsb' 20 1).toNat = (if r.sensed then 1 else 0)
      ∧ (w0.extractLsb' 19 1).toNat = (if r.pack.isSome then 1 else 0)
      ∧ (w0.extractLsb' 16 3).toNat = r.state.code ∧ w0.extractLsb' 12 4 = r.count
      ∧ (w0.extractLsb' 9 3).toNat = causeCode r.cause ∧ (w0.extractLsb' 7 2).toNat = r.role.code
      ∧ (w0.extractLsb' 4 3).toNat = r.role.number ∧ (w0.extractLsb' 2 2).toNat = r.parity.code
      ∧ w1.extractLsb' 12 4 = r.staged ∧ w1.extractLsb' 8 4 = r.inForce
      ∧ (r.grant < 6400 → (w1.extractLsb' 1 7).toNat = r.grant / 50)
      ∧ (∀ c, r.matched = some c → (w0.extractLsb' 0 2).toNat = c.origin.code ∧ w1.extractLsb' 16 16 = c.tag)
      ∧ (r.matched = none → w0.extractLsb' 0 2 = 0 ∧ w1.extractLsb' 16 16 = 0)
      ∧ (s.fillTarget b < 1024 → (w2.extractLsb' 22 10).toNat = s.fillTarget b)
      ∧ (r.pack = none → w2.extractLsb' 0 22 = 0 ∧ w3 = 0)
      ∧ ∀ q, r.pack = some q →
        (q.soc < 1024 → (w2.extractLsb' 12 10).toNat = q.soc)
        ∧ (q.socUsed = none → (w2.extractLsb' 2 10).toNat = 1023)
        ∧ (∀ u, q.socUsed = some u → u < 1024 → (w2.extractLsb' 2 10).toNat = u)
        ∧ (w2.extractLsb' 0 2).toNat = q.cls.code
        ∧ (q.capacity < 4096 → (w3.extractLsb' 20 12).toNat = q.capacity)
        ∧ (-40 ≤ q.temp → q.temp ≤ 85 → ((w3.extractLsb' 13 7).toNat : Int) = q.temp + 40)
        ∧ w3.extractLsb' 9 4 = q.abilities ∧ (w3.extractLsb' 7 2).toNat = q.health.code
        ∧ (w3.extractLsb' 5 2).toNat = q.profile.index
        ∧ (q.refusals < 16 → (w3.extractLsb' 1 4).toNat = q.refusals)

/-- O18. R20: SET-BAY-SERVICE. -/
def Obligations.SetBayService : Prop :=
  ∀ (n v : Byte) (s : State), s.free .gateway →
    (n.toNat = 0 ∨ 24 < n.toNat ∨ 1 < v.toNat →
      exec (.setBayService .gateway n v) s = .next (s.refusal .gateway 0x11 .badField []))
    ∧ ∀ b : BayNo, n.toNat = bayNumber b →
      (v = 1 → (s.bay b).role ≠ .none →
        exec (.setBayService .gateway n v) s = .next (s.refusal .gateway 0x11 .bayBusy []))
      ∧ (v.toNat = (s.bay b).service.code → (v = 1 → (s.bay b).role = .none) →
        exec (.setBayService .gateway n v) s = .next (s.success .gateway (.setBayService n v)
          [n, v, BitVec.ofNat 8 (s.bay b).state.code]))
      ∧ (v = 1 → (s.bay b).service = .inService → (s.bay b).role = .none → ∃ u : State,
        exec (.setBayService .gateway n v) s = .next (u.success .gateway (.setBayService n v)
          [n, v, BitVec.ofNat 8 (u.bay b).state.code])
        ∧ (s.modBay b (fun r => { r with service := .outOfService })).sameButMatches u
        ∧ (s.eligible b = true → (u.bay b).grant = 0)
        ∧ (∀ c, (s.bay b).matched = some c.id → s.claim? c.id = some c → c.takeBay = some b →
            c.state ≠ .swapping → (u.bay b).matched = none ∧ ∀ d, u.claim? c.id = some d → d.takeBay ≠ some b))
      ∧ (v = 0 → (s.bay b).service = .outOfService → ∃ u : State,
        exec (.setBayService .gateway n v) s = .next (u.success .gateway (.setBayService n v)
          [n, v, BitVec.ofNat 8 (u.bay b).state.code])
        ∧ (s.modBay b (fun r => { r with service := .inService })).sameButMatches u
        ∧ u.grants.replan = true)

/-- O19. R33: SET-BAY-ABILITY. That bits 7 to 4 of the ability set byte are not read, so that 0xF0 is refused as an
empty set and 0xF1 taken as P0, is the model's choice (log entry 9). -/
def Obligations.SetBayAbility : Prop :=
  ∀ (n a : Byte) (s : State), s.free .gateway →
    (n.toNat = 0 ∨ 24 < n.toNat ∨ a.extractLsb' 0 4 = 0 →
      exec (.setBayAbility .gateway n a) s = .next (s.refusal .gateway 0x18 .badField []))
    ∧ ∀ b : BayNo, n.toNat = bayNumber b → a.extractLsb' 0 4 ≠ 0 →
      exec (.setBayAbility .gateway n a) s =
        .next ((s.modBay b (fun r => { r with staged := a.extractLsb' 0 4 })).success .gateway
          (.setBayAbility n a) [n, (a.extractLsb' 0 4).setWidth 8, (s.bay b).inForce.setWidth 8])

/-- O20. R34: RESTART-BAY, by the bay's state. -/
def Obligations.RestartBay : Prop :=
  ∀ (n : Byte) (s : State), s.free .gateway →
    (n.toNat = 0 ∨ 24 < n.toNat →
      exec (.restartBay .gateway n) s = .next (s.refusal .gateway 0x19 .badField []))
    ∧ ∀ b : BayNo, n.toNat = bayNumber b →
      let r := s.bay b
      let fresh (k : AdmissionCause) : Admission :=
        { cause := k, attempts := if r.link = .lost then 0 else 1, held := decide (r.link = .lost),
          number := s.admissions + 1 }
      (r.role ≠ .none → exec (.restartBay .gateway n) s = .next (s.refusal .gateway 0x19 .bayBusy []))
      ∧ (r.role = .none → ∃ u : State,
        exec (.restartBay .gateway n) s = .next (u.success .gateway (.restartBay n)
          [n, BitVec.ofNat 8 (u.bay b).state.code, (u.bay b).staged.setWidth 8, (u.bay b).inForce.setWidth 8])
        ∧ (u.bay b).staged = r.staged ∧ (u.bay b).inForce = r.staged ∧ u.settings = s.settings
        ∧ u.exchanges = s.exchanges ∧ u.faults = s.faults
        ∧ (∀ c, c ≠ b → (u.bay c).base = (s.bay c).base)
        ∧ (r.state = .vacant →
            (s.modBay b (fun r => { r with inForce := r.staged })).sameButMatches u ∧ (u.bay b).state = .vacant)
        ∧ (r.state = .charging ∨ r.state = .topped ∨ r.state = .withheld →
            u.bay b = { r with inForce := r.staged, ceiling := none, state := .admitting, cause := none,
                               admission := some (fresh .restart),
                               grant := if s.eligible b then 0 else r.grant })
        ∧ (∀ a, r.state = .admitting → r.admission = some a →
            (u.bay b).state = .admitting ∧ (u.bay b).ceiling = none
              ∧ (u.bay b).admission = some (fresh (if a.cause = .insertion then .insertion else .restart)))
        ∧ (r.state = .faulted → r.cause = some .profile ∨ r.cause = some .charge →
            (u.bay b).cause = none ∧ (u.bay b).ceiling = none
              ∧ (u.bay b).state = (if r.pack.isSome || r.sensed then .admitting else .vacant)
              ∧ (r.pack.isSome = true → (u.bay b).admission = some (fresh .restart))
              ∧ (r.pack = none → r.sensed = true → (u.bay b).admission = some (fresh .insertion)))
        ∧ (r.state = .faulted → r.cause ≠ some .profile → r.cause ≠ some .charge →
            (s.modBay b (fun r => { r with inForce := r.staged, ceiling := none })).sameButMatches u
              ∧ (u.bay b).state = .faulted)
        ∧ (r.link ≠ .lost → (u.bay b).state = .admitting →
            ∃ e ∈ u.bus.queue ++ u.bus.overflow, e.bay = b ∧ e.cmd = .identify (s.admissions + 1)))

/-- O21. An accepted reply's report is taken whatever else it brings (R6, R131, R138): the transaction ends,
the bay is REACHABLE with no misses, its door, latch, pack sensed and count are the reported ones, no other
bay's are touched, and no setting of the part moves. LINK-DOWN, if held, clears, and LOCK-ALL is owed (R140,
R141). For a CHARGING bay whose report brings no change of pack and no heat, the session state counts refusals
(R30): at the downshift count the profile falls to the next lower shared one, with the ceiling, the cap, a plan
and the notice (R31), or CHARGE is raised when there is none (R32). The model's choice in the last: a ceiling that
is absent stays absent, R32's "stays" read as not written (log entry 28), and BAY-FAULT's detail is 2 for CHARGE,
the second cause of R1 (log entry 14). -/
def Obligations.ReplyTakesReport : Prop :=
  ∀ (s : State) (fl : Flight) (b : BayNo) (rep : ShortReport) (ans : Answer),
    s.bus.flight = some fl → fl.bay? = some b →
    ∃ t : State, exec (.bayReply true (BitVec.ofNat 8 (bayNumber b)) rep ans) s = .next t
      ∧ t.bus.flight = none
      ∧ (t.bay b).reported = (rep.door, rep.latch, rep.sensed, rep.count, min 85 (max (-40) rep.temp),
          rep.packFault, .reachable, 0, (s.bay b).missCount)
      ∧ (∀ c, c ≠ b → (t.bay c).reported = (s.bay c).reported)
      ∧ (∀ c, (t.bay c).service = (s.bay c).service ∧ (t.bay c).staged = (s.bay c).staged
          ∧ (t.bay c).bsection = (s.bay c).bsection)
      ∧ t.settings = s.settings ∧ t.grants.settings = s.grants.settings
      ∧ t.faults = { s.faults with linkDown := none }
      ∧ t.bus.settings = (s.bus.sent, s.bus.nextPoll,
          (s.bus.lockAllPending || s.faults.linkDown.isSome), s.bus.addrErrors)
      ∧ ∀ q, (s.bay b).state = .charging → (s.bay b).cause = none → (s.bay b).pack = some q →
          rep.sensed = true → rep.count = (s.bay b).count → rep.restart = false → rep.packFault = false →
          rep.temp < 65 →
          let n := q.refusals + 1
          let seen : Pack := { q with soc := min 1000 rep.soc, temp := max (-40) rep.temp }
          let lower (k : Profile) : Prop :=
            k.index < q.profile.index ∧ q.abilities.getLsbD k.index = true
              ∧ (s.bay b).inForce.getLsbD k.index = true ∧ ¬(q.health = .worn ∧ k = .p3)
          (rep.session = .idle → (t.bay b).pack = some seen)
          ∧ (rep.session = .active → (t.bay b).pack = some { seen with refusals := 0 })
          ∧ (rep.session = .refused → n < s.params.downshift →
              (t.bay b).pack = some { seen with refusals := n })
          ∧ (rep.session = .refused → s.params.downshift ≤ n →
              (∀ k, lower k → (∀ j, lower j → j.index ≤ k.index) →
                (t.bay b).pack = some { seen with profile := k, refusals := 0 }
                ∧ (t.bay b).ceiling = some k ∧ (t.bay b).cap = t.capOf b ∧ (t.bay b).grant ≤ (t.bay b).cap
                ∧ t.grants.replan = true ∧ t.sent .gateway (s.notice .downshift (.bay b) (k.index + 1) k.rate)
                ∧ ((t.bay b).state = .charging →
                    ∃ e ∈ t.bus.queue ++ t.bus.overflow, e.bay = b ∧ e.cmd = .chargeStart k))
              ∧ ((∀ k, ¬ lower k) →
                (t.bay b).pack = some { seen with refusals := n } ∧ (t.bay b).ceiling = (s.bay b).ceiling
                ∧ (t.bay b).state = .faulted ∧ (s.eligible b = true → (t.bay b).grant = 0)
                ∧ (rep.door = .closed → (t.bay b).cause = some .charge)
                ∧ t.sent .gateway (s.notice .bayFault (.bay b) 2 q.profile.rate)
                ∧ ∃ e ∈ t.bus.queue ++ t.bus.overflow, e.bay = b ∧ e.cmd = .chargeStop false))

/-- O22. R12: a removal reported for a bay with role NONE that is not VACANT leaves it FAULTED without a pack
record, with PACK-MISSING unless a cause of higher precedence stands (R148). -/
def Obligations.UnexpectedRemovalFaults : Prop :=
  ∀ (s : State) (b : BayNo) (rep : ShortReport) (ans : Answer),
    s.bus.flight = some (.poll b) → (s.bay b).role = .none → (s.bay b).sensed = true →
    ((s.bay b).cause = none → (s.bay b).state ≠ .vacant) →
    ((s.bay b).cause ≠ none → (s.bay b).state = .faulted) → rep.sensed = false →
    ∃ t : State, exec (.bayReply true (BitVec.ofNat 8 (bayNumber b)) rep ans) s = .next t
      ∧ (t.bay b).state = .faulted ∧ (t.bay b).pack = none ∧ (t.bay b).role = .none
      ∧ (t.bay b).cause = (match (s.bay b).cause with
          | some .hot => some .hot
          | some .packError => some .packError
          | _ => some .packMissing)

/-- O23. R7, R22: a pack reported in a VACANT bay with role NONE and its door CLOSED, cool and without the
pack-fault flag, starts an admission of cause INSERTION under a new number, with the staged set in force and
IDENTIFY queued. R36: so does a changed insertion count or a node restart for a bay in ADMITTING, CHARGING,
TOPPED or WITHHELD, which clears the pack record and drops the match of a MATCHED or READY claim; a FAULTED
bay loses its record and keeps its cause. -/
def Obligations.InsertionAdmits : Prop :=
  ∀ (s : State) (b : BayNo) (rep : ShortReport) (ans : Answer),
    s.bus.flight = some (.poll b) → rep.sensed = true → rep.door = .closed → rep.packFault = false →
    rep.temp < 65 →
    let moved := rep.count ≠ (s.bay b).count ∨ rep.restart = true
    let admitted (t : State) :=
      (t.bay b).state = .admitting ∧ (t.bay b).pack = none ∧ (t.bay b).ceiling = none
        ∧ (t.bay b).inForce = (s.bay b).staged ∧ t.admissions = s.admissions + 1
        ∧ (t.bay b).admission =
            some { cause := .insertion, attempts := 1, held := false, number := s.admissions + 1 }
        ∧ ∃ e ∈ t.bus.queue ++ t.bus.overflow, e.bay = b ∧ e.cmd = .identify (s.admissions + 1)
    ∃ t : State, exec (.bayReply true (BitVec.ofNat 8 (bayNumber b)) rep ans) s = .next t
      ∧ ((s.bay b).state = .vacant → (s.bay b).role = .none → admitted t)
      ∧ ((s.bay b).state ∈ ([.admitting, .charging, .topped, .withheld] : List BayState) → moved →
          admitted t ∧ (s.eligible b = true ∨ (s.bay b).pack.isSome = true → (t.bay b).grant = 0)
          ∧ ∀ c, (s.bay b).matched = some c.id → s.claim? c.id = some c → c.takeBay = some b →
              (c.state = .matched ∨ c.state = .ready) → (s.bay b).role = .none →
              (t.bay b).matched = none ∧ (∀ d, t.claim? c.id = some d → d.takeBay ≠ some b)
              ∧ t.sent .gateway (s.notice .claimUnmatched (.claim c.id) 5 (bayNumber b)))
      ∧ (∀ k, (s.bay b).state = .faulted → (s.bay b).cause = some k → moved →
          (t.bay b).state = .faulted ∧ (t.bay b).cause = some k ∧ (t.bay b).pack = none
            ∧ t.admissions = s.admissions)

/-- O24. R25, R27: the reply to the present admission's IDENTIFY makes the pack record of the identity and its
report, and the result; a capacity outside the classes gives PACK-ERROR and no record. An INSERTION admission of the
intake bay of an exchange in INTAKE-CHECK writes at every other result the pack id as the claim's credit (R57, R116)
and goes to the take (R117): TAKE-OPEN on a take bay that passes the READY test, NO-PACK on one that fails it, the
replacement search of R73 where there is none; ABORTED where an abort waits (R127); and PACK-ERROR sends the
exchange to RETURN-REJECTED. A RESTART or FAULT-CLEAR admission replaces the record it kept. With the same pack id
the ceiling stands, and the match until the result is tested: it ends with RETIRE, FAULT or CLASS, and is READY or
MATCHED by the new record otherwise (R35). With another pack id a RESTART admission's claim is unmatched with
PACK-CHANGED before the result, and a FAULT-CLEAR admission's ceiling is cleared (R35, R37). The model's choice: a
capacity out of range is found before the ids are compared, so the claim is unmatched with FAULT also where the id
differs (log entry 38); and health is judged before the bay's state, so a pack now RETIRE gives the cause RETIRE (log
entry 22). -/
def Obligations.IdentityMakesRecord : Prop :=
  ∀ (s : State) (b : BayNo) (a : Admission) (i : Identity) (rep : ShortReport) (attempts : Nat) (held : Bool),
    s.bus.flight = some (.command { bay := b, cmd := .identify a.number, attempts := attempts } held) →
    (s.bay b).link = .reachable → (s.bay b).state = .admitting → (s.bay b).admission = some a →
    (s.bay b).cause = none →
    rep.sensed = true → rep.door = .closed → rep.count = (s.bay b).count → rep.restart = false →
    rep.packFault = false → rep.temp < 65 →
    let outOfRange := i.capacity < 800 ∨ 4000 < i.capacity
    let cls : PackClass := if i.capacity ≤ 1600 then .s else if i.capacity ≤ 2800 then .m else .l
    let soc := min 1000 rep.soc
    let record (resolved : Option Profile) : Pack :=
      { id := i.packId, capacity := i.capacity, cls := cls, soc := soc, temp := max (-40) rep.temp,
        abilities := i.abilities, health := i.health, profile := resolved.getD .p0, refusals := 0, socUsed := none }
    (a.cause = .insertion → (s.bay b).matched = none → (s.bay b).pack = none →
      ((s.bay b).role = .none →
        ∃ t : State, exec (.bayReply true (BitVec.ofNat 8 (bayNumber b)) rep (.identity i)) s = .next t
        ∧ (t.bay b).admission = none
        ∧ (outOfRange →
            (t.bay b).state = .faulted ∧ (t.bay b).cause = some .packError ∧ (t.bay b).pack = none)
        ∧ (800 ≤ i.capacity → i.capacity ≤ 4000 →
            let resolved := resolveProfile i.abilities (s.bay b).inForce i.health (s.bay b).ceiling
            (t.bay b).pack = some (record resolved)
            ∧ (i.health = .retire → (t.bay b).state = .withheld)
            ∧ (i.health ≠ .retire → resolved = none →
                (t.bay b).state = .faulted ∧ (t.bay b).cause = some .profile)
            ∧ (i.health ≠ .retire → resolved ≠ none → s.book.claims = [] →
                (t.bay b).state = (if s.params.fill ≤ soc then .topped else .charging))))
      ∧ ∀ (x : ExNo) (e : Exchange) (c : Claim), (s.bay b).role = .intake x → s.exch x = some e →
        e.phase = .intakeCheck → e.intake = some b → e.take ≠ some b → s.claim? e.claim = some c →
        c.state = .swapping →
        ∃ t : State, exec (.bayReply true (BitVec.ofNat 8 (bayNumber b)) rep (.identity i)) s = .next t
        ∧ (∀ y, y ≠ x → t.exch y = s.exch y)
        ∧ (outOfRange → (t.bay b).cause = some .packError
            ∧ t.exch x = some { e with phase := .returnRejected, deadline := 60, relink := false }
            ∧ ∃ d, t.claim? e.claim = some d ∧ d.returned = c.returned ∧ d.state = .swapping)
        ∧ (800 ≤ i.capacity → i.capacity ≤ 4000 →
            let ended := t.exch x = none ∧ (t.bay b).role = .none
              ∧ (∀ d, t.claim? e.claim = some d → d.returned = some i.packId ∧ d.state ≠ .swapping)
              ∧ (c.takeBay = e.take → c.firstReady ≠ none → s.clock.time < c.expiry →
                  (t.claim? e.claim).isSome = true)
            let taking (tb : BayNo) := (t.bay b).role = .intake x
              ∧ t.exch x = some { e with phase := .takeOpen, take := some tb, deadline := 60, relink := false }
              ∧ (∃ d, t.claim? e.claim = some d ∧ d.returned = some i.packId ∧ d.state = .swapping)
              ∧ ((s.bay tb).link ≠ .lost →
                  ∃ k ∈ t.bus.queue ++ t.bus.overflow, k.bay = tb ∧ k.cmd = .unlock)
            let fit (n : BayNo) : Prop := (s.bay n).candidate c.cls = true ∧ (s.bay n).readyFor c.level = true
            let own : BaySection := if c.id.origin = .gateway then .booked else .walkup
            let across : Prop := if c.id.origin = .gateway then c.due ≤ s.clock.time + s.params.horizon
              else ∀ k ∈ s.book.claims, k.id.origin = .gateway → k.state = .waiting →
                s.clock.time + s.params.horizon < k.due
            (e.abort = true → ended)
            ∧ (∀ tb, e.abort = false → e.take = some tb → (s.bay tb).readyFor c.level = true → taking tb)
            ∧ (∀ tb, e.abort = false → e.take = some tb → (s.bay tb).readyFor c.level = false → ended)
            ∧ (e.abort = false → e.take = none →
                ((∀ n, fit n → (s.bay n).bsection ≠ own ∧ ¬ across) → ended)
                ∧ ∀ n, fit n → ((s.bay n).bsection = own
                      ∨ (across ∧ ∀ m, fit m → (s.bay m).bsection ≠ own)) →
                    (∀ m, fit m → (s.bay m).bsection = (s.bay n).bsection →
                      (s.bay m).soc < (s.bay n).soc ∨ ((s.bay m).soc = (s.bay n).soc ∧ n ≤ m)) →
                    taking n ∧ (t.bay n).role = .take x ∧ (t.bay n).matched = some e.claim
                      ∧ (∀ d, t.claim? e.claim = some d → d.takeBay = some n)
                      ∧ t.sent .gateway (s.notice .claimMatched (.claim e.claim) 4 (bayNumber n)))))
    ∧ ∀ q, a.cause ≠ .insertion → (s.bay b).role = .none → (s.bay b).pack = some q →
      ∃ t : State, exec (.bayReply true (BitVec.ofNat 8 (bayNumber b)) rep (.identity i)) s = .next t
      ∧ (t.bay b).admission = none ∧ (t.bay b).inForce = (s.bay b).inForce ∧ t.exchanges = s.exchanges
      ∧ (let bound (c : Claim) := (s.bay b).matched = some c.id ∧ s.claim? c.id = some c ∧ c.takeBay = some b
            ∧ (c.state = .matched ∨ c.state = .ready)
          let unmatched (c : Claim) (cause : Nat) := (∃ d, t.claim? c.id = some d ∧ d.terms = c.terms)
            ∧ t.sent .gateway (s.notice .claimUnmatched (.claim c.id) cause (bayNumber b))
          let gone (c : Claim) := (t.bay b).matched ≠ some c.id ∧ ∀ d, t.claim? c.id = some d → d.takeBay ≠ some b
          (outOfRange → (t.bay b).state = .faulted ∧ (t.bay b).cause = some .packError ∧ (t.bay b).pack = none
            ∧ ∀ c, bound c → unmatched c 1 ∧ gone c)
          ∧ (800 ≤ i.capacity → i.capacity ≤ 4000 →
            let ceiling := if a.cause = .faultClear ∧ q.id ≠ i.packId then none else (s.bay b).ceiling
            let resolved := resolveProfile i.abilities (s.bay b).inForce i.health ceiling
            let alone := (∀ k ∈ s.book.claims, k.cls ≠ cls) → (t.bay b).matched = none
              ∧ (i.health ≠ .retire → resolved ≠ none →
                  (t.bay b).state = (if s.params.fill ≤ soc then .topped else .charging))
            (t.bay b).pack = some (record resolved) ∧ (t.bay b).ceiling = ceiling
            ∧ (i.health = .retire → (t.bay b).state = .withheld)
            ∧ (i.health ≠ .retire → resolved = none →
                (t.bay b).state = .faulted ∧ (t.bay b).cause = some .profile)
            ∧ ((s.bay b).matched = none → alone)
            ∧ ∀ c, bound c →
              (a.cause = .restart → q.id ≠ i.packId → unmatched c 5 ∧ alone)
              ∧ (a.cause ≠ .restart ∨ q.id = i.packId → (s.bay b).service = .inService →
                  (i.health = .retire → unmatched c 6 ∧ gone c)
                  ∧ (i.health ≠ .retire → resolved = none → unmatched c 1 ∧ gone c)
                  ∧ (i.health ≠ .retire → resolved ≠ none → cls ≠ c.cls → unmatched c 7 ∧ gone c)
                  ∧ (i.health ≠ .retire → resolved ≠ none → cls = c.cls → (t.bay b).matched = some c.id
                      ∧ ∃ d, t.claim? c.id = some d ∧ d.terms = c.terms ∧ d.takeBay = some b
                        ∧ d.state = (if (t.bay b).readyFor c.level then .ready else .matched)))))

/-- O25. R26: resolution gives the highest profile that the pack's set and the in-force set share, P3 left out
for a WORN pack, and that is not above the ceiling; and fails when there is none. -/
def Obligations.ResolutionHighest : Prop :=
  ∀ (pack inForce : AbilitySet) (health : Health) (ceiling : Option Profile),
    let fits (p : Profile) : Prop :=
      pack.getLsbD p.index = true ∧ inForce.getLsbD p.index = true ∧ ¬(health = .worn ∧ p = .p3)
        ∧ ∀ c, ceiling = some c → p.index ≤ c.index
    (∀ p, resolveProfile pack inForce health ceiling = some p ↔ fits p ∧ ∀ q, fits q → q.index ≤ p.index)
      ∧ (resolveProfile pack inForce health ceiling = none ↔ ∀ p, ¬ fits p)

/-- O26. R9: the fill test moves CHARGING to TOPPED at the target and back only more than 30 below it, and
moves no other state. -/
def Obligations.FillHysteresis : Prop :=
  ∀ (s : State) (b : BayNo) (q : Pack), (s.bay b).pack = some q →
    let t := s.fillTest b
    let target := s.fillTarget b
    (t.bay b).state =
        (if (s.bay b).state = .charging ∧ target ≤ q.soc then .topped
         else if (s.bay b).state = .topped ∧ q.soc + 30 < target then .charging else (s.bay b).state)
      ∧ ((t.bay b).state ≠ (s.bay b).state → (s.bay b).link ≠ .lost →
          ∃ e ∈ t.bus.queue ++ t.bus.overflow, e.bay = b
            ∧ e.cmd = (if (t.bay b).state = .topped then .chargeStop false else .chargeStart q.profile))
      ∧ s.sameButMatches t
      ∧ ∀ c, c ≠ b → t.bay c = s.bay c

/-! ### The claim book and matching (chapters 3 and 4) -/

/-- O27. R45, R46: OPEN-BOOKING, its checks in their order and the record of an accepted one. A first-issue
flag coded neither NO nor YES is a field out of range like a class that is none (R176). -/
def Obligations.OpenBooking : Prop :=
  ∀ (tag : Half) (cls : Byte) (level : Half) (due : Word) (hold : Half) (first : Byte) (s : State),
    s.free .gateway →
    let row := Instr.openBooking .gateway tag cls level due hold first
    let id : ClaimId := ⟨.gateway, tag⟩
    let badField := tag = 0 ∨ 2 < cls.toNat ∨ 1000 < level.toNat ∨ 1 < first.toNat
    let refused (c : RefusalCode) := exec row s = .next (s.refusal .gateway 0x20 c [])
    (badField → refused .badField)
    ∧ (¬badField → s.clock.isSet = false → refused .clockUnset)
    ∧ (¬badField → s.clock.isSet = true → s.clock.time + 86400 < due.toNat → refused .badField)
    ∧ (¬badField → s.clock.isSet = true → due.toNat ≤ s.clock.time + 86400 →
        ((s.claim? id).isSome = true → refused .duplicateTag)
        ∧ (s.claim? id = none → 48 ≤ s.book.claims.length → refused .bookFull)
        ∧ (s.claim? id = none → s.book.claims.length < 48 → ∀ k, classOfByte cls = some k →
            let n := (s.book.seq + 1) % 4294967296
            let d := max s.clock.time due.toNat
            let h := min 1800 (max 300 hold.toNat)
            ∃ (u : State) (c : Claim),
              exec row s = .next (u.success .gateway (.openBooking tag cls level due hold first)
                (u.openedPayload id))
              ∧ u.claim? id = some c
              ∧ c.terms = (id, n, s.clock.time, k,
                  (if level = 0 then s.params.level else max 500 level.toNat), d, some h, decide (first = 1),
                  none)
              ∧ (d + h ≤ 4294967295 → c.expiry = d + h)
              ∧ u.book.seq = n ∧ u.book.claims.length = s.book.claims.length + 1
              ∧ (∀ j, j ≠ id → (u.claim? j).map Claim.terms = (s.claim? j).map Claim.terms)
              ∧ { s with book := { s.book with seq := n } }.sameButMatches u))

/-- O28. R47, R55: OPEN-WALKUP, its checks in their order and the record of an accepted one. -/
def Obligations.OpenWalkup : Prop :=
  ∀ (tag : Half) (cls : Byte) (level : Half) (s : State), s.free .terminal →
    let row := Instr.openWalkup .terminal tag cls level
    let id : ClaimId := ⟨.terminal, tag⟩
    let badField := tag = 0 ∨ 2 < cls.toNat ∨ 1000 < level.toNat
    let refused (c : RefusalCode) := exec row s = .next (s.refusal .terminal 0x21 c [])
    (badField → refused .badField)
    ∧ (¬badField → s.schedule.walkupsOpen = false → refused .walkupClosed)
    ∧ (¬badField → s.schedule.walkupsOpen = true →
        ((s.claim? id).isSome = true → refused .duplicateTag)
        ∧ (s.claim? id = none → 48 ≤ s.book.claims.length → refused .bookFull)
        ∧ (s.claim? id = none → s.book.claims.length < 48 → ∀ k, classOfByte cls = some k →
            let n := (s.book.seq + 1) % 4294967296
            let now := s.clock.time
            ∃ (u : State) (c : Claim),
              exec row s = .next (u.success .terminal (.openWalkup tag cls level) (u.openedPayload id))
              ∧ u.claim? id = some c
              ∧ c.terms = (id, n, now, k, (if level = 0 then s.params.level else max 500 level.toNat), now,
                  none, false, none)
              ∧ (c.firstReady = none ∨ c.firstReady = some now)
              ∧ (now + 900 ≤ 4294967295 →
                  c.expiry = (if c.firstReady = none then now + 900 else now + 180))
              ∧ u.book.seq = n ∧ u.book.claims.length = s.book.claims.length + 1
              ∧ (∀ j, j ≠ id → (u.claim? j).map Claim.terms = (s.claim? j).map Claim.terms)
              ∧ { s with book := { s.book with seq := n } }.sameButMatches u))

/-- O29. R48, R49: AMEND-BOOKING. The code 4 in the reply, for EXPIRED in place of the state, is R176's. That bits
7 to 4 of the presence byte are not read, so that 0xF0 is refused with no value present and 0xF1 taken, is the
model's choice (log entry 9). So is that a due time is raised to now before it is compared with the one in force: a
passed due time given again becomes now, and the expiry is computed afresh from it (log entry 39). -/
def Obligations.AmendBooking : Prop :=
  ∀ (tag : Half) (present : Byte) (due : Word) (hold level : Half) (cls : Byte) (s : State),
    s.free .gateway →
    let row := Instr.amendBooking .gateway tag present due hold level cls
    let id : ClaimId := ⟨.gateway, tag⟩
    let badField := tag = 0 ∨ present.extractLsb' 0 4 = 0
      ∨ (present.getLsbD 3 = true ∧ 2 < cls.toNat) ∨ (present.getLsbD 2 = true ∧ 1000 < level.toNat)
    let refused (c : RefusalCode) := exec row s = .next (s.refusal .gateway 0x22 c [])
    (badField → refused .badField)
    ∧ (¬badField → s.claim? id = none → refused .noSuchClaim)
    ∧ ∀ c, ¬badField → s.claim? id = some c →
        (c.state = .swapping → refused .claimBusy)
        ∧ (c.state ≠ .swapping → present.getLsbD 0 = true → s.clock.time + 86400 < due.toNat →
            refused .badField)
        ∧ (c.state ≠ .swapping → (present.getLsbD 0 = true → due.toNat ≤ s.clock.time + 86400) →
            let d := if present.getLsbD 0 then max s.clock.time due.toNat else c.due
            let h := if present.getLsbD 1 then some (min 1800 (max 300 hold.toNat)) else c.hold
            let l := if present.getLsbD 2 then
                (if level = 0 then s.params.level else max 500 level.toNat) else c.level
            let e := if d = c.due ∧ h = c.hold then c.expiry else d + h.getD 0
            e ≤ 4294967295 → ∀ k, (if present.getLsbD 3 then classOfByte cls else some c.cls) = some k →
            ∃ (u : State) (payload : List Byte),
              exec row s = .next (u.success .gateway (.amendBooking tag present due hold level cls) payload)
              ∧ s.sameButMatches u
              ∧ (∀ j, j ≠ id → (u.claim? j).map Claim.terms = (s.claim? j).map Claim.terms)
              ∧ (e ≤ s.clock.time → u.claim? id = none ∧ payload.head? = some 4)
              ∧ (s.clock.time < e → ∃ g, u.claim? id = some g
                  ∧ g.terms = (id, c.seq, c.openTime, k, l, d, h, c.firstIssue, c.returned) ∧ g.expiry = e
                  ∧ payload = amendedPayload g (positionIn id u.book.claims) g.state.code))

/-- O30. R50: CANCEL-CLAIM. -/
def Obligations.CancelClaim : Prop :=
  ∀ (p : Port) (origin : Byte) (tag : Half) (s : State), s.free p → p ≠ .cabinet →
    let row := Instr.cancelClaim p origin tag
    let refused (c : RefusalCode) := exec row s = .next (s.refusal p 0x23 c [])
    (p = .terminal → origin = 1 → refused .notPermitted)
    ∧ (¬(p = .terminal ∧ origin = 1) →
      ((tag = 0 ∨ (origin ≠ 1 ∧ origin ≠ 2) → refused .badField)
      ∧ ∀ o, originOfByte origin = some o → tag ≠ 0 →
        (s.claim? ⟨o, tag⟩ = none → refused .noSuchClaim)
        ∧ ∀ c, s.claim? ⟨o, tag⟩ = some c →
          (c.state = .swapping → refused .claimBusy)
          ∧ (c.state ≠ .swapping → ∃ u : State,
              exec row s = .next (u.success p (.cancelClaim origin tag)
                (origin :: halfBytes tag ++ optionalPack c.returned))
              ∧ u.claim? ⟨o, tag⟩ = none
              ∧ (∀ b, c.takeBay = some b → (u.bay b).matched ≠ some ⟨o, tag⟩)
              ∧ (∀ j, j ≠ ⟨o, tag⟩ → (u.claim? j).map Claim.terms = (s.claim? j).map Claim.terms)
              ∧ s.sameButMatches u)))

/-- O31. The reads with a field but READ-BAY: READ-CLAIM (R52), LIST-CLAIMS (R53), READ-EXCHANGE (R128) and
READ-SCHEDULE (R165). Each changes nothing but its port's reply, whose items stand here, and refuses the values
its entry refuses. The model's choice in them: flags and yes/no indications are 1 when set (log entry 9); a
presence byte for each item of a bay an exchange does not have, the intake bay's items before the take bay's,
and the count before the READ-SCHEDULE entries (log entry 10); 0 for the bytes of an absent field and for bits
no layout names (log entry 36). -/
def Obligations.KeyedReads : Prop :=
  ∀ (p : Port) (s : State), s.free p →
    let flag (b : Bool) : Byte := if b then 1 else 0
    let byte (n : Nat) : Byte := BitVec.ofNat 8 n
    let word (n : Nat) := wordBytes (BitVec.ofNat 32 n)
    let half (n : Nat) := halfBytes (BitVec.ofNat 16 n)
    let bay (o : Option BayNo) : Byte := match o with | none => 0 | some b => byte (bayNumber b)
    let bit (b : Bool) (v : Nat) : Nat := if b then v else 0
    (p ≠ .cabinet → ∀ (origin : Byte) (tag : Half),
      let row := Instr.readClaim p origin tag
      (tag = 0 ∨ (origin ≠ 1 ∧ origin ≠ 2) → exec row s = .next (s.refusal p 0x24 .badField []))
      ∧ ∀ o, originOfByte origin = some o → tag ≠ 0 →
        (s.claim? ⟨o, tag⟩ = none → exec row s = .next (s.refusal p 0x24 .noSuchClaim []))
        ∧ ∀ c, s.claim? ⟨o, tag⟩ = some c → ∃ number : Byte,
          exec row s = .next (s.success p (.readClaim origin tag)
            ([origin] ++ halfBytes tag ++ word c.seq ++ word c.openTime ++ [byte c.cls.code] ++ half c.level
              ++ word c.due ++ half (c.hold.getD 0) ++ word c.expiry
              ++ [byte c.state.code, bay c.takeBay,
                  byte (bit c.firstReady.isSome 1 + bit c.returned.isSome 2 + bit c.projected.isSome 4
                    + bit c.atRisk 8 + bit c.firstIssue 16)]
              ++ word (c.firstReady.getD 0) ++ packIdBytes (c.returned.getD 0) ++ word (c.projected.getD 0)
              ++ [byte (s.book.claims.findIdx (fun d => decide (d.id = c.id)) + 1), number]))
          ∧ (c.state ≠ .swapping → number = 0)
          ∧ ∀ (x : ExNo) (e : Exchange), c.state = .swapping → s.exch x = some e → e.claim = c.id →
              e.phase ≠ .takeClosing →
              (∀ y f, s.exch y = some f → f.claim = c.id → f.phase ≠ .takeClosing → y = x) →
              number = byte (x.val + 1))
    ∧ (p = .gateway → ∀ start : Byte,
      let row := Instr.listClaims p start
      (start = 0 ∨ 48 < start.toNat → exec row s = .next (s.refusal p 0x25 .badField []))
      ∧ (start ≠ 0 → start.toNat ≤ 48 →
        exec row s = .next (s.success p (.listClaims start)
          (byte s.book.claims.length :: ((s.book.claims.drop (start.toNat - 1)).take 5).flatMap (fun c =>
            [byte c.id.origin.code] ++ halfBytes c.id.tag ++ word c.seq
              ++ [byte c.state.code, byte c.cls.code] ++ word c.due ++ word c.expiry
              ++ [bay c.takeBay, byte (bit c.atRisk 1 + bit c.returned.isSome 2)])))))
    ∧ (p ≠ .cabinet → ∀ n : Byte,
      let row := Instr.readExchange p n
      let view (o : Option BayNo) : List Byte := match o with
        | none => [0, 0, 0, 0, 0, 0]
        | some b => [1, byte (s.bay b).door.code, 1, byte (s.bay b).latch.code, 1, flag (s.bay b).sensed]
      (n = 0 ∨ 4 < n.toNat → exec row s = .next (s.refusal p 0x42 .badField []))
      ∧ ∀ x : ExNo, n.toNat = x.val + 1 →
        (s.exch x = none → exec row s = .next (s.refusal p 0x42 .noSuchExchange []))
        ∧ ∀ e, s.exch x = some e → exec row s = .next (s.success p (.readExchange n)
          ([n, byte e.claim.origin.code] ++ halfBytes e.claim.tag
            ++ [byte e.phase.code, bay e.intake, bay e.take, byte e.deadline] ++ word e.start
            ++ [flag e.abort] ++ view e.intake ++ view e.take
            ++ (match e.intake with
              | none => [0, 0]
              | some _ => [1, if e.phase = .takeOpen ∨ e.phase = .takeClosing then 1 else 0]))))
    ∧ (p = .gateway → ∀ list start : Byte,
      let row := Instr.readSchedule p list start
      let at' := start.toNat - 1
      let h := s.schedule
      let value (o : Option Nat) : List Byte := match o with
        | none => [0, 0, 0, 0, 0]
        | some v => 1 :: word v
      let counts := [byte h.directives.length, byte (32 - h.directives.length), byte h.windows.length]
        ++ word h.effective ++ [flag h.walkupsOpen]
      (1 < list.toNat ∨ start = 0 ∨ (list = 0 ∧ 32 < start.toNat) ∨ (list = 1 ∧ 8 < start.toNat) →
        exec row s = .next (s.refusal p 0x66 .badField []))
      ∧ (list = 0 → start ≠ 0 → start.toNat ≤ 32 →
        let shown := (h.directives.drop at').take 4
        exec row s = .next (s.success p (.readSchedule list start) (counts ++ byte shown.length ::
          shown.flatMap (fun d => half d.number ++ [byte d.kind.code] ++ word d.time ++ value d.value
            ++ word (d.duration.getD 0)))))
      ∧ (list = 1 → start ≠ 0 → start.toNat ≤ 8 →
        let shown := (h.windows.drop at').take 4
        exec row s = .next (s.success p (.readSchedule list start) (counts ++ byte shown.length ::
          shown.flatMap (fun w => half w.number ++ [byte w.kind.code] ++ value w.value ++ word w.start
            ++ word w.stop)))))

/-- O32. R40, R41: every step keeps the book within 48 claims, of distinct names, in book order. -/
def Obligations.StepKeepsBookOk : Prop :=
  ∀ s t : State, s.bookOk → step s = .next t → t.bookOk

/-- O33. R63: the choice among bays is the highest SoC, the lowest bay number among equals. -/
def Obligations.BestBayHighest : Prop :=
  ∀ (s : State) (ok : Bay → Bool),
    (∀ b, s.bestBay ok = some b ↔ ok (s.bay b) = true ∧ ∀ c, ok (s.bay c) = true →
        (s.bay c).soc < (s.bay b).soc ∨ ((s.bay c).soc = (s.bay b).soc ∧ b ≤ c))
      ∧ (s.bestBay ok = none ↔ ∀ b, ok (s.bay b) = false)

/-- O34. R62 to R66: what a pass does with one WAITING claim: nothing when no bay is to be had, and otherwise
the bay, a candidate in every respect, and the claim name each other, and the claim is READY exactly when the
bay meets its conditions. A booking borrows across the split only within the horizon (R63); a walk-up takes a
bay at its level in the first two steps, the second only while the book is covered, and in the third one of its
own section (R64, R65); a step is tried only when those before it found no bay. -/
def Obligations.WaitingClaimTaken : Prop :=
  ∀ (s : State) (id : ClaimId) (c : Claim), s.claim? id = some c → c.state = .waiting →
    (s.chooseBay c = none → s.takeWaiting id = s)
    ∧ ∀ (b : BayNo) (d : MatchDetail), s.chooseBay c = some (b, d) →
      let r := s.bay b
      let t := s.takeWaiting id
      let covered := ∀ k ∈ s.book.claims, k.id.origin = .gateway → k.state = .waiting →
        s.clock.time + s.params.horizon < k.due
      (r.service = .inService ∧ r.link = .reachable ∧ (r.state = .charging ∨ r.state = .topped)
        ∧ (∃ q, r.pack = some q ∧ q.cls = c.cls ∧ q.health ≠ .retire) ∧ r.matched = none ∧ r.role = .none
        ∧ r.cause = none)
      ∧ (d = .own → r.bsection = (if id.origin = .gateway then .booked else .walkup))
      ∧ (d = .borrow → r.bsection = (if id.origin = .gateway then .walkup else .booked))
      ∧ (d = .deadline → id.origin = .terminal ∧ r.bsection = .walkup)
      ∧ d ≠ .replacement
      ∧ (d = .borrow → id.origin = .gateway → c.due ≤ s.clock.time + s.params.horizon
          ∧ ∀ n, (s.bay n).candidate c.cls = true → (s.bay n).bsection = .walkup)
      ∧ (id.origin = .terminal → d ≠ .deadline → c.level ≤ r.soc)
      ∧ (id.origin = .terminal → d ≠ .own →
          ∀ n, (s.bay n).candidate c.cls = true → (s.bay n).bsection = .walkup → (s.bay n).soc < c.level)
      ∧ (id.origin = .terminal → d = .borrow → covered)
      ∧ (d = .deadline → covered →
          ∀ n, (s.bay n).candidate c.cls = true → (s.bay n).bsection = .booked → (s.bay n).soc < c.level)
      ∧ (t.bay b).matched = some id
      ∧ (∃ e, t.claim? id = some e ∧ e.takeBay = some b ∧ e.terms = c.terms
          ∧ e.state = (if (t.bay b).readyFor c.level then .ready else .matched))
      ∧ s.sameButMatches t

/-- O35. R68, R69, R55: the READY test of a claim that is MATCHED or READY on its take bay. -/
def Obligations.ReadyTest : Prop :=
  ∀ (s : State) (id : ClaimId) (c : Claim) (b : BayNo), s.claim? id = some c → c.takeBay = some b →
    c.state = .matched ∨ c.state = .ready →
    let ready := (s.bay b).readyFor c.level
    let entry := decide (c.state = .matched) && ready
    (ready = true ↔ ((s.bay b).state = .charging ∨ (s.bay b).state = .topped)
        ∧ ∃ q, (s.bay b).pack = some q ∧ c.level ≤ q.soc ∧ q.temp < 55)
    ∧ ∃ e, (s.retest id).claim? id = some e ∧ e.state = (if ready then .ready else .matched)
        ∧ e.terms = c.terms ∧ e.takeBay = some b
        ∧ e.firstReady = (if entry && c.firstReady.isNone then some s.clock.time else c.firstReady)
        ∧ (s.clock.time + 180 ≤ 4294967295 →
            e.expiry = (if entry && c.firstReady.isNone && decide (id.origin = .terminal) then
              s.clock.time + 180 else c.expiry))
        ∧ s.sameButMatches (s.retest id) ∧ ∀ d, (s.retest id).bay d = s.bay d

/-! ### The plan and the grants (chapters 5 and 6) -/

/-- O36. R83: the urgency order holds each taking-part bay once: deadline bays by due time, open sequence and
bay number, then ordinary bays by SoC and bay number; a bay's rank is its position, from 1. -/
def Obligations.UrgencyOrder : Prop :=
  ∀ s : State,
    s.urgencyOrder.Nodup ∧ (∀ b, b ∈ s.urgencyOrder ↔ s.takesPart b = true)
    ∧ s.urgencyOrder.Pairwise (fun b c =>
        (0 < s.need b ∧ s.need c = 0)
        ∨ (0 < s.need b ∧ 0 < s.need c ∧ ∃ m n, s.matchedClaim b = some m ∧ s.matchedClaim c = some n
            ∧ (m.due < n.due ∨ (m.due = n.due ∧ (m.seq < n.seq ∨ (m.seq = n.seq ∧ b < c)))))
        ∨ (s.need b = 0 ∧ s.need c = 0
            ∧ ((s.bay b).soc < (s.bay c).soc ∨ ((s.bay b).soc = (s.bay c).soc ∧ b < c))))
    ∧ s.urgencyOrder.length ≤ 24
    ∧ (∀ (k : Nat) (b : BayNo), s.urgencyOrder[k]? = some b → rankIn s.urgencyOrder b = some (k + 1))
    ∧ ∀ b, rankIn s.urgencyOrder b = none ↔ s.takesPart b = false

/-- O37. R79, R84, R86 to R90: what a plan holds. A grant is 0 or a multiple of 50 W from the minimum grant up
to the bay's cap, only a bay that takes part has one, the two bays of a module draw in different parities, and
in each parity the grants and the headroom left make up the usable budget. Each entry has the cap, the rank,
the tier, the projection and the SoC used, and the plan the frame, the time, F, R_eff and U. -/
def Obligations.PlanWithinBudget : Prop :=
  ∀ s : State,
    let p := s.plan
    let g (b : BayNo) := (p.entry b).grant
    let par (b : BayNo) := (p.entry b).parity
    (∀ b, g b = 0 ∨ (200 ≤ g b ∧ g b % 50 = 0 ∧ g b ≤ (p.entry b).cap ∧ s.takesPart b = true))
    ∧ (∀ b, s.takesPart b = false → par b = .none)
    ∧ (∀ b, s.takesPart b = true → par b ≠ .none ∧ (s.takesPart (sibling b) = false → par b = .both))
    ∧ (∀ b, s.takesPart b = true → s.takesPart (sibling b) = true →
        (par b = .even ∧ par (sibling b) = .odd) ∨ (par b = .odd ∧ par (sibling b) = .even))
    ∧ (allBays.map (fun b => if (par b).inEven then g b else 0)).sum + p.hEven = p.usable
    ∧ (allBays.map (fun b => if (par b).inOdd then g b else 0)).sum + p.hOdd = p.usable
    ∧ (p.frame = s.grants.frame ∧ p.time = s.clock.time ∧ p.feed = s.grants.watts
        ∧ p.reserve = s.schedule.effective ∧ p.usable = s.budget)
    ∧ ∀ b, (p.entry b).cap = s.capOf b ∧ (p.entry b).rank = rankIn s.urgencyOrder b
        ∧ (p.entry b).tier = (if s.takesPart b then some (if 0 < s.need b then .deadline else .ordinary)
            else none)
        ∧ (p.entry b).socUsed = (s.bay b).pack.map (fun q => q.soc)
        ∧ (s.matchedClaim b = none → (p.entry b).projected = none)
        ∧ (s.matchedClaim b ≠ none →
            (s.need b = 0 → (p.entry b).projected = some p.time)
            ∧ (0 < s.need b → g b = 0 → (p.entry b).projected = none)
            ∧ (0 < s.need b → 0 < g b → ∃ v, (p.entry b).projected = some (p.time + v)
                ∧ s.need b * 3600 * (if par b = .both then 1 else 2) ≤ v * g b
                ∧ v * g b < s.need b * 3600 * (if par b = .both then 1 else 2) + g b))

/-- O38. R96 to R98: FRAME_BOUNDARY. Without an install nothing but the frame moves on; with one the whole
grant table, the SoCs used and the projections are the plan's, computed with the new frame number; each claim's
at-risk flag is judged (R74); and the notices are PLAN-INSTALLED (R110) and then one for each flag that has
changed, in book order. A projection that exceeds 32 bits is a free value (log entry 3). PLAN-INSTALLED's detail, 1
for a plan wanted and 2 for a refresh, is the model's choice (log entry 14). -/
def Obligations.FrameBoundary : Prop :=
  ∀ s : State,
    let n := (s.grants.frame + 1) % 4294967296
    let p := { s with grants := { s.grants with frame := n } }.plan
    let late (c d : Claim) (v : Nat) : Prop := (if c.id.origin = .gateway then c.due else d.expiry) < v
    let full (c : Claim) : Prop :=
      ∃ b q, c.takeBay = some b ∧ (s.bay b).pack = some q ∧ c.level ≤ q.soc
    ∃ t : State, exec .frameBoundary s = .next t
      ∧ t.grants.frame = n ∧ t.grants.odd = decide (n % 2 = 1)
      ∧ (s.grants.replan = false → s.grants.since < 14 →
          t = { s with grants :=
            { s.grants with frame := n, odd := decide (n % 2 = 1), since := s.grants.since + 1 } })
      ∧ (s.grants.replan = true ∨ 14 ≤ s.grants.since →
          t = { s with bays := t.bays, book := { s.book with claims := t.book.claims }, ports := t.ports,
                       freeCount := t.freeCount,
                       grants := { s.grants with
                         frame := n, odd := decide (n % 2 = 1), since := 0, replan := false
                         header := some { frame := n, feed := s.grants.watts, hEven := p.hEven,
                                          hOdd := p.hOdd } } }
          ∧ (∀ b, t.bay b = { s.bay b with
              grant := (p.entry b).grant, parity := (p.entry b).parity, cap := (p.entry b).cap,
              rank := (p.entry b).rank,
              pack := (s.bay b).pack.map (fun q => { q with socUsed := some q.soc }) })
          ∧ (∀ id c, s.claim? id = some c → ∃ d, t.claim? id = some d ∧ d.terms = c.terms
              ∧ d.state = c.state ∧ d.takeBay = c.takeBay ∧ d.expiry = c.expiry
              ∧ (∀ v, c.takeBay.bind (fun b => (p.entry b).projected) = some v → v ≤ 4294967295 →
                  d.projected = some v)
              ∧ (c.takeBay.bind (fun b => (p.entry b).projected) = none → d.projected = none)
              ∧ (d.atRisk = true ↔ c.state ≠ .swapping ∧ ¬ full c ∧ ∀ v, d.projected = some v → late c d v))
          ∧ (s.bookOk → t.ports = (s.notice .planInstalled .none (if s.grants.replan then 1 else 2) n ::
              s.book.claims.filterMap (fun c => match t.claim? c.id with
                | none => none
                | some d =>
                  if c.atRisk = d.atRisk then none
                  else if d.atRisk then
                    some (s.notice .claimAtRisk (.claim c.id) (if d.projected.isSome then 2 else 1)
                      (d.projected.getD 0))
                  else some (s.notice .claimAtRiskCleared (.claim c.id) 0 (d.projected.getD 0)))).foldl
              Ports.post s.ports))

/-- O39. R105, R78: REPORT-FEED. A rise of U leaves every grant as it was; a fall only lowers grants. That the
reply's halt flag is 1 for ON is the model's choice (log entry 9). -/
def Obligations.ReportFeed : Prop :=
  ∀ (w : Word) (s : State), s.free .cabinet →
    let f := min 96000 w.toNat
    let usable := if s.grants.halt then 0 else f - s.schedule.effective
    ∃ u : State,
      exec (.reportFeed .cabinet w) s = .next (u.success .cabinet (.reportFeed w)
        (wordBytes (BitVec.ofNat 32 f) ++ [1] ++ wordBytes (BitVec.ofNat 32 usable)
          ++ [if s.grants.halt then 1 else 0]))
      ∧ u = { s with bays := u.bays, ports := u.ports,
                     grants := { s.grants with watts := f, timer := some 10, feed := .current,
                                               usable := usable, replan := u.grants.replan },
                     faults := { s.faults with feedStale :=
                       if s.grants.feed = .stale then none else s.faults.feedStale } }
      ∧ (s.grants.usable ≤ usable → u.bays = s.bays)
      ∧ (∀ b, u.bay b = { s.bay b with grant := (u.bay b).grant } ∧ (u.bay b).grant ≤ (s.bay b).grant)
      ∧ (s.grants.feed ≠ .current ∨ usable < s.grants.usable → u.grants.replan = true)
      ∧ (∀ h, s.grants.header = some h → h.feed < f → h.feed + s.params.feedBand ≤ f →
          u.grants.replan = true)
      ∧ (∀ q, (u.ports.get q).line = (s.ports.get q).line)

/-- O40. R107, R102: SET-MODULE. The caps of the module's bays follow the new entry at once, and a grant above
its cap is cut to it, or to 0 below the minimum grant. No port changes but in its notices. -/
def Obligations.SetModule : Prop :=
  ∀ (n st : Byte) (limit : Half) (s : State), s.free .cabinet →
    (n.toNat = 0 ∨ 12 < n.toNat ∨ 1 < st.toNat →
      exec (.setModule .cabinet n limit st) s = .next (s.refusal .cabinet 0x31 .badField []))
    ∧ ∀ m : ModNo, n.toNat = m.val + 1 → st.toNat ≤ 1 →
      let l := min 4000 limit.toNat / 50 * 50
      let x : Module := { limit := l, fault := decide (st = 1) }
      ∃ u : State,
        exec (.setModule .cabinet n limit st) s = .next (u.success .cabinet (.setModule n limit st)
          (n :: wordBytes (BitVec.ofNat 32 l) ++ [st]
            ++ (moduleBays m).flatMap (fun b => wordBytes (BitVec.ofNat 32 (u.bay b).grant))))
        ∧ (s.grants.modules.get m = x → u = s)
        ∧ u.grants.modules.get m = x ∧ (∀ k, k ≠ m → u.grants.modules.get k = s.grants.modules.get k)
        ∧ (s.grants.modules.get m ≠ x → u.grants.replan = true
            ∧ u = { s with bays := u.bays, ports := u.ports, grants :=
                { s.grants with modules := u.grants.modules, replan := true } }
            ∧ (∀ q, (u.ports.get q).line = (s.ports.get q).line)
            ∧ (∀ b, moduleOf b ≠ m → u.bay b = s.bay b)
            ∧ ∀ b, moduleOf b = m →
                let cap := u.capOf b
                u.bay b = { s.bay b with
                  cap := cap
                  grant := if cap < (s.bay b).grant then (if cap < 200 then 0 else cap) else (s.bay b).grant })

/-- O41. R108, R109: HALT-CHARGING and RESUME-CHARGING, with the notices they send; either finding the flag as
it would set it changes nothing. That the replies' halt flag is 1 for ON and 0 for OFF is the model's choice (log
entry 9), as is GRANT-CUT's detail 1 for ELIGIBILITY (log entry 14). -/
def Obligations.HaltAndResume : Prop :=
  ∀ s : State, s.free .cabinet →
    (s.grants.halt = true → exec (.haltCharging .cabinet) s = .next (s.success .cabinet .haltCharging
        (1 :: u32 s.grants.usable)))
    ∧ (s.grants.halt = false → ∃ u : State,
        exec (.haltCharging .cabinet) s = .next (u.success .cabinet .haltCharging [1, 0, 0, 0, 0])
        ∧ u = { s with bays := u.bays, ports := u.ports,
                       grants := { s.grants with halt := true, usable := 0, replan := true },
                       faults := { s.faults with halt := some (s.faults.halt.getD s.clock.time) } }
        ∧ (∀ b, u.bay b = { s.bay b with grant := 0 })
        ∧ u.ports = (s.cuts ++ [s.notice .halt .none 0 0]).foldl Ports.post s.ports)
    ∧ (s.grants.halt = false → exec (.resumeCharging .cabinet) s = .next (s.success .cabinet .resumeCharging
        (0 :: BitVec.ofNat 8 s.grants.feed.code :: u32 s.grants.usable)))
    ∧ (s.grants.halt = true →
        let usable := if s.grants.feed = .current then s.grants.watts - s.schedule.effective else 0
        ∃ u : State,
        exec (.resumeCharging .cabinet) s = .next (u.success .cabinet .resumeCharging
          (0 :: BitVec.ofNat 8 s.grants.feed.code :: u32 usable))
        ∧ u = { s with bays := u.bays, ports := u.ports,
                       grants := { s.grants with halt := false, usable := usable, replan := true },
                       faults := { s.faults with halt := none } }
        ∧ (s.grants.usable = 0 → u.bays = s.bays
            ∧ u.ports = s.ports.post (s.notice .resume .none 0 usable)))

/-- O42. R106: STALENESS_TIMEOUT with the feed CURRENT: the feed goes STALE, every grant and U in force to 0,
with its notices. GRANT-CUT's detail 1 for ELIGIBILITY is the model's choice (log entry 14). -/
def Obligations.StalenessTimeout : Prop :=
  ∀ s : State, s.grants.feed = .current → ∃ t : State, exec .stalenessTimeout s = .next t
      ∧ t = { s with bays := t.bays, ports := t.ports,
                     grants := { s.grants with feed := .stale, timer := none, usable := 0, replan := true },
                     faults := { s.faults with feedStale := some (s.faults.feedStale.getD s.clock.time) } }
      ∧ (∀ b, t.bay b = { s.bay b with grant := 0 })
      ∧ t.ports = (s.cuts ++ [s.notice .feedStale .none 0 s.grants.watts]).foldl Ports.post s.ports

/-- O43. R78, R98, R103: every step keeps U in force at the usable budget, each parity's grants within it,
each grant a multiple of 50 W at or above the minimum or 0, and siblings in different parities. -/
def Obligations.StepKeepsDrawOk : Prop :=
  ∀ s t : State, s.drawOk → step s = .next t → t.drawOk

/-- O44. The four conditions that every step keeps hold after power-on. -/
def Obligations.ResetConditions : Prop :=
  State.reset.portsOk ∧ State.reset.bookOk ∧ State.reset.drawOk ∧ State.reset.bus.ok

/-! ### The swap exchange (chapter 7) -/

/-- O45. R113, R114: BEGIN-SWAP on the terminal: its checks in their order, and an accepted one with an intake
bay, and without. That a VACANT bay last reported CLOSED and LOCKED may be an intake bay also while a LOCK is queued
for it is the model's choice (log entry 43). -/
def Obligations.BeginSwap : Prop :=
  ∀ (origin : Byte) (tag : Half) (s : State), s.free .terminal →
    let row := Instr.beginSwap .terminal origin tag
    let refused (c : RefusalCode) (more : List Byte) := exec row s = .next (s.refusal .terminal 0x40 c more)
    (tag = 0 ∨ (origin ≠ 1 ∧ origin ≠ 2) → refused .badField [])
    ∧ ∀ o, originOfByte origin = some o → tag ≠ 0 →
      let id : ClaimId := ⟨o, tag⟩
      (s.claim? id = none → refused .noSuchClaim [])
      ∧ ∀ c, s.claim? id = some c →
        let needs := decide (c.returned = none) && !c.firstIssue
        (c.state = .swapping → refused .claimBusy [])
        ∧ (c.state = .waiting ∨ c.state = .matched → refused .notReady
            (BitVec.ofNat 8 c.state.code :: (match c.projected with
              | none => [0, 0, 0, 0, 0]
              | some t => 1 :: u32 t)))
        ∧ (c.state = .ready → (∀ x, s.exch x ≠ none) → refused .exchangesFull [])
        ∧ (c.state = .ready → (∃ x, s.exch x = none) → needs = true →
            (∀ b, (s.bay b).intakeFit = false) → refused .noVacantBay [])
        ∧ ∀ (x : ExNo) (tb : BayNo), c.state = .ready → c.takeBay = some tb →
          (s.bay tb).readyFor c.level = true → s.exch x = none → (∀ y, y < x → s.exch y ≠ none) →
          (needs = false → ∃ u : State,
            exec row s = .next (u.success .terminal (.beginSwap origin tag)
              [BitVec.ofNat 8 (x.val + 1), 3, 0, BitVec.ofNat 8 (bayNumber tb)])
            ∧ u.exch x = some { claim := id, phase := .takeOpen, intake := none, take := some tb,
                                deadline := 60, start := s.clock.time, abort := false, relink := false }
            ∧ (∀ y, y ≠ x → u.exch y = s.exch y)
            ∧ (∃ d, u.claim? id = some d ∧ d.state = .swapping ∧ d.terms = c.terms)
            ∧ (u.bay tb).role = .take x ∧ (s.eligible tb = true → (u.bay tb).grant = 0)
            ∧ (∀ b, b ≠ tb → (u.bay b).base = (s.bay b).base)
            ∧ ((s.bay tb).link ≠ .lost →
                ∃ e ∈ u.bus.queue ++ u.bus.overflow, e.bay = tb ∧ e.cmd = .unlock)
            ∧ u.settings = s.settings ∧ u.grants.settings = s.grants.settings ∧ u.faults = s.faults)
          ∧ (∀ ib, needs = true → s.chooseIntake c = some ib → ∃ u : State,
            exec row s = .next (u.success .terminal (.beginSwap origin tag)
              [BitVec.ofNat 8 (x.val + 1), 0, BitVec.ofNat 8 (bayNumber ib), BitVec.ofNat 8 (bayNumber tb)])
            ∧ u.exch x = some { claim := id, phase := .intakeOpen, intake := some ib, take := some tb,
                                deadline := 90, start := s.clock.time, abort := false, relink := false }
            ∧ (∀ y, y ≠ x → u.exch y = s.exch y)
            ∧ (∃ d, u.claim? id = some d ∧ d.state = .swapping ∧ d.terms = c.terms)
            ∧ (u.bay tb).role = .take x ∧ (u.bay ib).role = .intake x
            ∧ (s.eligible tb = true → (u.bay tb).grant = 0)
            ∧ (∀ b, b ≠ tb → b ≠ ib → (u.bay b).base = (s.bay b).base)
            ∧ (∃ e ∈ u.bus.queue ++ u.bus.overflow, e.bay = ib ∧ e.cmd = .unlock)
            ∧ u.settings = s.settings ∧ u.grants.settings = s.grants.settings ∧ u.faults = s.faults)
          ∧ (∀ ib, s.chooseIntake c = some ib ↔
              (s.bay ib).intakeFit = true
              ∧ (let own := if o = .gateway then BaySection.booked else BaySection.walkup
                 ((s.bay ib).bsection = own ∨ ∀ b, (s.bay b).bsection = own → (s.bay b).intakeFit = false)
                 ∧ ∀ b, b < ib → (s.bay b).bsection = (s.bay ib).bsection → (s.bay b).intakeFit = false))

/-- O46. R126, R127: ABORT-SWAP on the terminal. That the reply's last byte is 1 for an exchange that has ended and
0 for an abort that waits is the model's choice (log entry 9). -/
def Obligations.AbortSwap : Prop :=
  ∀ (n origin : Byte) (tag : Half) (s : State), s.free .terminal →
    let row := Instr.abortSwap .terminal n origin tag
    let r := Request.abortSwap n origin tag
    let refused (c : RefusalCode) := exec row s = .next (s.refusal .terminal 0x41 c [])
    (n.toNat = 0 ∨ 4 < n.toNat ∨ tag = 0 ∨ (origin ≠ 1 ∧ origin ≠ 2) → refused .badField)
    ∧ ∀ (x : ExNo) (o : Origin), n.toNat = x.val + 1 → originOfByte origin = some o → tag ≠ 0 →
      (s.exch x = none → refused .noSuchExchange)
      ∧ ∀ e, s.exch x = some e →
        let ph := BitVec.ofNat 8 e.phase.code
        let shut (b : BayNo) := decide ((s.bay b).door = .closed ∧ (s.bay b).latch = .locked)
        (e.claim ≠ ⟨o, tag⟩ → refused .noSuchExchange)
        ∧ (e.claim = ⟨o, tag⟩ →
          (e.phase = .returnRejected ∨ e.phase = .takeClosing → refused .tooLate)
          ∧ (e.phase ≠ .returnRejected → e.phase ≠ .takeClosing → e.abort = true →
              exec row s = .next (s.success .terminal r [n, ph, 0]))
          ∧ (e.phase = .intakeCheck → e.abort = false → ∃ u : State,
              exec row s = .next (u.success .terminal r [n, ph, 0])
              ∧ u.exch x = some { e with abort := true } ∧ (∀ y, y ≠ x → u.exch y = s.exch y)
              ∧ (s.setExch x (some { e with abort := true })).sameButMatches u)
          ∧ (∀ b, (e.phase = .intakeOpen ∧ e.intake = some b
                ∧ (shut b = false ∨ (s.bay b).sensed = true))
              ∨ (e.phase = .takeOpen ∧ e.take = some b ∧ shut b = false) → e.abort = false → ∃ u : State,
              exec row s = .next (u.success .terminal r [n, ph, 0])
              ∧ u.exch x = some { e with abort := true } ∧ (∀ y, y ≠ x → u.exch y = s.exch y)
              ∧ (u.bay b).relock = true
              ∧ ((s.bay b).link ≠ .lost →
                  ∃ c ∈ u.bus.queue ++ u.bus.overflow, c.bay = b ∧ c.cmd = .lock)
              ∧ (∀ c, c ≠ b → (u.bay c).base = (s.bay c).base) ∧ u.settings = s.settings)
          ∧ (∀ b, (e.phase = .intakeOpen ∧ e.intake = some b ∧ shut b = true ∧ (s.bay b).sensed = false)
              ∨ (e.phase = .takeOpen ∧ e.take = some b ∧ shut b = true) → e.abort = false → ∃ u : State,
              exec row s = .next (u.success .terminal r [n, ph, 1])
              ∧ u.exch x = none ∧ (∀ y, y ≠ x → u.exch y = s.exch y)
              ∧ (u.bay b).role = .none ∧ (u.bay b).relock = true
              ∧ ((s.bay b).link ≠ .lost →
                  ∃ c ∈ u.bus.queue ++ u.bus.overflow, c.bay = b ∧ c.cmd = .lock)
              ∧ (∀ d, u.claim? e.claim = some d → d.state ≠ .swapping)
              ∧ (∀ c, e.intake ≠ some c → e.take ≠ some c → (u.bay c).base = (s.bay c).base)
              ∧ u.settings = s.settings))

/-- O47. R115, R116, R118 to R120, R122, R125: the phase deadlines. Each ends its exchange, but INTAKE-CHECK's,
which faults the intake bay and asks for the return of what is in it. An ending queues LOCK for the phase's bay,
which joins the relock list, and raises DOOR-AJAR on it when its door was last reported OPEN (R149), unless a
cause of equal or higher precedence stands (R148). That a TAKE-OPEN that ends UNCONFIRMED raises none is the
model's choice (log entry 18), and nothing is said of it here. -/
def Obligations.PhaseDeadlines : Prop :=
  ∀ (x : ExNo) (s : State),
    let ends (t : State) (e : Exchange) (b : BayNo) :=
      t.exch x = none ∧ (∀ y, y ≠ x → t.exch y = s.exch y)
        ∧ (∀ b, e.intake = some b ∨ e.take = some b → (t.bay b).role = .none)
        ∧ (∀ d, t.claim? e.claim = some d → d.state ≠ .swapping) ∧ t.settings = s.settings
        ∧ t.grants.settings = s.grants.settings ∧ t.faults = s.faults
        ∧ (t.bay b).relock = true
        ∧ ((s.bay b).link ≠ .lost → ∃ c ∈ t.bus.queue ++ t.bus.overflow, c.bay = b ∧ c.cmd = .lock)
    let ajar (t : State) (b : BayNo) :=
      (t.bay b).cause =
          (if (s.bay b).door = .opened ∧ (s.bay b).cause ∈ ([none, some .charge, some .profile] : List _) then
            some .doorAjar else (s.bay b).cause)
        ∧ ((s.bay b).door = .opened → (s.bay b).cause = none → (t.bay b).state = .faulted)
    (∀ e b, s.exch x = some e → e.phase = .intakeOpen → e.intake = some b → (s.bay b).role = .intake x →
      ∃ t, exec (.intakeOpenDeadline x) s = .next t ∧ ends t e b ∧ ajar t b
        ∧ (t.bay b).watch = some { claim := e.claim, outcome := .intakeTimeout })
    ∧ (∀ e b, s.exch x = some e → e.phase = .intakeCheck → e.intake = some b → (s.bay b).role = .intake x →
        (s.bay b).cause = none →
        ∃ t, exec (.intakeCheckDeadline x) s = .next t
          ∧ t.exch x = some { e with phase := .returnRejected, deadline := 60, relink := false }
          ∧ (∀ y, y ≠ x → t.exch y = s.exch y)
          ∧ (t.bay b).state = .faulted ∧ (t.bay b).cause = some .packError ∧ (t.bay b).admission = none
          ∧ ((s.bay b).link ≠ .lost →
              ∃ c ∈ t.bus.queue ++ t.bus.overflow, c.bay = b ∧ c.cmd = .unlock)
          ∧ t.settings = s.settings)
    ∧ (∀ e b, s.exch x = some e → e.phase = .returnRejected → e.intake = some b →
        (s.bay b).role = .intake x →
        ∃ t, exec (.returnRejectedDeadline x) s = .next t ∧ ends t e b ∧ ajar t b
          ∧ ((s.bay b).sensed = true ∨ (s.bay b).door = .opened →
              (t.bay b).watch = some { claim := e.claim, outcome := .returnRejected }))
    ∧ (∀ e b, s.exch x = some e → e.phase = .takeOpen → e.take = some b → (s.bay b).role = .take x →
        ∃ t, exec (.takeOpenDeadline x) s = .next t ∧ ends t e b
          ∧ ((s.bay b).link ≠ .lost → ajar t b)
          ∧ ((s.bay b).link = .lost → t.claim? e.claim = none))
    ∧ (∀ e b, s.exch x = some e → e.phase = .takeClosing → e.take = some b → (s.bay b).role = .take x →
        s.claim? e.claim = none →
        ∃ t, exec (.takeClosingDeadline x) s = .next t ∧ ends t e b ∧ ajar t b)

/-- O48. What a report of an exchange's bay does to the exchange, by the phase. INTAKE-OPEN: the door shut on a pack
leads to INTAKE-CHECK with IDENTIFY and LOCK queued, also while an abort waits (R115, R127); a waiting abort ends the
exchange on a shut, locked, empty bay (R127); an open door or an empty bay moves nothing. A fault of the intake bay
before its result leads to RETURN-REJECTED (R115, R116, R118). INTAKE-CHECK: a removal leads back to INTAKE-OPEN,
with UNLOCK unless an abort waits (R116). RETURN-REJECTED ends on an empty bay with its door CLOSED (R118). TAKE-OPEN:
the removal of the pack closes the claim and leaves the take bay VACANT, with the exchange in TAKE-CLOSING, or over
when the same report shows the door CLOSED (R11, R119, R120); a waiting abort ends it on a bay shut and locked with
its pack (R127); a changed insertion count or a node restart unmatches the claim and queues LOCK for the bay, which
loses its record and its role, and then the exchange ends ABORTED where an abort waits, begins TAKE-OPEN afresh on
the replacement that R73 finds, or ends NO-PACK (R36, R124). TAKE-CLOSING ends DONE on a door CLOSED (R120). No other
exchange moves. The details of SWAP-PHASE and SWAP-END, numbered from 1 in the order of R111 and R112, are the
model's choice (log entry 14). -/
def Obligations.PackTakenClosesClaim : Prop :=
  ∀ (s : State) (x : ExNo) (e : Exchange) (b : BayNo) (rep : ShortReport) (ans : Answer),
    s.bus.flight = some (.poll b) → s.exch x = some e →
    let r := s.bay b
    let intake (ph : Phase) := e.phase = ph ∧ e.intake = some b ∧ r.role = .intake x
    let take (ph : Phase) := e.phase = ph ∧ e.take = some b ∧ r.role = .take x
    let cool := rep.packFault = false ∧ rep.temp < 65
    let queued (t : State) (c : BusCmd) := ∃ k ∈ t.bus.queue ++ t.bus.overflow, k.bay = b ∧ k.cmd = c
    let entered (t : State) (ph : Phase) (length : Nat) :=
      t.exch x = some { e with phase := ph, deadline := length, relink := false } ∧ (t.bay b).role = r.role
        ∧ t.sent .terminal (s.notice .swapPhase (.claim e.claim) (ph.code + 1) (x.val + 1))
    let swapping (t : State) := ∀ c, s.claim? e.claim = some c → c.state = .swapping →
      ∃ d, t.claim? e.claim = some d ∧ d.state = .swapping ∧ d.terms = c.terms ∧ d.takeBay = c.takeBay
    let ended (t : State) (outcome : Nat) :=
      t.exch x = none ∧ (∀ n, e.intake = some n ∨ e.take = some n → (t.bay n).role = .none)
        ∧ t.sent .terminal (s.notice .swapEnd (.claim e.claim) outcome (x.val + 1))
    let handedBack (t : State) := ∀ c d, s.claim? e.claim = some c → t.claim? e.claim = some d →
      d.state ≠ .swapping ∧ d.terms = c.terms
    ∃ t : State, exec (.bayReply true (BitVec.ofNat 8 (bayNumber b)) rep ans) s = .next t
      ∧ (r.role = .intake x ∨ r.role = .take x → ∀ y, y ≠ x → t.exch y = s.exch y)
      ∧ (intake .intakeOpen → r.state = .vacant →
          (rep.door = .closed → rep.sensed = true → cool → entered t .intakeCheck 10 ∧ swapping t
            ∧ (t.bay b).state = .admitting ∧ queued t (.identify (s.admissions + 1)) ∧ queued t .lock
            ∧ (t.bay b).relock = true)
          ∧ (e.abort = true → rep.door = .closed → rep.latch = .locked → rep.sensed = false →
              ended t 2 ∧ handedBack t)
          ∧ ((rep.door = .opened ∧ (rep.sensed = true → cool))
                ∨ (rep.door = .closed ∧ rep.sensed = false ∧ (e.abort = false ∨ rep.latch = .unlocked)) →
              t.exch x = some e ∧ (t.bay b).state = .vacant ∧ (t.bay b).role = r.role))
      ∧ (intake .intakeOpen ∨ intake .intakeCheck → r.cause = none → rep.sensed = true → ¬ cool →
          entered t .returnRejected 60 ∧ swapping t ∧ (t.bay b).state = .faulted ∧ queued t .unlock)
      ∧ (intake .intakeCheck → r.state = .admitting → r.sensed = true → rep.sensed = false →
          entered t .intakeOpen 90 ∧ swapping t ∧ (t.bay b).state = .vacant ∧ (t.bay b).pack = none
            ∧ (e.abort = false → queued t .unlock)
            ∧ (e.abort = true → queued t .unlock → queued s .unlock))
      ∧ (intake .returnRejected → rep.sensed = false → rep.door = .closed →
          ended t 4 ∧ handedBack t ∧ queued t .lock ∧ (t.bay b).relock = true
            ∧ (r.sensed = true → r.state = .faulted → r.cause = some .packError →
                (t.bay b).state = .vacant ∧ (t.bay b).cause = none))
      ∧ (take .takeOpen → e.intake ≠ some b → r.sensed = true → rep.sensed = false →
          t.claim? e.claim = none ∧ (t.bay b).state = .vacant ∧ (t.bay b).pack = none ∧ (t.bay b).cause = none
            ∧ (rep.door = .opened → entered t .takeClosing 30)
            ∧ (rep.door = .closed → ended t 1 ∧ queued t .lock ∧ (t.bay b).relock = true))
      ∧ (take .takeOpen → e.abort = true → rep.sensed = true → rep.count = r.count → rep.restart = false →
          rep.door = .closed → rep.latch = .locked → ended t 2 ∧ handedBack t)
      ∧ (∀ c, take .takeOpen → r.state ≠ .vacant → rep.sensed = true → rep.count ≠ r.count ∨ rep.restart = true →
          s.claim? e.claim = some c → c.state = .swapping → c.takeBay = some b →
          let fit (n : BayNo) : Prop := (s.bay n).candidate c.cls = true ∧ (s.bay n).readyFor c.level = true
          let own : BaySection := if c.id.origin = .gateway then .booked else .walkup
          let across : Prop := if c.id.origin = .gateway then c.due ≤ s.clock.time + s.params.horizon
            else ∀ k ∈ s.book.claims, k.id.origin = .gateway → k.state = .waiting →
              s.clock.time + s.params.horizon < k.due
          (t.bay b).role = .none ∧ (t.bay b).matched = none ∧ (t.bay b).pack = none ∧ queued t .lock
            ∧ (t.bay b).relock = true
            ∧ t.sent .gateway (s.notice .claimUnmatched (.claim e.claim) 5 (bayNumber b))
            ∧ (e.abort = true → ended t 2 ∧ handedBack t)
            ∧ (e.abort = false → (∀ n, fit n → (s.bay n).bsection ≠ own ∧ ¬ across) → ended t 6 ∧ handedBack t)
            ∧ (e.abort = false → ∀ n, fit n → ((s.bay n).bsection = own
                  ∨ (across ∧ ∀ m, fit m → (s.bay m).bsection ≠ own)) →
                (∀ m, fit m → (s.bay m).bsection = (s.bay n).bsection →
                  (s.bay m).soc < (s.bay n).soc ∨ ((s.bay m).soc = (s.bay n).soc ∧ n ≤ m)) →
                t.exch x = some { e with phase := .takeOpen, take := some n, deadline := 60, relink := false }
                ∧ (t.bay n).role = .take x ∧ (t.bay n).matched = some e.claim
                ∧ (∃ d, t.claim? e.claim = some d ∧ d.state = .swapping ∧ d.takeBay = some n ∧ d.terms = c.terms)
                ∧ t.sent .gateway (s.notice .claimMatched (.claim e.claim) 4 (bayNumber n))
                ∧ t.sent .terminal (s.notice .swapPhase (.claim e.claim) (Phase.takeOpen.code + 1) (x.val + 1))
                ∧ ∃ k ∈ t.bus.queue ++ t.bus.overflow, k.bay = n ∧ k.cmd = .unlock))
      ∧ (take .takeClosing →
          (rep.door = .closed → ended t 1 ∧ queued t .lock ∧ (t.bay b).relock = true)
          ∧ (rep.door = .opened → t.exch x = some e ∧ (t.bay b).role = r.role))

/-! ### The bay bus (chapter 8) -/

/-- O49. R136, R137: BUS_DISPATCH on an idle bus; and LOCK_ALL_SENT with LOCK-ALL in flight (R129). -/
def Obligations.BusTurns : Prop :=
  State.reset.bus.sent = 0 ∧ State.reset.bus.nextPoll = 0 ∧ ∀ s : State,
    (s.bus.flight = none → s.bus.lockAllPending = true →
      exec .busDispatch s
        = .next { s with bus := { s.bus with flight := some .lockAll, lockAllPending := false } })
    ∧ (∀ e rest, s.bus.flight = none → s.bus.lockAllPending = false → s.bus.queue = e :: rest →
        s.bus.sent < 4 →
        exec .busDispatch s = .next { s with bus :=
          { s.bus with queue := rest, flight := some (.command e true), sent := s.bus.sent + 1 } })
    ∧ (s.bus.flight = none → s.bus.lockAllPending = false → s.bus.queue = [] ∨ 4 ≤ s.bus.sent →
        exec .busDispatch s = .next { s with bus :=
          { s.bus with flight := some (.poll s.bus.nextPoll), sent := 0,
                       nextPoll := if s.bus.nextPoll = 23 then 0 else s.bus.nextPoll + 1 } })
    ∧ (s.bus.flight = some .lockAll → ∃ t : State, exec .lockAllSent s = .next t
        ∧ t = { s with bus := { s.bus with flight := none, queue := t.bus.queue, overflow := t.bus.overflow } }
        ∧ t.bus.queue ++ t.bus.overflow = s.bus.queue ++ s.bus.overflow)

/-- O50. R129, R132, R135, R138, R139: a transaction to a bay that draws no reply, one that fails its check or
one that carries another address is a miss; the third in a row makes the bay LOST and leaves it nothing in the
queue, and before that a command goes back to the tail until its third attempt, on which it is dropped and its
owner told: what the owner queues for it starts at attempt count 0, and a LOCK whose bay is not on the relock
list is not queued again (R122). A bay that becomes LOST keeps its record and sends BAY-LINK; an eligible one has its
grant cut (R15, R17, R101); a MATCHED or READY claim loses it with CLAIM-UNMATCHED LINK (R15, R70); its admission is
held (R24). As intake bay it ends its exchange LINK-LOST in INTAKE-OPEN and INTAKE-CHECK, on the relock list and the
return watch, the claim handed back, and moves it in no other phase; as take bay its binding is released before the
take and kept in TAKE-OPEN and TAKE-CLOSING (R124, R125). LINK-DOWN is raised when the last bay becomes LOST (R140).
The notices' details, LINK-DOWN's 1 for RAISED and BAY-LINK's 3 for LOST with value 0 among them, are the model's
choice (log entry 14). -/
def Obligations.MissCounts : Prop :=
  ∀ (s : State) (fl : Flight) (b : BayNo), s.bus.flight = some fl → fl.bay? = some b →
    let r := s.bay b
    let lost := 2 ≤ r.misses ∧ r.link ≠ .lost
    let allLost := lost ∧ ∀ c, c ≠ b → (s.bay c).link = .lost
    let unmatched (t : State) (id : ClaimId) := (t.bay b).matched = none
      ∧ t.sent .gateway (s.notice .claimUnmatched (.claim id) 3 (bayNumber b))
    let stopped (t : State) :=
      t.sent .gateway (s.notice .bayLink (.bay b) 3 0) ∧ (t.bay b).pack = r.pack
        ∧ (s.eligible b = true → (t.bay b).grant = 0 ∧ t.grants.replan = true
            ∧ (r.grant ≠ 0 → t.sent .cabinet (s.notice .grantCut (.bay b) 1 0)))
        ∧ (t.bay b).admission = r.admission.map (fun a => { a with held := true })
        ∧ (r.state = .admitting → (t.bay b).state = .admitting)
        ∧ (∀ c, r.matched = some c.id → s.claim? c.id = some c → c.takeBay = some b →
            c.state = .matched ∨ c.state = .ready →
            unmatched t c.id ∧ ∀ d, t.claim? c.id = some d → d.takeBay ≠ some b ∧ d.terms = c.terms)
        ∧ (∀ y, r.role ≠ .intake y → r.role ≠ .take y → t.exch y = s.exch y)
        ∧ ∀ x e, s.exch x = some e →
          (r.role = .intake x → e.intake = some b →
            (e.phase = .intakeOpen ∨ e.phase = .intakeCheck →
                t.exch x = none ∧ (∀ n, e.intake = some n ∨ e.take = some n → (t.bay n).role = .none)
                ∧ (t.bay b).relock = true ∧ (t.bay b).watch = some { claim := e.claim, outcome := .linkLost }
                ∧ t.sent .terminal (s.notice .swapEnd (.claim e.claim) 7 (x.val + 1))
                ∧ ∀ c d, s.claim? e.claim = some c → t.claim? e.claim = some d →
                    d.state ≠ .swapping ∧ d.terms = c.terms)
            ∧ (e.phase ≠ .intakeOpen → e.phase ≠ .intakeCheck → t.exch x = some e ∧ (t.bay b).role = r.role))
          ∧ (r.role = .take x → e.take = some b →
            (∀ c, e.phase ≠ .takeOpen → e.phase ≠ .takeClosing → r.matched = some e.claim →
                s.claim? e.claim = some c → c.state = .swapping → c.takeBay = some b →
                t.exch x = some { e with take := none } ∧ (t.bay b).role = .none ∧ unmatched t e.claim
                ∧ ∃ d, t.claim? e.claim = some d ∧ d.state = .swapping ∧ d.takeBay = none ∧ d.terms = c.terms)
            ∧ (e.phase = .takeOpen ∨ e.phase = .takeClosing → t.exch x = some e ∧ (t.bay b).role = r.role
                ∧ ∀ c, s.claim? e.claim = some c → c.state = .swapping → r.matched = some e.claim →
                    (t.bay b).matched = r.matched
                    ∧ ∃ d, t.claim? e.claim = some d ∧ d.state = .swapping ∧ d.takeBay = c.takeBay
                        ∧ d.terms = c.terms))
    let missed (t : State) :=
      t.bus.flight = none
        ∧ (t.bay b).reported = (r.door, r.latch, r.sensed, r.count, r.lastTemp, r.lastFault,
            (if 2 ≤ r.misses then .lost else r.link), min 3 (r.misses + 1), min 255 (r.missCount + 1))
        ∧ (∀ c, c ≠ b → (t.bay c).reported = (s.bay c).reported) ∧ t.settings = s.settings
        ∧ t.grants.settings = s.grants.settings ∧ t.bus.sent = s.bus.sent ∧ t.bus.nextPoll = s.bus.nextPoll
        ∧ (lost → stopped t)
        ∧ (¬allLost → t.faults = s.faults)
        ∧ (allLost → t.faults = { s.faults with linkDown := some (s.faults.linkDown.getD s.clock.time) }
            ∧ t.sent .gateway (s.notice .linkDown .none 1 0))
    let waiting (u : Bus) := u.queue ++ u.overflow
    (∃ t : State, exec .answerPeriodTimeout s = .next t ∧ missed t ∧ t.bus.addrErrors = s.bus.addrErrors
      ∧ (∀ a rep ans, exec (.bayReply false a rep ans) s = .next t)
      ∧ (lost → ∀ e ∈ waiting t.bus, e.bay ≠ b)
      ∧ (∀ e, fl = .command e true → r.misses < 2 → r.link ≠ .lost → e.attempts < 2 → s.passDue = false →
          t.bus.queue = s.bus.queue ++ [{ e with attempts := e.attempts + 1 }]
            ∧ t.bus.overflow = s.bus.overflow)
      ∧ (∀ e, fl = .command e true → r.misses < 2 → r.link ≠ .lost → 2 ≤ e.attempts → s.bus.ok →
          (∀ k ∈ waiting t.bus, k.bay = b → k.cmd.group = e.cmd.group → k.attempts = 0)
          ∧ (e.cmd = .lock → s.passDue = false → waiting t.bus = waiting s.bus
              ++ (if r.relock then [{ e with attempts := 0 }] else []))))
    ∧ ∀ (a : Byte) (rep : ShortReport) (ans : Answer), a.toNat ≠ bayNumber b →
        ∃ t : State, exec (.bayReply true a rep ans) s = .next t ∧ missed t
          ∧ t.bus.addrErrors = min 65535 (s.bus.addrErrors + 1)

/-- O51. R142: READ-LINK-COUNTERS. That the LINK-DOWN byte is 1 while it stands is the model's choice (log entry
9). -/
def Obligations.ReadLinkCounters : Prop :=
  ∀ s : State, s.free .gateway → ∃ u : State,
    exec (.readLinkCounters .gateway) s = .next (u.success .gateway .readLinkCounters
      (allBays.flatMap (fun b => [BitVec.ofNat 8 (s.bay b).link.code, BitVec.ofNat 8 (s.bay b).misses,
          BitVec.ofNat 8 (s.bay b).missCount])
        ++ halfBytes (BitVec.ofNat 16 s.bus.addrErrors)
        ++ [BitVec.ofNat 8 s.bus.count, BitVec.ofNat 8 s.bus.overflow.length,
            if s.faults.linkDown.isSome then 1 else 0]))
    ∧ u = { s with bays := u.bays, bus := { s.bus with addrErrors := 0 } }
    ∧ ∀ b, u.bay b = { s.bay b with missCount := 0 }

/-- O52. R133, R134: the link command queue keeps its rules at every step; and, operation by operation, when a
command is placed or withdrawn, when a transaction ends and when the arbiter sends. A placed command is the one
entry of its bay and group, and every entry of another bay or group stays, in its order. -/
def Obligations.QueueRules : Prop :=
  (∀ s t : State, s.bus.ok → step s = .next t → t.bus.ok)
  ∧ ∀ (u : Bus) (b : BayNo) (c : BusCmd), u.ok →
    let other (e : Entry) := !(decide (e.bay = b) && decide (e.cmd.group = c.group))
    (u.place b c).ok
    ∧ ((u.place b c).queue ++ (u.place b c).overflow).filter (fun e => !other e)
        = [{ bay := b, cmd := c, attempts := 0 }]
    ∧ ((u.place b c).queue ++ (u.place b c).overflow).filter other = (u.queue ++ u.overflow).filter other
    ∧ (u.withdraw b c.group).ok
    ∧ (u.withdraw b c.group).queue ++ (u.withdraw b c.group).overflow = (u.queue ++ u.overflow).filter other
    ∧ u.land.ok ∧ u.land.flight = none ∧ (u.dropBay b).ok
    ∧ (u.flight = none → u.dispatch.ok ∧ u.dispatch.flight ≠ none)

/-! ### Faults (chapter 9) -/

/-- O53. R148, R151: raising a cause on a bay that holds none faults it, ends its admission and its
eligibility; on a bay that holds one, the cause of higher precedence stands: HOT, PACK-ERROR, PACK-MISSING,
the two of the door, CHARGE, PROFILE. -/
def Obligations.FaultPrecedence : Prop :=
  ∀ (s : State) (b : BayNo) (k : FaultCause) (value : Nat) (ending : Bool),
    let order : List (List FaultCause) :=
      [[.hot], [.packError], [.packMissing], [.doorForced, .doorAjar], [.charge], [.profile]]
    let place (c : FaultCause) := order.findIdx (fun group => decide (c ∈ group))
    let t := s.raiseFault b k value ending
    ((s.bay b).cause = none →
      (t.bay b).cause = some k ∧ (t.bay b).state = .faulted ∧ (t.bay b).admission = none
        ∧ (s.eligible b = true → (t.bay b).grant = 0 ∧ t.grants.replan = true)
        ∧ ((s.bay b).admission.isSome = true → k = .packError → (t.bay b).pack = none))
    ∧ (∀ old, (s.bay b).cause = some old →
        (t.bay b).cause = some (if place k < place old then k else old) ∧ (t.bay b).state = (s.bay b).state
          ∧ (¬ place k < place old → t = s))
    ∧ t.settings = s.settings ∧ t.grants.settings = s.grants.settings ∧ t.faults = s.faults
    ∧ ∀ c, (t.bay c).reported = (s.bay c).reported

/-- O54. R153: CLEAR-BAY-FAULT, its checks in their order, and what an accepted one leaves. -/
def Obligations.ClearBayFault : Prop :=
  ∀ (n : Byte) (s : State), s.free .gateway →
    let row := Instr.clearBayFault .gateway n
    let refused (c : RefusalCode) (more : List Byte) := exec row s = .next (s.refusal .gateway 0x52 c more)
    (n.toNat = 0 ∨ 24 < n.toNat → refused .badField [])
    ∧ ∀ b : BayNo, n.toNat = bayNumber b →
      let r := s.bay b
      (r.role ≠ .none → refused .bayBusy [])
      ∧ (r.role = .none →
        (r.link ≠ .reachable → refused .faultPresent [1])
        ∧ (r.link = .reachable → r.door = .opened → refused .faultPresent [2])
        ∧ (r.link = .reachable → r.door = .closed → r.sensed = true → 65 ≤ r.lastTemp →
            refused .faultPresent [3])
        ∧ (r.link = .reachable → r.door = .closed → r.sensed = true → r.lastTemp < 65 → r.lastFault = true →
            refused .faultPresent [4])
        ∧ (r.link = .reachable → r.door = .closed →
            (r.sensed = true → r.lastTemp < 65 ∧ r.lastFault = false) →
            (r.cause = none → exec row s = .next (s.success .gateway (.clearBayFault n)
              [n, 0, BitVec.ofNat 8 r.state.code]))
            ∧ ∀ k, r.cause = some k → ∃ u : State,
              exec row s = .next (u.success .gateway (.clearBayFault n)
                [n, BitVec.ofNat 8 k.code, BitVec.ofNat 8 (u.bay b).state.code])
              ∧ (u.bay b).cause = none ∧ u.settings = s.settings ∧ u.exchanges = s.exchanges
              ∧ u.grants.settings = s.grants.settings ∧ u.faults = s.faults
              ∧ (∀ c, c ≠ b → (u.bay c).base = (s.bay c).base)
              ∧ (r.pack = none → r.sensed = false → (u.bay b).state = .vacant ∧ u.admissions = s.admissions)
              ∧ (r.pack = none → r.sensed = true → (u.bay b).state = .admitting
                  ∧ (u.bay b).inForce = r.staged ∧ (u.bay b).ceiling = none
                  ∧ (u.bay b).admission = some { cause := .insertion, attempts := 1, held := false,
                                                 number := s.admissions + 1 })
              ∧ (r.pack.isSome = true → (u.bay b).state = .admitting ∧ (u.bay b).inForce = r.inForce
                  ∧ (u.bay b).ceiling = r.ceiling ∧ (u.bay b).pack = r.pack
                  ∧ (u.bay b).admission = some { cause := .faultClear, attempts := 1, held := false,
                                                 number := s.admissions + 1 })))

/-- O55. R143, R144, R146: WRITE-DERATE-ROW, and the bands and caps after it. -/
def Obligations.WriteDerateRow : Prop :=
  ∀ (n bound pctS pctM pctL : Byte) (s : State), s.free .gateway →
    let row := Instr.writeDerateRow .gateway n bound pctS pctM pctL
    let t := bound.toInt
    (n.toNat = 0 ∨ 8 < n.toNat → exec row s = .next (s.refusal .gateway 0x50 .badField []))
    ∧ ∀ i : RowNo, n.toNat = i.val + 1 →
      let fits := -40 ≤ t ∧ t ≤ 85
        ∧ ∀ j : RowNo, (j.val + 1 = i.val → (s.derate.get j).bound < t)
            ∧ (i.val + 1 = j.val → t < (s.derate.get j).bound)
      let new : DerateRow :=
        { bound := t, pctS := min 100 pctS.toNat, pctM := min 100 pctM.toNat, pctL := min 100 pctL.toNat }
      (¬fits → exec row s = .next (s.refusal .gateway 0x50 .badField []))
      ∧ (fits → ∃ u : State,
          exec row s = .next (u.success .gateway (.writeDerateRow n bound pctS pctM pctL)
            [n, bound, BitVec.ofNat 8 new.pctS, BitVec.ofNat 8 new.pctM, BitVec.ofNat 8 new.pctL])
          ∧ (s.derate.get i = new → u = s)
          ∧ u.derate.get i = new ∧ (∀ j, j ≠ i → u.derate.get j = s.derate.get j)
          ∧ u.pending = s.pending ∧ u.clock = s.clock ∧ u.params = s.params ∧ u.schedule = s.schedule
          ∧ u.exchanges = s.exchanges ∧ u.faults = s.faults ∧ u.grants.settings = s.grants.settings
          ∧ (∀ b, (u.bay b).reported = (s.bay b).reported ∧ (u.bay b).pack = (s.bay b).pack
              ∧ (u.bay b).role = (s.bay b).role ∧ (u.bay b).cause = (s.bay b).cause)
          ∧ (s.derate.get i ≠ new → u.grants.replan = true ∧ ∀ b q, (s.bay b).pack = some q →
              (u.bay b).band = some (bandOf u.derate q.temp)
              ∧ (bandOf u.derate q.temp = .row i →
                  (u.bay b).cap = u.capOf b ∧ (u.bay b).grant ≤ u.capOf b)
              ∧ (∀ j, bandOf u.derate q.temp = .row j ↔ q.temp ≤ (u.derate.get j).bound
                  ∧ ∀ k, k < j → (u.derate.get k).bound < q.temp)))

/-! ### The clock, the parameters and the schedule (chapter 10) -/

/-- O56. R155, R156: SET-TIME by the clock state and the step. Of every accepted one that changes the time each port is
sent CLOCK-STEPPED. A TRIM shifts no stored time: the owners act on the new time as at an advance (R54, R162), and
what is not due stays, but that a claim may enter READY first, which gives a walk-up its hold (R55). SET and SHIFT
move every stored time with the clock and do nothing else. The model's choice: the reply's mode byte, 1, 2 and 3 for
SET, TRIM and SHIFT and 0 for none (log entry 10); 1 for the clock state SET (log entry 9); the details of
CLOCK-STEPPED and of the schedule's notices (log entry 14); that the kiosk time CLOCK-STEPPED carries is the new one
(log entry 12); and that an expiry or a window's end beyond 32 bits, of which nothing is said here, is a free value
(log entry 3). -/
def Obligations.SetTime : Prop :=
  ∀ (w : Word) (s : State), s.free .gateway → s.bookOk →
    let row := Instr.setTime .gateway w
    let n := w.toNat
    let step : Int := (w.toNat : Int) - (s.clock.time : Int)
    let near := -120 ≤ step ∧ step ≤ 120
    let blocked := (∃ c ∈ s.book.claims, c.id.origin = .gateway) ∨ s.schedule.directives ≠ []
      ∨ s.schedule.windows ≠ []
    let moved (t : Nat) : Nat := min 4294967295 (t + step).toNat
    let due := s.schedule.directives.filter (fun d => decide (d.time ≤ n))
    let kept := s.schedule.windows.filter (fun v => decide (n < v.stop))
    let window (d : Directive) : Prop := d.kind = .reserveWindow ∨ d.kind = .closeWalkupWindow
    (s.clock.isSet = true → step = 0 →
      exec row s = .next (s.success .gateway (.setTime w) (wordBytes w ++ [1, 0])))
    ∧ (s.clock.isSet = true → ¬near → blocked → exec row s = .next (s.refusal .gateway 0x60 .clockStep []))
    ∧ (s.clock.isSet = true → near → step ≠ 0 → ∃ u : State,
        exec row s = .next (u.success .gateway (.setTime w) (wordBytes w ++ [1, 2]))
        ∧ u.pending = s.pending ∧ u.clock = { time := n, isSet := true } ∧ u.exchanges = s.exchanges
        ∧ u.faults = s.faults ∧ u.derate = s.derate ∧ u.admissions = s.admissions
        ∧ u.bus.settings = s.bus.settings ∧ u.book.seq = s.book.seq
        ∧ u.grants.settings = { s.grants.settings with usable := u.grants.usable }
        ∧ (∀ p, u.sent p (u.notice .clockStepped .none 2 n) ∧ (u.ports.get p).line = (s.ports.get p).line)
        ∧ (∀ b, (u.bay b).reported = (s.bay b).reported ∧ (u.bay b).role = (s.bay b).role
            ∧ (u.bay b).pack = (s.bay b).pack ∧ (u.bay b).cause = (s.bay b).cause)
        ∧ (∀ id d, u.claim? id = some d → ∃ c, s.claim? id = some c
            ∧ d.terms = c.terms ∧ d.projected = c.projected
            ∧ (d.firstReady = c.firstReady ∧ d.expiry = c.expiry
              ∨ c.firstReady = none ∧ d.firstReady = some n ∧ d.state = .ready
                ∧ (id.origin = .gateway → d.expiry = c.expiry)
                ∧ (id.origin = .terminal → n + 180 ≤ 4294967295 → d.expiry = n + 180)))
        ∧ (∀ id c, s.claim? id = some c →
            (c.state = .swapping ∨ n < c.expiry → (u.claim? id).isSome = true)
            ∧ (c.state ≠ .swapping → c.expiry ≤ n → u.claim? id = none))
        ∧ u.schedule.directives = s.schedule.directives.filter (fun d => decide (n < d.time))
        ∧ u.params = due.foldl (fun q d => q.write d.kind (d.value.getD 0)) s.params
        ∧ (∀ d ∈ due, u.sent .gateway (u.notice .directiveRun (.directive d.number) (d.kind.code + 1)
            (if window d then d.duration.getD 0 else d.value.getD 0)))
        ∧ (∀ v ∈ s.schedule.windows, v.stop ≤ n → u.sent .gateway (u.notice .windowEnd (.directive v.number) 1
            (if v.kind = .reserveWindow then v.value.getD 0 else 0)))
        ∧ ((∀ d ∈ due, ¬ window d) → u.schedule.windows = kept)
        ∧ (∀ v ∈ kept, v ∈ u.schedule.windows)
        ∧ (∀ v ∈ u.schedule.windows, v ∈ kept ∨ ∃ d ∈ due, window d
            ∧ (v.number, v.kind, v.value, v.start) = (d.number, d.kind, d.value, n)
            ∧ (n + d.duration.getD 0 ≤ 4294967295 → v.stop = n + d.duration.getD 0))
        ∧ u.schedule.effective = reserveOf u.params.reserve u.schedule.windows
        ∧ (u.schedule.walkupsOpen = true ↔ ∀ v ∈ u.schedule.windows, v.kind ≠ .closeWalkupWindow)
        ∧ (u.schedule.effective ≠ s.schedule.effective → u.grants.usable = u.budget)
        ∧ (u.schedule.effective = s.schedule.effective → u.grants.usable = s.grants.usable))
    ∧ (s.clock.isSet = false ∨ (¬near ∧ ¬blocked) →
        let mode := if s.clock.isSet then 3 else 1
        ∃ u : State,
        exec row s = .next (u.success .gateway (.setTime w) (wordBytes w ++ [1, if s.clock.isSet then 3 else 1]))
        ∧ u = { s with clock := { time := n, isSet := true }, ports := u.ports, exchanges := u.exchanges,
                       book := { s.book with claims := u.book.claims },
                       faults := { linkDown := s.faults.linkDown.map moved
                                   feedStale := s.faults.feedStale.map moved
                                   halt := s.faults.halt.map moved } }
        ∧ (step = 0 → u.ports = s.ports)
        ∧ (step ≠ 0 → u.ports = s.ports.post (u.notice .clockStepped .none mode n)
            ∧ ∀ p, u.sent p (u.notice .clockStepped .none mode n))
        ∧ (∀ p, (u.ports.get p).line = (s.ports.get p).line)
        ∧ (∀ x, u.exch x = (s.exch x).map (fun e => { e with start := moved e.start }))
        ∧ u.book.claims.length = s.book.claims.length
        ∧ ∀ id, u.claim? id = (s.claim? id).map (fun c =>
            { c with openTime := moved c.openTime, due := moved c.due, expiry := moved c.expiry,
                     firstReady := c.firstReady.map moved, projected := c.projected.map moved }))

/-- O57. R157, R158: SET-KIOSK-PARAMS: clamps, the write as one change, and what a changed reserve, fill
target and split line do. -/
def Obligations.SetKioskParams : Prop :=
  ∀ (present : Byte) (reserve : Word) (socBand feedBand horizon level fill : Half) (split downshift : Byte)
    (s : State), s.free .gateway →
    let row := Instr.setKioskParams .gateway present reserve socBand feedBand horizon level fill split
      downshift
    let pick (bit value old : Nat) := if present.getLsbD bit then value else old
    (present = 0 → exec row s = .next (s.refusal .gateway 0x61 .badField []))
    ∧ (present ≠ 0 → ∃ u : State,
        exec row s = .next (u.success .gateway (.setKioskParams present reserve socBand feedBand horizon level
          fill split downshift) u.params.bytes)
        ∧ u.params.bytes.length = 17
        ∧ u.params = {
            reserve := pick 0 (min 96000 reserve.toNat) s.params.reserve
            socBand := pick 1 (min 100 socBand.toNat) s.params.socBand
            feedBand := pick 2 (min 5000 feedBand.toNat) s.params.feedBand
            horizon := pick 3 (min 7200 horizon.toNat) s.params.horizon
            level := pick 4 (min 1000 (max 500 level.toNat)) s.params.level
            fill := pick 5 (min 1000 (max 600 fill.toNat)) s.params.fill
            split := pick 6 (min 24 split.toNat) s.params.split
            downshift := pick 7 (min 8 (max 1 downshift.toNat)) s.params.downshift }
        ∧ (u.params = s.params → u = s)
        ∧ u.pending = s.pending ∧ u.clock = s.clock ∧ u.derate = s.derate ∧ u.exchanges = s.exchanges
        ∧ u.faults = s.faults ∧ u.schedule.directives = s.schedule.directives
        ∧ u.schedule.windows = s.schedule.windows
        ∧ (∀ b, (u.bay b).reported = (s.bay b).reported ∧ (u.bay b).pack = (s.bay b).pack
            ∧ (u.bay b).role = (s.bay b).role ∧ (u.bay b).cause = (s.bay b).cause)
        ∧ (u.params ≠ s.params → u.schedule.effective = reserveOf u.params.reserve s.schedule.windows)
        ∧ (u.schedule.effective ≠ s.schedule.effective → u.grants.usable = u.budget)
        ∧ (u.schedule.effective < s.schedule.effective → u.grants.replan = true)
        ∧ (u.params.split ≠ s.params.split → ∀ b,
            (u.bay b).bsection = (if bayNumber b ≤ u.params.split then .booked else .walkup))
        ∧ (u.params.split = s.params.split → ∀ b, (u.bay b).bsection = (s.bay b).bsection)
        ∧ (u.params.fill ≠ s.params.fill → ∀ b q, (u.bay b).pack = some q →
            ((u.bay b).state = .charging → q.soc < u.fillTarget b)
            ∧ ((u.bay b).state = .topped → u.fillTarget b ≤ q.soc + 30)))

/-- O58. R160, R164: ADD-DIRECTIVE, CLEAR-DIRECTIVES and END-WINDOWS. That the ADD-DIRECTIVE reply gives the value
and the duration 4 bytes each, with a presence byte before the value and 0 for an absent duration, is the
model's choice (log entry 10), as is WINDOW-END's detail 2 for ENDED (log entry 14). END-WINDOWS changes no bay but
its grant, which does not rise, and no port but its notices. -/
def Obligations.ScheduleRequests : Prop :=
  ∀ s : State, s.free .gateway →
    (∀ (kind : Byte) (time value duration : Word),
      let row := Instr.addDirective .gateway kind time value duration
      let refused (c : RefusalCode) := exec row s = .next (s.refusal .gateway 0x63 c [])
      (6 < kind.toNat → refused .badField)
      ∧ (kind.toNat ≤ 6 → s.clock.isSet = false → refused .clockUnset)
      ∧ (kind.toNat ≤ 6 → s.clock.isSet = true → 32 ≤ s.schedule.directives.length → refused .scheduleFull)
      ∧ ∀ k, kindOfByte kind = some k → s.clock.isSet = true → s.schedule.directives.length < 32 →
          ∃ (d : Directive) (l r : List Directive) (payload : List Byte),
            exec row s = .next ({ s with schedule :=
                { s.schedule with directives := l ++ d :: r, counter := d.number } }.success .gateway
                (.addDirective kind time value duration) payload)
            ∧ payload = halfBytes (BitVec.ofNat 16 d.number)
                ++ (match d.value with
                  | none => [0, 0, 0, 0, 0]
                  | some v => 1 :: wordBytes (BitVec.ofNat 32 v))
                ++ wordBytes (BitVec.ofNat 32 (d.duration.getD 0))
                ++ [BitVec.ofNat 8 (31 - s.schedule.directives.length)]
            ∧ s.schedule.directives = l ++ r ∧ (∀ e ∈ l, e.time ≤ d.time) ∧ (∀ e ∈ r.head?, d.time < e.time)
            ∧ d.kind = k ∧ d.time = time.toNat ∧ 1 ≤ d.number ∧ d.number ≤ 65535
            ∧ (s.schedule.windows.length ≤ 8 → (∀ e ∈ s.schedule.directives, e.number ≠ d.number)
                ∧ ∀ v ∈ s.schedule.windows, v.number ≠ d.number)
            ∧ d.value = (match k with
                | .reserve | .reserveWindow => some (min 96000 value.toNat)
                | .split => some (min 24 value.toNat)
                | .walkupLevel => some (min 1000 (max 500 value.toNat))
                | .target => some (min 1000 (max 600 value.toNat))
                | .horizon => some (min 7200 value.toNat)
                | .closeWalkupWindow => none)
            ∧ d.duration = (if k = .reserveWindow ∨ k = .closeWalkupWindow then
                some (min 86400 (max 60 duration.toNat)) else none))
    ∧ (∀ kind : Byte,
      let row := Instr.clearDirectives .gateway kind
      (6 < kind.toNat → kind ≠ 0xFF → exec row s = .next (s.refusal .gateway 0x64 .badField []))
      ∧ ∀ goes : DirKind → Bool,
          (kind = 0xFF → ∀ j, goes j = true) →
          (kind ≠ 0xFF → ∃ k, kindOfByte kind = some k ∧ ∀ j, goes j = decide (j = k)) →
          let kept := s.schedule.directives.filter (fun d => !goes d.kind)
          exec row s = .next ({ s with schedule := { s.schedule with directives := kept } }.success .gateway
            (.clearDirectives kind)
            [BitVec.ofNat 8 (s.schedule.directives.length - kept.length), BitVec.ofNat 8 (32 - kept.length)]))
    ∧ ∃ u : State,
        exec (.endWindows .gateway) s = .next (u.success .gateway .endWindows
          (BitVec.ofNat 8 s.schedule.windows.length :: wordBytes (BitVec.ofNat 32 s.params.reserve)))
        ∧ u = { s with bays := u.bays, ports := u.ports,
                       grants := { s.grants with usable := u.grants.usable, replan := u.grants.replan },
                       schedule := { s.schedule with windows := [], effective := s.params.reserve,
                                                     walkupsOpen := true } }
        ∧ (∀ b, u.bay b = { s.bay b with grant := (u.bay b).grant } ∧ (u.bay b).grant ≤ (s.bay b).grant)
        ∧ (∀ p, (u.ports.get p).line = (s.ports.get p).line)
        ∧ (∀ w ∈ s.schedule.windows, u.sent .gateway (s.notice .windowEnd (.directive w.number) 2
            (if w.kind = .reserveWindow then w.value.getD 0 else 0)))
        ∧ (s.params.reserve ≠ s.schedule.effective → u.grants.usable = u.budget)
        ∧ (s.params.reserve < s.schedule.effective → u.grants.replan = true)
        ∧ (s.schedule.windows = [] → s.schedule.effective = s.params.reserve →
            s.schedule.walkupsOpen = true → u = s)

/-- O59. R154, R54, R162, R163: CLOCK_ADVANCE. The time moves on by one; the running deadlines and the staleness
timer count down (log entry 5); no claim that could expire is left with its time come; every window whose end has
come is gone, with WINDOW-END; and the directives whose time has come, and no others, leave the schedule: each sends
DIRECTIVE-RUN, those of a parameter kind write their values in schedule order, and a window directive that runs
alone starts a window of its duration, with WINDOW-START, or is dropped with WINDOW-REFUSED when 8 are active. The
model's choice: the details of these notices (log entry 14); that a window's end beyond 32 bits, of which nothing
is said here, is a free value (log entry 3); and that once the time stands at its largest value a second changes
nothing but the countdowns (log entry 11). -/
def Obligations.ClockAdvance : Prop :=
  ∀ s : State, s.bookOk →
    let n := s.clock.time + 1
    let due := s.schedule.directives.filter (fun d => decide (d.time ≤ n))
    let kept := s.schedule.windows.filter (fun w => decide (n < w.stop))
    let window (d : Directive) : Prop := d.kind = .reserveWindow ∨ d.kind = .closeWalkupWindow
    let wrote (q : Params) (d : Directive) : Params :=
      match d.kind with
      | .reserve => { q with reserve := d.value.getD 0 }
      | .split => { q with split := d.value.getD 0 }
      | .walkupLevel => { q with level := d.value.getD 0 }
      | .target => { q with fill := d.value.getD 0 }
      | .horizon => { q with horizon := d.value.getD 0 }
      | .reserveWindow | .closeWalkupWindow => q
    ∃ t : State, exec .clockAdvance s = .next t
      ∧ (∀ x, t.exch x = (s.exch x).map (fun e => { e with deadline := e.deadline - 1 }))
      ∧ t.grants.timer = s.grants.timer.map (fun k => k - 1)
      ∧ t.grants.feed = s.grants.feed ∧ t.grants.watts = s.grants.watts ∧ t.grants.halt = s.grants.halt
      ∧ t.grants.frame = s.grants.frame ∧ t.grants.modules = s.grants.modules
      ∧ t.pending = s.pending ∧ t.derate = s.derate ∧ t.faults = s.faults ∧ t.admissions = s.admissions
      ∧ t.bus.settings = s.bus.settings
      ∧ (∀ b, (t.bay b).reported = (s.bay b).reported ∧ (t.bay b).role = (s.bay b).role
          ∧ (t.bay b).pack = (s.bay b).pack ∧ (t.bay b).cause = (s.bay b).cause)
      ∧ (4294967295 ≤ s.clock.time → t.clock = s.clock ∧ t.book = s.book ∧ t.bays = s.bays
          ∧ t.params = s.params ∧ t.schedule = s.schedule ∧ t.ports = s.ports)
      ∧ (s.clock.time < 4294967295 →
          t.clock = { s.clock with time := n }
          ∧ (∀ id c, s.claim? id = some c → c.state = .swapping ∨ n < c.expiry →
              ∃ d, t.claim? id = some d ∧ d.terms = c.terms)
          ∧ (∀ id c, s.claim? id = some c → c.state ≠ .swapping → c.expiry ≤ n → t.claim? id = none)
          ∧ (n + 180 ≤ 4294967295 → ∀ id c, t.claim? id = some c → c.state ≠ .swapping → n < c.expiry)
          ∧ t.schedule.directives = s.schedule.directives.filter (fun d => decide (n < d.time))
          ∧ t.params = due.foldl wrote s.params
          ∧ (∀ d ∈ due, t.sent .gateway (t.notice .directiveRun (.directive d.number) (d.kind.code + 1)
              (if window d then d.duration.getD 0 else d.value.getD 0)))
          ∧ (∀ w ∈ s.schedule.windows, w.stop ≤ n →
              t.sent .gateway (t.notice .windowEnd (.directive w.number) 1
                (if w.kind = .reserveWindow then w.value.getD 0 else 0)))
          ∧ (due = [] → t.schedule.windows = kept)
          ∧ (∀ d, due = [d] →
              (¬ window d → t.schedule.windows = kept)
              ∧ (window d → 8 ≤ kept.length → t.schedule.windows = kept
                  ∧ t.sent .gateway (t.notice .windowRefused (.directive d.number) (d.kind.code + 1)
                      (d.duration.getD 0)))
              ∧ (window d → kept.length < 8 → ∃ (w : Window) (l r : List Window),
                  t.schedule.windows = l ++ w :: r ∧ kept = l ++ r
                  ∧ (∀ v ∈ l, v.start ≤ n) ∧ (∀ v ∈ r.head?, n < v.start)
                  ∧ (w.number, w.kind, w.value, w.start) = (d.number, d.kind, d.value, n)
                  ∧ (n + d.duration.getD 0 ≤ 4294967295 → w.stop = n + d.duration.getD 0)
                  ∧ t.sent .gateway (t.notice .windowStart (.directive d.number) (d.kind.code + 1) w.stop)))
          ∧ t.schedule.effective = reserveOf t.params.reserve t.schedule.windows
          ∧ (t.schedule.walkupsOpen = true ↔ ∀ w ∈ t.schedule.windows, w.kind ≠ .closeWalkupWindow))

/-! ### Events with nothing to act on -/

/-- O60. The model's choice (log entry 5): an event of a timer or of the bus that cannot come as the part
stands changes nothing. A reply that arrives with no answer period open is discarded (R132). -/
def Obligations.IdleEventsChangeNothing : Prop :=
  ∀ s : State,
    (s.bus.flight ≠ none → exec .busDispatch s = .next s)
    ∧ (s.bus.flight ≠ some .lockAll → exec .lockAllSent s = .next s)
    ∧ (s.bus.flight = none ∨ s.bus.flight = some .lockAll →
        exec .answerPeriodTimeout s = .next s
        ∧ ∀ ok a rep ans, exec (.bayReply ok a rep ans) s = .next s)
    ∧ (s.grants.feed ≠ .current → exec .stalenessTimeout s = .next s)
    ∧ ∀ (x : ExNo) (ph : Phase), (∀ e, s.exch x = some e → e.phase ≠ ph) →
        exec (match ph with
          | .intakeOpen => .intakeOpenDeadline x
          | .intakeCheck => .intakeCheckDeadline x
          | .returnRejected => .returnRejectedDeadline x
          | .takeOpen => .takeOpenDeadline x
          | .takeClosing => .takeClosingDeadline x) s = .next s

end
end

