-- ==== Sys2Proof/Laws/State.lean ====
section
/-! SUPPORT. What each update of the state leaves alone and what it writes: one lemma per update and field, so
that no proof unfolds an update. -/

namespace Sys2Proof.Machine

variable (s : State)

/-! ### setBay -/

@[simp] theorem State.setBay_pending (b : BayNo) (r : Bay) : (s.setBay b r).pending = s.pending := rfl
@[simp] theorem State.setBay_book (b : BayNo) (r : Bay) : (s.setBay b r).book = s.book := rfl
@[simp] theorem State.setBay_grants (b : BayNo) (r : Bay) : (s.setBay b r).grants = s.grants := rfl
@[simp] theorem State.setBay_exchanges (b : BayNo) (r : Bay) : (s.setBay b r).exchanges = s.exchanges := rfl
@[simp] theorem State.setBay_bus (b : BayNo) (r : Bay) : (s.setBay b r).bus = s.bus := rfl
@[simp] theorem State.setBay_derate (b : BayNo) (r : Bay) : (s.setBay b r).derate = s.derate := rfl
@[simp] theorem State.setBay_faults (b : BayNo) (r : Bay) : (s.setBay b r).faults = s.faults := rfl
@[simp] theorem State.setBay_clock (b : BayNo) (r : Bay) : (s.setBay b r).clock = s.clock := rfl
@[simp] theorem State.setBay_params (b : BayNo) (r : Bay) : (s.setBay b r).params = s.params := rfl
@[simp] theorem State.setBay_schedule (b : BayNo) (r : Bay) : (s.setBay b r).schedule = s.schedule := rfl
@[simp] theorem State.setBay_ports (b : BayNo) (r : Bay) : (s.setBay b r).ports = s.ports := rfl
@[simp] theorem State.setBay_admissions (b : BayNo) (r : Bay) : (s.setBay b r).admissions = s.admissions := rfl
@[simp] theorem State.setBay_passDue (b : BayNo) (r : Bay) : (s.setBay b r).passDue = s.passDue := rfl
@[simp] theorem State.setBay_freeCount (b : BayNo) (r : Bay) : (s.setBay b r).freeCount = s.freeCount := rfl
@[simp] theorem State.setBay_exch (b : BayNo) (r : Bay) (y : ExNo) : (s.setBay b r).exch y = s.exch y := rfl
@[simp] theorem State.setBay_claim? (b : BayNo) (r : Bay) (i : ClaimId) : (s.setBay b r).claim? i = s.claim? i := rfl
@[simp] theorem State.setBay_now (b : BayNo) (r : Bay) : (s.setBay b r).now = s.now := rfl

/-! ### modBay -/

@[simp] theorem State.modBay_pending (b : BayNo) (f : Bay → Bay) : (s.modBay b f).pending = s.pending := rfl
@[simp] theorem State.modBay_book (b : BayNo) (f : Bay → Bay) : (s.modBay b f).book = s.book := rfl
@[simp] theorem State.modBay_grants (b : BayNo) (f : Bay → Bay) : (s.modBay b f).grants = s.grants := rfl
@[simp] theorem State.modBay_exchanges (b : BayNo) (f : Bay → Bay) : (s.modBay b f).exchanges = s.exchanges := rfl
@[simp] theorem State.modBay_bus (b : BayNo) (f : Bay → Bay) : (s.modBay b f).bus = s.bus := rfl
@[simp] theorem State.modBay_derate (b : BayNo) (f : Bay → Bay) : (s.modBay b f).derate = s.derate := rfl
@[simp] theorem State.modBay_faults (b : BayNo) (f : Bay → Bay) : (s.modBay b f).faults = s.faults := rfl
@[simp] theorem State.modBay_clock (b : BayNo) (f : Bay → Bay) : (s.modBay b f).clock = s.clock := rfl
@[simp] theorem State.modBay_params (b : BayNo) (f : Bay → Bay) : (s.modBay b f).params = s.params := rfl
@[simp] theorem State.modBay_schedule (b : BayNo) (f : Bay → Bay) : (s.modBay b f).schedule = s.schedule := rfl
@[simp] theorem State.modBay_ports (b : BayNo) (f : Bay → Bay) : (s.modBay b f).ports = s.ports := rfl
@[simp] theorem State.modBay_admissions (b : BayNo) (f : Bay → Bay) : (s.modBay b f).admissions = s.admissions := rfl
@[simp] theorem State.modBay_passDue (b : BayNo) (f : Bay → Bay) : (s.modBay b f).passDue = s.passDue := rfl
@[simp] theorem State.modBay_freeCount (b : BayNo) (f : Bay → Bay) : (s.modBay b f).freeCount = s.freeCount := rfl
@[simp] theorem State.modBay_exch (b : BayNo) (f : Bay → Bay) (y : ExNo) : (s.modBay b f).exch y = s.exch y := rfl
@[simp] theorem State.modBay_claim? (b : BayNo) (f : Bay → Bay) (i : ClaimId) : (s.modBay b f).claim? i = s.claim? i := rfl
@[simp] theorem State.modBay_now (b : BayNo) (f : Bay → Bay) : (s.modBay b f).now = s.now := rfl

/-! ### setExch -/

@[simp] theorem State.setExch_pending (x : ExNo) (e : Option Exchange) : (s.setExch x e).pending = s.pending := rfl
@[simp] theorem State.setExch_bays (x : ExNo) (e : Option Exchange) : (s.setExch x e).bays = s.bays := rfl
@[simp] theorem State.setExch_book (x : ExNo) (e : Option Exchange) : (s.setExch x e).book = s.book := rfl
@[simp] theorem State.setExch_grants (x : ExNo) (e : Option Exchange) : (s.setExch x e).grants = s.grants := rfl
@[simp] theorem State.setExch_bus (x : ExNo) (e : Option Exchange) : (s.setExch x e).bus = s.bus := rfl
@[simp] theorem State.setExch_derate (x : ExNo) (e : Option Exchange) : (s.setExch x e).derate = s.derate := rfl
@[simp] theorem State.setExch_faults (x : ExNo) (e : Option Exchange) : (s.setExch x e).faults = s.faults := rfl
@[simp] theorem State.setExch_clock (x : ExNo) (e : Option Exchange) : (s.setExch x e).clock = s.clock := rfl
@[simp] theorem State.setExch_params (x : ExNo) (e : Option Exchange) : (s.setExch x e).params = s.params := rfl
@[simp] theorem State.setExch_schedule (x : ExNo) (e : Option Exchange) : (s.setExch x e).schedule = s.schedule := rfl
@[simp] theorem State.setExch_ports (x : ExNo) (e : Option Exchange) : (s.setExch x e).ports = s.ports := rfl
@[simp] theorem State.setExch_admissions (x : ExNo) (e : Option Exchange) : (s.setExch x e).admissions = s.admissions := rfl
@[simp] theorem State.setExch_passDue (x : ExNo) (e : Option Exchange) : (s.setExch x e).passDue = s.passDue := rfl
@[simp] theorem State.setExch_freeCount (x : ExNo) (e : Option Exchange) : (s.setExch x e).freeCount = s.freeCount := rfl
@[simp] theorem State.setExch_bay (x : ExNo) (e : Option Exchange) (c : BayNo) : (s.setExch x e).bay c = s.bay c := rfl
@[simp] theorem State.setExch_claim? (x : ExNo) (e : Option Exchange) (i : ClaimId) : (s.setExch x e).claim? i = s.claim? i := rfl
@[simp] theorem State.setExch_now (x : ExNo) (e : Option Exchange) : (s.setExch x e).now = s.now := rfl

/-! ### modExch -/

@[simp] theorem State.modExch_pending (x : ExNo) (f : Exchange → Exchange) : (s.modExch x f).pending = s.pending := rfl
@[simp] theorem State.modExch_bays (x : ExNo) (f : Exchange → Exchange) : (s.modExch x f).bays = s.bays := rfl
@[simp] theorem State.modExch_book (x : ExNo) (f : Exchange → Exchange) : (s.modExch x f).book = s.book := rfl
@[simp] theorem State.modExch_grants (x : ExNo) (f : Exchange → Exchange) : (s.modExch x f).grants = s.grants := rfl
@[simp] theorem State.modExch_bus (x : ExNo) (f : Exchange → Exchange) : (s.modExch x f).bus = s.bus := rfl
@[simp] theorem State.modExch_derate (x : ExNo) (f : Exchange → Exchange) : (s.modExch x f).derate = s.derate := rfl
@[simp] theorem State.modExch_faults (x : ExNo) (f : Exchange → Exchange) : (s.modExch x f).faults = s.faults := rfl
@[simp] theorem State.modExch_clock (x : ExNo) (f : Exchange → Exchange) : (s.modExch x f).clock = s.clock := rfl
@[simp] theorem State.modExch_params (x : ExNo) (f : Exchange → Exchange) : (s.modExch x f).params = s.params := rfl
@[simp] theorem State.modExch_schedule (x : ExNo) (f : Exchange → Exchange) : (s.modExch x f).schedule = s.schedule := rfl
@[simp] theorem State.modExch_ports (x : ExNo) (f : Exchange → Exchange) : (s.modExch x f).ports = s.ports := rfl
@[simp] theorem State.modExch_admissions (x : ExNo) (f : Exchange → Exchange) : (s.modExch x f).admissions = s.admissions := rfl
@[simp] theorem State.modExch_passDue (x : ExNo) (f : Exchange → Exchange) : (s.modExch x f).passDue = s.passDue := rfl
@[simp] theorem State.modExch_freeCount (x : ExNo) (f : Exchange → Exchange) : (s.modExch x f).freeCount = s.freeCount := rfl
@[simp] theorem State.modExch_bay (x : ExNo) (f : Exchange → Exchange) (c : BayNo) : (s.modExch x f).bay c = s.bay c := rfl
@[simp] theorem State.modExch_claim? (x : ExNo) (f : Exchange → Exchange) (i : ClaimId) : (s.modExch x f).claim? i = s.claim? i := rfl
@[simp] theorem State.modExch_now (x : ExNo) (f : Exchange → Exchange) : (s.modExch x f).now = s.now := rfl

/-! ### setClaims -/

@[simp] theorem State.setClaims_pending (cs : List Claim) : (s.setClaims cs).pending = s.pending := rfl
@[simp] theorem State.setClaims_bays (cs : List Claim) : (s.setClaims cs).bays = s.bays := rfl
@[simp] theorem State.setClaims_grants (cs : List Claim) : (s.setClaims cs).grants = s.grants := rfl
@[simp] theorem State.setClaims_exchanges (cs : List Claim) : (s.setClaims cs).exchanges = s.exchanges := rfl
@[simp] theorem State.setClaims_bus (cs : List Claim) : (s.setClaims cs).bus = s.bus := rfl
@[simp] theorem State.setClaims_derate (cs : List Claim) : (s.setClaims cs).derate = s.derate := rfl
@[simp] theorem State.setClaims_faults (cs : List Claim) : (s.setClaims cs).faults = s.faults := rfl
@[simp] theorem State.setClaims_clock (cs : List Claim) : (s.setClaims cs).clock = s.clock := rfl
@[simp] theorem State.setClaims_params (cs : List Claim) : (s.setClaims cs).params = s.params := rfl
@[simp] theorem State.setClaims_schedule (cs : List Claim) : (s.setClaims cs).schedule = s.schedule := rfl
@[simp] theorem State.setClaims_ports (cs : List Claim) : (s.setClaims cs).ports = s.ports := rfl
@[simp] theorem State.setClaims_admissions (cs : List Claim) : (s.setClaims cs).admissions = s.admissions := rfl
@[simp] theorem State.setClaims_passDue (cs : List Claim) : (s.setClaims cs).passDue = s.passDue := rfl
@[simp] theorem State.setClaims_freeCount (cs : List Claim) : (s.setClaims cs).freeCount = s.freeCount := rfl
@[simp] theorem State.setClaims_bay (cs : List Claim) (c : BayNo) : (s.setClaims cs).bay c = s.bay c := rfl
@[simp] theorem State.setClaims_exch (cs : List Claim) (y : ExNo) : (s.setClaims cs).exch y = s.exch y := rfl
@[simp] theorem State.setClaims_now (cs : List Claim) : (s.setClaims cs).now = s.now := rfl

/-! ### modClaim -/

@[simp] theorem State.modClaim_pending (id : ClaimId) (f : Claim → Claim) : (s.modClaim id f).pending = s.pending := rfl
@[simp] theorem State.modClaim_bays (id : ClaimId) (f : Claim → Claim) : (s.modClaim id f).bays = s.bays := rfl
@[simp] theorem State.modClaim_grants (id : ClaimId) (f : Claim → Claim) : (s.modClaim id f).grants = s.grants := rfl
@[simp] theorem State.modClaim_exchanges (id : ClaimId) (f : Claim → Claim) : (s.modClaim id f).exchanges = s.exchanges := rfl
@[simp] theorem State.modClaim_bus (id : ClaimId) (f : Claim → Claim) : (s.modClaim id f).bus = s.bus := rfl
@[simp] theorem State.modClaim_derate (id : ClaimId) (f : Claim → Claim) : (s.modClaim id f).derate = s.derate := rfl
@[simp] theorem State.modClaim_faults (id : ClaimId) (f : Claim → Claim) : (s.modClaim id f).faults = s.faults := rfl
@[simp] theorem State.modClaim_clock (id : ClaimId) (f : Claim → Claim) : (s.modClaim id f).clock = s.clock := rfl
@[simp] theorem State.modClaim_params (id : ClaimId) (f : Claim → Claim) : (s.modClaim id f).params = s.params := rfl
@[simp] theorem State.modClaim_schedule (id : ClaimId) (f : Claim → Claim) : (s.modClaim id f).schedule = s.schedule := rfl
@[simp] theorem State.modClaim_ports (id : ClaimId) (f : Claim → Claim) : (s.modClaim id f).ports = s.ports := rfl
@[simp] theorem State.modClaim_admissions (id : ClaimId) (f : Claim → Claim) : (s.modClaim id f).admissions = s.admissions := rfl
@[simp] theorem State.modClaim_passDue (id : ClaimId) (f : Claim → Claim) : (s.modClaim id f).passDue = s.passDue := rfl
@[simp] theorem State.modClaim_freeCount (id : ClaimId) (f : Claim → Claim) : (s.modClaim id f).freeCount = s.freeCount := rfl
@[simp] theorem State.modClaim_bay (id : ClaimId) (f : Claim → Claim) (c : BayNo) : (s.modClaim id f).bay c = s.bay c := rfl
@[simp] theorem State.modClaim_exch (id : ClaimId) (f : Claim → Claim) (y : ExNo) : (s.modClaim id f).exch y = s.exch y := rfl
@[simp] theorem State.modClaim_now (id : ClaimId) (f : Claim → Claim) : (s.modClaim id f).now = s.now := rfl

/-! ### modGrants -/

@[simp] theorem State.modGrants_pending (f : Grants → Grants) : (s.modGrants f).pending = s.pending := rfl
@[simp] theorem State.modGrants_bays (f : Grants → Grants) : (s.modGrants f).bays = s.bays := rfl
@[simp] theorem State.modGrants_book (f : Grants → Grants) : (s.modGrants f).book = s.book := rfl
@[simp] theorem State.modGrants_exchanges (f : Grants → Grants) : (s.modGrants f).exchanges = s.exchanges := rfl
@[simp] theorem State.modGrants_bus (f : Grants → Grants) : (s.modGrants f).bus = s.bus := rfl
@[simp] theorem State.modGrants_derate (f : Grants → Grants) : (s.modGrants f).derate = s.derate := rfl
@[simp] theorem State.modGrants_faults (f : Grants → Grants) : (s.modGrants f).faults = s.faults := rfl
@[simp] theorem State.modGrants_clock (f : Grants → Grants) : (s.modGrants f).clock = s.clock := rfl
@[simp] theorem State.modGrants_params (f : Grants → Grants) : (s.modGrants f).params = s.params := rfl
@[simp] theorem State.modGrants_schedule (f : Grants → Grants) : (s.modGrants f).schedule = s.schedule := rfl
@[simp] theorem State.modGrants_ports (f : Grants → Grants) : (s.modGrants f).ports = s.ports := rfl
@[simp] theorem State.modGrants_admissions (f : Grants → Grants) : (s.modGrants f).admissions = s.admissions := rfl
@[simp] theorem State.modGrants_passDue (f : Grants → Grants) : (s.modGrants f).passDue = s.passDue := rfl
@[simp] theorem State.modGrants_freeCount (f : Grants → Grants) : (s.modGrants f).freeCount = s.freeCount := rfl
@[simp] theorem State.modGrants_bay (f : Grants → Grants) (c : BayNo) : (s.modGrants f).bay c = s.bay c := rfl
@[simp] theorem State.modGrants_exch (f : Grants → Grants) (y : ExNo) : (s.modGrants f).exch y = s.exch y := rfl
@[simp] theorem State.modGrants_claim? (f : Grants → Grants) (i : ClaimId) : (s.modGrants f).claim? i = s.claim? i := rfl
@[simp] theorem State.modGrants_now (f : Grants → Grants) : (s.modGrants f).now = s.now := rfl

/-! ### modBus -/

@[simp] theorem State.modBus_pending (f : Bus → Bus) : (s.modBus f).pending = s.pending := rfl
@[simp] theorem State.modBus_bays (f : Bus → Bus) : (s.modBus f).bays = s.bays := rfl
@[simp] theorem State.modBus_book (f : Bus → Bus) : (s.modBus f).book = s.book := rfl
@[simp] theorem State.modBus_grants (f : Bus → Bus) : (s.modBus f).grants = s.grants := rfl
@[simp] theorem State.modBus_exchanges (f : Bus → Bus) : (s.modBus f).exchanges = s.exchanges := rfl
@[simp] theorem State.modBus_derate (f : Bus → Bus) : (s.modBus f).derate = s.derate := rfl
@[simp] theorem State.modBus_faults (f : Bus → Bus) : (s.modBus f).faults = s.faults := rfl
@[simp] theorem State.modBus_clock (f : Bus → Bus) : (s.modBus f).clock = s.clock := rfl
@[simp] theorem State.modBus_params (f : Bus → Bus) : (s.modBus f).params = s.params := rfl
@[simp] theorem State.modBus_schedule (f : Bus → Bus) : (s.modBus f).schedule = s.schedule := rfl
@[simp] theorem State.modBus_ports (f : Bus → Bus) : (s.modBus f).ports = s.ports := rfl
@[simp] theorem State.modBus_admissions (f : Bus → Bus) : (s.modBus f).admissions = s.admissions := rfl
@[simp] theorem State.modBus_passDue (f : Bus → Bus) : (s.modBus f).passDue = s.passDue := rfl
@[simp] theorem State.modBus_freeCount (f : Bus → Bus) : (s.modBus f).freeCount = s.freeCount := rfl
@[simp] theorem State.modBus_bay (f : Bus → Bus) (c : BayNo) : (s.modBus f).bay c = s.bay c := rfl
@[simp] theorem State.modBus_exch (f : Bus → Bus) (y : ExNo) : (s.modBus f).exch y = s.exch y := rfl
@[simp] theorem State.modBus_claim? (f : Bus → Bus) (i : ClaimId) : (s.modBus f).claim? i = s.claim? i := rfl
@[simp] theorem State.modBus_now (f : Bus → Bus) : (s.modBus f).now = s.now := rfl

/-! ### modPort -/

@[simp] theorem State.modPort_pending (p : Port) (f : PortState → PortState) : (s.modPort p f).pending = s.pending := rfl
@[simp] theorem State.modPort_bays (p : Port) (f : PortState → PortState) : (s.modPort p f).bays = s.bays := rfl
@[simp] theorem State.modPort_book (p : Port) (f : PortState → PortState) : (s.modPort p f).book = s.book := rfl
@[simp] theorem State.modPort_grants (p : Port) (f : PortState → PortState) : (s.modPort p f).grants = s.grants := rfl
@[simp] theorem State.modPort_exchanges (p : Port) (f : PortState → PortState) : (s.modPort p f).exchanges = s.exchanges := rfl
@[simp] theorem State.modPort_bus (p : Port) (f : PortState → PortState) : (s.modPort p f).bus = s.bus := rfl
@[simp] theorem State.modPort_derate (p : Port) (f : PortState → PortState) : (s.modPort p f).derate = s.derate := rfl
@[simp] theorem State.modPort_faults (p : Port) (f : PortState → PortState) : (s.modPort p f).faults = s.faults := rfl
@[simp] theorem State.modPort_clock (p : Port) (f : PortState → PortState) : (s.modPort p f).clock = s.clock := rfl
@[simp] theorem State.modPort_params (p : Port) (f : PortState → PortState) : (s.modPort p f).params = s.params := rfl
@[simp] theorem State.modPort_schedule (p : Port) (f : PortState → PortState) : (s.modPort p f).schedule = s.schedule := rfl
@[simp] theorem State.modPort_admissions (p : Port) (f : PortState → PortState) : (s.modPort p f).admissions = s.admissions := rfl
@[simp] theorem State.modPort_passDue (p : Port) (f : PortState → PortState) : (s.modPort p f).passDue = s.passDue := rfl
@[simp] theorem State.modPort_freeCount (p : Port) (f : PortState → PortState) : (s.modPort p f).freeCount = s.freeCount := rfl
@[simp] theorem State.modPort_bay (p : Port) (f : PortState → PortState) (c : BayNo) : (s.modPort p f).bay c = s.bay c := rfl
@[simp] theorem State.modPort_exch (p : Port) (f : PortState → PortState) (y : ExNo) : (s.modPort p f).exch y = s.exch y := rfl
@[simp] theorem State.modPort_claim? (p : Port) (f : PortState → PortState) (i : ClaimId) : (s.modPort p f).claim? i = s.claim? i := rfl
@[simp] theorem State.modPort_now (p : Port) (f : PortState → PortState) : (s.modPort p f).now = s.now := rfl

/-! ### wantReplan -/

@[simp] theorem State.wantReplan_pending : (s.wantReplan).pending = s.pending := rfl
@[simp] theorem State.wantReplan_bays : (s.wantReplan).bays = s.bays := rfl
@[simp] theorem State.wantReplan_book : (s.wantReplan).book = s.book := rfl
@[simp] theorem State.wantReplan_exchanges : (s.wantReplan).exchanges = s.exchanges := rfl
@[simp] theorem State.wantReplan_bus : (s.wantReplan).bus = s.bus := rfl
@[simp] theorem State.wantReplan_derate : (s.wantReplan).derate = s.derate := rfl
@[simp] theorem State.wantReplan_faults : (s.wantReplan).faults = s.faults := rfl
@[simp] theorem State.wantReplan_clock : (s.wantReplan).clock = s.clock := rfl
@[simp] theorem State.wantReplan_params : (s.wantReplan).params = s.params := rfl
@[simp] theorem State.wantReplan_schedule : (s.wantReplan).schedule = s.schedule := rfl
@[simp] theorem State.wantReplan_ports : (s.wantReplan).ports = s.ports := rfl
@[simp] theorem State.wantReplan_admissions : (s.wantReplan).admissions = s.admissions := rfl
@[simp] theorem State.wantReplan_passDue : (s.wantReplan).passDue = s.passDue := rfl
@[simp] theorem State.wantReplan_freeCount : (s.wantReplan).freeCount = s.freeCount := rfl
@[simp] theorem State.wantReplan_bay (c : BayNo) : (s.wantReplan).bay c = s.bay c := rfl
@[simp] theorem State.wantReplan_exch (y : ExNo) : (s.wantReplan).exch y = s.exch y := rfl
@[simp] theorem State.wantReplan_claim? (i : ClaimId) : (s.wantReplan).claim? i = s.claim? i := rfl
@[simp] theorem State.wantReplan_now : (s.wantReplan).now = s.now := rfl

/-! ### wantPass -/

@[simp] theorem State.wantPass_pending : (s.wantPass).pending = s.pending := rfl
@[simp] theorem State.wantPass_bays : (s.wantPass).bays = s.bays := rfl
@[simp] theorem State.wantPass_book : (s.wantPass).book = s.book := rfl
@[simp] theorem State.wantPass_grants : (s.wantPass).grants = s.grants := rfl
@[simp] theorem State.wantPass_exchanges : (s.wantPass).exchanges = s.exchanges := rfl
@[simp] theorem State.wantPass_bus : (s.wantPass).bus = s.bus := rfl
@[simp] theorem State.wantPass_derate : (s.wantPass).derate = s.derate := rfl
@[simp] theorem State.wantPass_faults : (s.wantPass).faults = s.faults := rfl
@[simp] theorem State.wantPass_clock : (s.wantPass).clock = s.clock := rfl
@[simp] theorem State.wantPass_params : (s.wantPass).params = s.params := rfl
@[simp] theorem State.wantPass_schedule : (s.wantPass).schedule = s.schedule := rfl
@[simp] theorem State.wantPass_ports : (s.wantPass).ports = s.ports := rfl
@[simp] theorem State.wantPass_admissions : (s.wantPass).admissions = s.admissions := rfl
@[simp] theorem State.wantPass_freeCount : (s.wantPass).freeCount = s.freeCount := rfl
@[simp] theorem State.wantPass_bay (c : BayNo) : (s.wantPass).bay c = s.bay c := rfl
@[simp] theorem State.wantPass_exch (y : ExNo) : (s.wantPass).exch y = s.exch y := rfl
@[simp] theorem State.wantPass_claim? (i : ClaimId) : (s.wantPass).claim? i = s.claim? i := rfl
@[simp] theorem State.wantPass_now : (s.wantPass).now = s.now := rfl

/-! ### post -/

@[simp] theorem State.post_pending (n : Notice) : (s.post n).pending = s.pending := rfl
@[simp] theorem State.post_bays (n : Notice) : (s.post n).bays = s.bays := rfl
@[simp] theorem State.post_book (n : Notice) : (s.post n).book = s.book := rfl
@[simp] theorem State.post_grants (n : Notice) : (s.post n).grants = s.grants := rfl
@[simp] theorem State.post_exchanges (n : Notice) : (s.post n).exchanges = s.exchanges := rfl
@[simp] theorem State.post_bus (n : Notice) : (s.post n).bus = s.bus := rfl
@[simp] theorem State.post_derate (n : Notice) : (s.post n).derate = s.derate := rfl
@[simp] theorem State.post_faults (n : Notice) : (s.post n).faults = s.faults := rfl
@[simp] theorem State.post_clock (n : Notice) : (s.post n).clock = s.clock := rfl
@[simp] theorem State.post_params (n : Notice) : (s.post n).params = s.params := rfl
@[simp] theorem State.post_schedule (n : Notice) : (s.post n).schedule = s.schedule := rfl
@[simp] theorem State.post_admissions (n : Notice) : (s.post n).admissions = s.admissions := rfl
@[simp] theorem State.post_passDue (n : Notice) : (s.post n).passDue = s.passDue := rfl
@[simp] theorem State.post_freeCount (n : Notice) : (s.post n).freeCount = s.freeCount := rfl
@[simp] theorem State.post_bay (n : Notice) (c : BayNo) : (s.post n).bay c = s.bay c := rfl
@[simp] theorem State.post_exch (n : Notice) (y : ExNo) : (s.post n).exch y = s.exch y := rfl
@[simp] theorem State.post_claim? (n : Notice) (i : ClaimId) : (s.post n).claim? i = s.claim? i := rfl
@[simp] theorem State.post_now (n : Notice) : (s.post n).now = s.now := rfl

/-! ### notify -/

@[simp] theorem State.notify_pending (k : NoticeKind) (u : Subject) (d v : Nat) : (s.notify k u d v).pending = s.pending := rfl
@[simp] theorem State.notify_bays (k : NoticeKind) (u : Subject) (d v : Nat) : (s.notify k u d v).bays = s.bays := rfl
@[simp] theorem State.notify_book (k : NoticeKind) (u : Subject) (d v : Nat) : (s.notify k u d v).book = s.book := rfl
@[simp] theorem State.notify_grants (k : NoticeKind) (u : Subject) (d v : Nat) : (s.notify k u d v).grants = s.grants := rfl
@[simp] theorem State.notify_exchanges (k : NoticeKind) (u : Subject) (d v : Nat) : (s.notify k u d v).exchanges = s.exchanges := rfl
@[simp] theorem State.notify_bus (k : NoticeKind) (u : Subject) (d v : Nat) : (s.notify k u d v).bus = s.bus := rfl
@[simp] theorem State.notify_derate (k : NoticeKind) (u : Subject) (d v : Nat) : (s.notify k u d v).derate = s.derate := rfl
@[simp] theorem State.notify_faults (k : NoticeKind) (u : Subject) (d v : Nat) : (s.notify k u d v).faults = s.faults := rfl
@[simp] theorem State.notify_clock (k : NoticeKind) (u : Subject) (d v : Nat) : (s.notify k u d v).clock = s.clock := rfl
@[simp] theorem State.notify_params (k : NoticeKind) (u : Subject) (d v : Nat) : (s.notify k u d v).params = s.params := rfl
@[simp] theorem State.notify_schedule (k : NoticeKind) (u : Subject) (d v : Nat) : (s.notify k u d v).schedule = s.schedule := rfl
@[simp] theorem State.notify_admissions (k : NoticeKind) (u : Subject) (d v : Nat) : (s.notify k u d v).admissions = s.admissions := rfl
@[simp] theorem State.notify_passDue (k : NoticeKind) (u : Subject) (d v : Nat) : (s.notify k u d v).passDue = s.passDue := rfl
@[simp] theorem State.notify_freeCount (k : NoticeKind) (u : Subject) (d v : Nat) : (s.notify k u d v).freeCount = s.freeCount := rfl
@[simp] theorem State.notify_bay (k : NoticeKind) (u : Subject) (d v : Nat) (c : BayNo) : (s.notify k u d v).bay c = s.bay c := rfl
@[simp] theorem State.notify_exch (k : NoticeKind) (u : Subject) (d v : Nat) (y : ExNo) : (s.notify k u d v).exch y = s.exch y := rfl
@[simp] theorem State.notify_claim? (k : NoticeKind) (u : Subject) (d v : Nat) (i : ClaimId) : (s.notify k u d v).claim? i = s.claim? i := rfl
@[simp] theorem State.notify_now (k : NoticeKind) (u : Subject) (d v : Nat) : (s.notify k u d v).now = s.now := rfl

/-! ### modSchedule -/

@[simp] theorem State.modSchedule_pending (f : Schedule → Schedule) : (s.modSchedule f).pending = s.pending := rfl
@[simp] theorem State.modSchedule_bays (f : Schedule → Schedule) : (s.modSchedule f).bays = s.bays := rfl
@[simp] theorem State.modSchedule_book (f : Schedule → Schedule) : (s.modSchedule f).book = s.book := rfl
@[simp] theorem State.modSchedule_grants (f : Schedule → Schedule) : (s.modSchedule f).grants = s.grants := rfl
@[simp] theorem State.modSchedule_exchanges (f : Schedule → Schedule) : (s.modSchedule f).exchanges = s.exchanges := rfl
@[simp] theorem State.modSchedule_bus (f : Schedule → Schedule) : (s.modSchedule f).bus = s.bus := rfl
@[simp] theorem State.modSchedule_derate (f : Schedule → Schedule) : (s.modSchedule f).derate = s.derate := rfl
@[simp] theorem State.modSchedule_faults (f : Schedule → Schedule) : (s.modSchedule f).faults = s.faults := rfl
@[simp] theorem State.modSchedule_clock (f : Schedule → Schedule) : (s.modSchedule f).clock = s.clock := rfl
@[simp] theorem State.modSchedule_params (f : Schedule → Schedule) : (s.modSchedule f).params = s.params := rfl
@[simp] theorem State.modSchedule_ports (f : Schedule → Schedule) : (s.modSchedule f).ports = s.ports := rfl
@[simp] theorem State.modSchedule_admissions (f : Schedule → Schedule) : (s.modSchedule f).admissions = s.admissions := rfl
@[simp] theorem State.modSchedule_passDue (f : Schedule → Schedule) : (s.modSchedule f).passDue = s.passDue := rfl
@[simp] theorem State.modSchedule_freeCount (f : Schedule → Schedule) : (s.modSchedule f).freeCount = s.freeCount := rfl
@[simp] theorem State.modSchedule_bay (f : Schedule → Schedule) (c : BayNo) : (s.modSchedule f).bay c = s.bay c := rfl
@[simp] theorem State.modSchedule_exch (f : Schedule → Schedule) (y : ExNo) : (s.modSchedule f).exch y = s.exch y := rfl
@[simp] theorem State.modSchedule_claim? (f : Schedule → Schedule) (i : ClaimId) : (s.modSchedule f).claim? i = s.claim? i := rfl
@[simp] theorem State.modSchedule_now (f : Schedule → Schedule) : (s.modSchedule f).now = s.now := rfl

/-! ### putTime -/

@[simp] theorem State.putTime_pending (n : Nat) : (s.putTime n).pending = s.pending := rfl
@[simp] theorem State.putTime_bays (n : Nat) : (s.putTime n).bays = s.bays := rfl
@[simp] theorem State.putTime_book (n : Nat) : (s.putTime n).book = s.book := rfl
@[simp] theorem State.putTime_grants (n : Nat) : (s.putTime n).grants = s.grants := rfl
@[simp] theorem State.putTime_exchanges (n : Nat) : (s.putTime n).exchanges = s.exchanges := rfl
@[simp] theorem State.putTime_bus (n : Nat) : (s.putTime n).bus = s.bus := rfl
@[simp] theorem State.putTime_derate (n : Nat) : (s.putTime n).derate = s.derate := rfl
@[simp] theorem State.putTime_faults (n : Nat) : (s.putTime n).faults = s.faults := rfl
@[simp] theorem State.putTime_params (n : Nat) : (s.putTime n).params = s.params := rfl
@[simp] theorem State.putTime_schedule (n : Nat) : (s.putTime n).schedule = s.schedule := rfl
@[simp] theorem State.putTime_ports (n : Nat) : (s.putTime n).ports = s.ports := rfl
@[simp] theorem State.putTime_admissions (n : Nat) : (s.putTime n).admissions = s.admissions := rfl
@[simp] theorem State.putTime_passDue (n : Nat) : (s.putTime n).passDue = s.passDue := rfl
@[simp] theorem State.putTime_freeCount (n : Nat) : (s.putTime n).freeCount = s.freeCount := rfl
@[simp] theorem State.putTime_bay (n : Nat) (c : BayNo) : (s.putTime n).bay c = s.bay c := rfl
@[simp] theorem State.putTime_exch (n : Nat) (y : ExNo) : (s.putTime n).exch y = s.exch y := rfl
@[simp] theorem State.putTime_claim? (n : Nat) (i : ClaimId) : (s.putTime n).claim? i = s.claim? i := rfl

/-! ### countTime -/

@[simp] theorem State.countTime_pending (n : Nat) : (s.countTime n).pending = s.pending := by unfold State.countTime; split <;> rfl
@[simp] theorem State.countTime_bays (n : Nat) : (s.countTime n).bays = s.bays := by unfold State.countTime; split <;> rfl
@[simp] theorem State.countTime_book (n : Nat) : (s.countTime n).book = s.book := by unfold State.countTime; split <;> rfl
@[simp] theorem State.countTime_grants (n : Nat) : (s.countTime n).grants = s.grants := by unfold State.countTime; split <;> rfl
@[simp] theorem State.countTime_exchanges (n : Nat) : (s.countTime n).exchanges = s.exchanges := by unfold State.countTime; split <;> rfl
@[simp] theorem State.countTime_bus (n : Nat) : (s.countTime n).bus = s.bus := by unfold State.countTime; split <;> rfl
@[simp] theorem State.countTime_derate (n : Nat) : (s.countTime n).derate = s.derate := by unfold State.countTime; split <;> rfl
@[simp] theorem State.countTime_faults (n : Nat) : (s.countTime n).faults = s.faults := by unfold State.countTime; split <;> rfl
@[simp] theorem State.countTime_clock (n : Nat) : (s.countTime n).clock = s.clock := by unfold State.countTime; split <;> rfl
@[simp] theorem State.countTime_params (n : Nat) : (s.countTime n).params = s.params := by unfold State.countTime; split <;> rfl
@[simp] theorem State.countTime_schedule (n : Nat) : (s.countTime n).schedule = s.schedule := by unfold State.countTime; split <;> rfl
@[simp] theorem State.countTime_ports (n : Nat) : (s.countTime n).ports = s.ports := by unfold State.countTime; split <;> rfl
@[simp] theorem State.countTime_admissions (n : Nat) : (s.countTime n).admissions = s.admissions := by unfold State.countTime; split <;> rfl
@[simp] theorem State.countTime_passDue (n : Nat) : (s.countTime n).passDue = s.passDue := by unfold State.countTime; split <;> rfl
@[simp] theorem State.countTime_bay (n : Nat) (c : BayNo) : (s.countTime n).bay c = s.bay c := by unfold State.countTime; split <;> rfl
@[simp] theorem State.countTime_exch (n : Nat) (y : ExNo) : (s.countTime n).exch y = s.exch y := by unfold State.countTime; split <;> rfl
@[simp] theorem State.countTime_claim? (n : Nat) (i : ClaimId) : (s.countTime n).claim? i = s.claim? i := by unfold State.countTime; split <;> rfl
@[simp] theorem State.countTime_now (n : Nat) : (s.countTime n).now = s.now := by unfold State.countTime; split <;> rfl

/-! ### What an update writes -/

theorem State.setBay_bay (b : BayNo) (r : Bay) (c : BayNo) :
    (s.setBay b r).bay c = if c = b then r else s.bay c := by
  simp only [State.bay, State.setBay, Vector.get_eq_getElem, Vector.getElem_set]
  split <;> split <;> simp_all [Fin.ext_iff]

theorem State.modBay_bay (b : BayNo) (f : Bay → Bay) (c : BayNo) :
    (s.modBay b f).bay c = if c = b then f (s.bay b) else s.bay c := State.setBay_bay s b _ c

@[simp] theorem State.modBay_bay_self (b : BayNo) (f : Bay → Bay) : (s.modBay b f).bay b = f (s.bay b) := by
  rw [State.modBay_bay, if_pos rfl]

theorem State.modBay_bay_other (b : BayNo) (f : Bay → Bay) (c : BayNo) (h : c ≠ b) :
    (s.modBay b f).bay c = s.bay c := by
  rw [State.modBay_bay, if_neg h]

theorem State.setExch_exch (x : ExNo) (e : Option Exchange) (y : ExNo) :
    (s.setExch x e).exch y = if y = x then e else s.exch y := by
  simp only [State.exch, State.setExch, Vector.get_eq_getElem, Vector.getElem_set]
  split <;> split <;> simp_all [Fin.ext_iff]

theorem State.modExch_exch (x : ExNo) (f : Exchange → Exchange) (y : ExNo) :
    (s.modExch x f).exch y = if y = x then (s.exch x).map f else s.exch y := State.setExch_exch s x _ y

@[simp] theorem State.setClaims_claims (cs : List Claim) : (s.setClaims cs).book.claims = cs := rfl
@[simp] theorem State.setClaims_seq (cs : List Claim) : (s.setClaims cs).book.seq = s.book.seq := rfl
@[simp] theorem State.modClaim_seq (id : ClaimId) (f : Claim → Claim) :
    (s.modClaim id f).book.seq = s.book.seq := rfl
@[simp] theorem State.modClaim_claims (id : ClaimId) (f : Claim → Claim) :
    (s.modClaim id f).book.claims = s.book.claims.map (fun c => if c.id = id then f c else c) := rfl
@[simp] theorem State.modGrants_grants (f : Grants → Grants) : (s.modGrants f).grants = f s.grants := rfl
@[simp] theorem State.modBus_bus (f : Bus → Bus) : (s.modBus f).bus = f s.bus := rfl
@[simp] theorem State.modSchedule_schedule (f : Schedule → Schedule) :
    (s.modSchedule f).schedule = f s.schedule := rfl
@[simp] theorem State.putTime_clock (n : Nat) : (s.putTime n).clock = { time := n, isSet := true } := rfl
@[simp] theorem State.wantReplan_grants : s.wantReplan.grants = { s.grants with replan := true } := rfl
@[simp] theorem State.wantPass_passDue : s.wantPass.passDue = true := rfl
@[simp] theorem State.post_ports (n : Notice) : (s.post n).ports = s.ports.post n := rfl
theorem State.notify_eq (k : NoticeKind) (u : Subject) (d v : Nat) :
    s.notify k u d v = s.post (s.notice k u d v) := rfl

theorem Ports.mod_get (ps : Ports) (p : Port) (f : PortState → PortState) (q : Port) :
    (ps.mod p f).get q = if q = p then f (ps.get p) else ps.get q := by
  cases p <;> cases q <;> rfl

@[simp] theorem State.modPort_get (p : Port) (f : PortState → PortState) (q : Port) :
    (s.modPort p f).ports.get q = if q = p then f (s.ports.get p) else s.ports.get q :=
  Ports.mod_get s.ports p f q

theorem State.modPort_modPort (p : Port) (f g : PortState → PortState) :
    (s.modPort p f).modPort p g = s.modPort p (fun q => g (f q)) := by
  cases p <;> rfl

theorem State.modPort_id (p : Port) (f : PortState → PortState) (h : f (s.ports.get p) = s.ports.get p) :
    s.modPort p f = s := by
  cases p <;> simp_all [State.modPort, Ports.mod, Ports.get]

theorem Ports.post_get (ps : Ports) (n : Notice) (p : Port) :
    (ps.post n).get p = if routed n p then (ps.get p).push n else ps.get p := by
  cases p <;> rfl

/-- The claim of a name after a change of the claims of a name, for a change that keeps the name. -/
theorem State.modClaim_claim? (id : ClaimId) (f : Claim → Claim) (h : ∀ c, c.id = id → (f c).id = id)
    (i : ClaimId) :
    (s.modClaim id f).claim? i = if i = id then (s.claim? id).map f else s.claim? i := by
  simp only [State.claim?, State.modClaim_claims]
  induction s.book.claims with
  | nil => simp
  | cons c cs ih =>
    simp only [List.map_cons, List.find?_cons]
    by_cases hc : c.id = id <;> by_cases hi : i = id <;> simp_all
    · by_cases hd : c.id = i <;> simp_all [eq_comm]

/-- The claim a name finds has that name. -/
theorem State.claim?_id {id : ClaimId} {c : Claim} (h : s.claim? id = some c) : c.id = id := by
  have := List.find?_some h
  simpa using this

end Sys2Proof.Machine
end

