-- ==== Sys2Proof/Laws/Frames.lean ====
section
/-! SUPPORT. What the shared operations of matching leave alone: the READY tests, a match, its loss, a fill test
and a pass write the claims' matches, the bays' states, grants and matched claims, the replan flag, the queue
and the notices, and nothing else. -/

namespace Sys2Proof.Machine

/-! ### The relation -/

theorem State.sameButMatches_refl (s : State) : s.sameButMatches s :=
  ⟨rfl, rfl, rfl, rfl, rfl, rfl, rfl, fun _ => rfl, fun _ => rfl⟩

theorem State.sameButMatches_trans {s t u : State} (h : s.sameButMatches t) (k : t.sameButMatches u) :
    s.sameButMatches u := by
  obtain ⟨h1, h2, h3, h4, h5, h6, h7, h8, h9⟩ := h
  obtain ⟨k1, k2, k3, k4, k5, k6, k7, k8, k9⟩ := k
  exact ⟨k1.trans h1, k2.trans h2, k3.trans h3, k4.trans h4, k5.trans h5, k6.trans h6, k7.trans h7,
    fun b => (k8 b).trans (h8 b), fun p => (k9 p).trans (h9 p)⟩

/-- A fold of an operation that keeps the relation keeps it. -/
theorem State.same_foldl {α : Type} {f : State → α → State} (hf : ∀ (s : State) (a : α), s.sameButMatches (f s a)) {s : State}
    (l : List α) {t : State} (h : s.sameButMatches t) : s.sameButMatches (l.foldl f t) := by
  induction l generalizing t with
  | nil => exact h
  | cons a l ih => exact ih (State.sameButMatches_trans h (hf t a))

/-! ### One step more: each lemma adds one operation to a run that keeps the relation -/

variable {s t : State}

theorem PortState.push_line (q : PortState) (n : Notice) : (q.push n).line = q.line := by
  unfold PortState.push
  split <;> rfl

theorem State.same_post (h : s.sameButMatches t) (n : Notice) : s.sameButMatches (t.post n) := by
  refine State.sameButMatches_trans h ⟨rfl, rfl, rfl, rfl, rfl, rfl, rfl, fun _ => rfl, fun p => ?_⟩
  rw [State.post_ports, Ports.post_get]
  split
  · exact PortState.push_line _ _
  · rfl

theorem State.same_notify (h : s.sameButMatches t) (k : NoticeKind) (u : Subject) (d v : Nat) :
    s.sameButMatches (t.notify k u d v) := State.same_post h _

theorem State.same_wantPass (h : s.sameButMatches t) : s.sameButMatches t.wantPass :=
  State.sameButMatches_trans h ⟨rfl, rfl, rfl, rfl, rfl, rfl, rfl, fun _ => rfl, fun _ => rfl⟩

theorem State.same_wantReplan (h : s.sameButMatches t) : s.sameButMatches t.wantReplan :=
  State.sameButMatches_trans h ⟨rfl, rfl, rfl, rfl, rfl, rfl, rfl, fun _ => rfl, fun _ => rfl⟩

theorem State.same_countTime (h : s.sameButMatches t) (n : Nat) : s.sameButMatches (t.countTime n) := by
  unfold State.countTime
  split
  · exact h
  · exact State.sameButMatches_trans h ⟨rfl, rfl, rfl, rfl, rfl, rfl, rfl, fun _ => rfl, fun _ => rfl⟩

theorem State.same_setClaims (h : s.sameButMatches t) (cs : List Claim) : s.sameButMatches (t.setClaims cs) :=
  State.sameButMatches_trans h ⟨rfl, rfl, rfl, rfl, rfl, rfl, rfl, fun _ => rfl, fun _ => rfl⟩

theorem State.same_modClaim (h : s.sameButMatches t) (id : ClaimId) (f : Claim → Claim) :
    s.sameButMatches (t.modClaim id f) := State.same_setClaims h _

/-- A change of a bay record that keeps its base. -/
theorem State.same_modBay (h : s.sameButMatches t) {b : BayNo} {f : Bay → Bay} (hf : ∀ r, (f r).base = r.base) :
    s.sameButMatches (t.modBay b f) := by
  refine State.sameButMatches_trans h ⟨rfl, rfl, rfl, rfl, rfl, rfl, rfl, fun c => ?_, fun _ => rfl⟩
  rw [State.modBay_bay]
  split
  · next e => rw [hf, e]
  · rfl

/-- A change of the queue, the overflow list and the transaction in flight alone. -/
theorem State.same_modBus (h : s.sameButMatches t) {f : Bus → Bus} (hf : ∀ u, (f u).settings = u.settings) :
    s.sameButMatches (t.modBus f) :=
  State.sameButMatches_trans h ⟨rfl, rfl, hf _, rfl, rfl, rfl, rfl, fun _ => rfl, fun _ => rfl⟩

/-! ### The queue -/

theorem Bus.refill_settings (u : Bus) : u.refill.settings = u.settings := rfl

theorem Bus.release_settings (u : Bus) (b : BayNo) (g : CmdGroup) : (u.release b g).settings = u.settings := by
  unfold Bus.release
  split
  · split <;> rfl
  · rfl

theorem Bus.append_settings (u : Bus) (e : Entry) : (u.append e).settings = u.settings := by
  unfold Bus.append
  split <;> rfl

theorem Bus.place_settings (u : Bus) (b : BayNo) (c : BusCmd) : (u.place b c).settings = u.settings := by
  rw [Bus.place, Bus.append_settings, Bus.release_settings]
  rfl

theorem Bus.withdraw_settings (u : Bus) (b : BayNo) (g : CmdGroup) : (u.withdraw b g).settings = u.settings := by
  rw [Bus.withdraw, Bus.refill_settings, Bus.release_settings]
  rfl

theorem State.same_queueCmd (h : s.sameButMatches t) (b : BayNo) (c : BusCmd) :
    s.sameButMatches (t.queueCmd b c) := by
  unfold State.queueCmd
  split
  · exact h
  · exact State.same_modBus h (fun u => Bus.place_settings u b c)

/-- A command queued for a bay that is not LOST stands in the queue or the overflow list (R133). -/
theorem State.queueCmd_mem (s : State) (b : BayNo) (c : BusCmd) (h : (s.bay b).link ≠ .lost) :
    ∃ e ∈ (s.queueCmd b c).bus.queue ++ (s.queueCmd b c).bus.overflow, e.bay = b ∧ e.cmd = c := by
  refine ⟨{ bay := b, cmd := c, attempts := 0 }, ?_, rfl, rfl⟩
  rw [State.queueCmd, if_neg h, State.modBus_bus, Bus.place, Bus.append]
  split <;> simp

/-! ### Grants, edits and the fill test -/

theorem State.same_cutGrant (h : s.sameButMatches t) (b : BayNo) : s.sameButMatches (t.cutGrant b) := by
  unfold State.cutGrant
  split
  · exact h
  · exact State.same_notify (State.same_modBay h (by exact fun _ => rfl)) _ _ _ _

theorem State.same_eligibilityEdge (h : s.sameButMatches t) (b : BayNo) (was : Bool) :
    s.sameButMatches (t.eligibilityEdge b was) := by
  unfold State.eligibilityEdge
  split
  · exact State.same_wantReplan (State.same_cutGrant h b)
  · exact State.same_wantReplan h
  · exact h

/-- A change of a bay record and its hand-ons: the change itself, and what matching may touch. -/
theorem State.edit_same (s : State) (b : BayNo) (f : Bay → Bay) : (s.modBay b f).sameButMatches (s.edit b f) := by
  rw [State.edit]
  refine State.same_eligibilityEdge ?_ b _
  split
  · exact State.same_wantPass (State.sameButMatches_refl _)
  · exact State.sameButMatches_refl _

theorem State.same_edit (h : s.sameButMatches t) {b : BayNo} {f : Bay → Bay} (hf : ∀ r, (f r).base = r.base) :
    s.sameButMatches (t.edit b f) :=
  State.sameButMatches_trans (State.same_modBay h hf) (State.edit_same t b f)

theorem State.same_fillTest (h : s.sameButMatches t) (b : BayNo) : s.sameButMatches (t.fillTest b) := by
  unfold State.fillTest
  split
  · exact h
  · split
    · split
      · exact State.same_queueCmd (State.same_edit h (by exact fun _ => rfl)) _ _
      · exact h
    · split
      · exact State.same_queueCmd (State.same_edit h (by exact fun _ => rfl)) _ _
      · exact h
    · exact h

/-! ### Matching -/

theorem State.same_enterReady (h : s.sameButMatches t) (id : ClaimId) (b : BayNo) :
    s.sameButMatches (t.enterReady id b) := by
  unfold State.enterReady
  split
  · exact h
  · refine State.same_notify ?_ _ _ _ _
    split
    · exact State.same_modClaim h id _
    · split
      · exact State.same_modClaim h id _
      · exact State.same_countTime (State.same_modClaim h id _) _

theorem State.same_fallUnready (h : s.sameButMatches t) (id : ClaimId) (b : BayNo) (level : Nat) :
    s.sameButMatches (t.fallUnready id b level) := State.same_notify (State.same_modClaim h id _) _ _ _ _

theorem State.same_retest (h : s.sameButMatches t) (id : ClaimId) : s.sameButMatches (t.retest id) := by
  unfold State.retest
  split
  · exact h
  · split
    · split
      · exact State.same_enterReady h id _
      · exact h
    · split
      · exact h
      · exact State.same_fallUnready h id _ _
    · exact h

theorem State.same_retestAll (h : s.sameButMatches t) : s.sameButMatches t.retestAll :=
  State.same_foldl (fun u a => State.same_retest u.sameButMatches_refl a) _ h

theorem State.same_bindClaim (h : s.sameButMatches t) (id : ClaimId) (b : BayNo) (d : MatchDetail) :
    s.sameButMatches (t.bindClaim id b d) := by
  rw [State.bindClaim]
  refine State.same_retest (State.same_wantReplan (State.same_notify (State.same_modClaim
    (State.same_fillTest (State.same_modBay (State.same_modClaim h _ _) ?_) _) _ _) _ _ _ _)) _
  exact fun _ => rfl

theorem State.same_unmatch (h : s.sameButMatches t) (id : ClaimId) (cause : LossCause) :
    s.sameButMatches (t.unmatch id cause) := by
  unfold State.unmatch
  split
  · exact h
  · split
    · exact h
    · refine State.same_wantPass (State.same_wantReplan (State.same_notify (State.same_modClaim
        (State.same_fillTest (State.same_modBay (State.same_modClaim h _ _) ?_) _) _ _) _ _ _ _))
      exact fun _ => rfl

theorem State.same_takeWaiting (h : s.sameButMatches t) (id : ClaimId) : s.sameButMatches (t.takeWaiting id) := by
  unfold State.takeWaiting
  split
  · exact h
  · split
    · split
      · exact State.same_bindClaim h id _ _
      · exact h
    · exact h

theorem State.same_runPass (h : s.sameButMatches t) : s.sameButMatches t.runPass :=
  State.same_foldl (fun u a => State.same_takeWaiting u.sameButMatches_refl a) _ h

/-- The end of an arrival writes matches alone. -/
theorem State.same_settle (h : s.sameButMatches t) : s.sameButMatches t.settle := by
  rw [State.settle]
  refine State.sameButMatches_trans (t := if t.retestAll.passDue then t.retestAll.runPass else t.retestAll) ?_
    ⟨rfl, rfl, rfl, rfl, rfl, rfl, rfl, fun _ => rfl, fun _ => rfl⟩
  split
  · exact State.same_runPass (State.same_retestAll h)
  · exact State.same_retestAll h

theorem State.settle_passDue (s : State) : s.settle.passDue = false := rfl

theorem State.same_closeClaim (h : s.sameButMatches t) (id : ClaimId) (o : CloseOutcome) :
    s.sameButMatches (t.closeClaim id o) := by
  unfold State.closeClaim
  split
  · exact h
  · refine State.same_wantPass (State.same_post (State.same_setClaims ?_ _) _)
    split
    · exact h
    · exact State.same_wantReplan (State.same_fillTest (State.same_modBay h (by exact fun _ => rfl)) _)

theorem State.same_expireIfDue (h : s.sameButMatches t) (id : ClaimId) : s.sameButMatches (t.expireIfDue id) := by
  unfold State.expireIfDue
  split
  · exact h
  · split
    · exact State.same_closeClaim h id _
    · exact h

theorem State.same_handBack (h : s.sameButMatches t) (id : ClaimId) : s.sameButMatches (t.handBack id) := by
  unfold State.handBack
  split
  · exact h
  · split
    · exact State.same_modClaim h id _
    · split
      · exact State.same_unmatch (State.same_modClaim h id _) id _
      · split
        · exact State.same_enterReady h id _
        · exact State.same_fallUnready h id _ _

end Sys2Proof.Machine
end

