-- ==== Sys2Proof/Laws/Arrival.lean ====
section
/-! SUPPORT. What the operations within one arrival may do, said once for each: settings, the feed, the bus's
turns, kiosk faults, what the bays have reported, their service, staged sets, sections, parities and ranks
stay; a grant stays or falls to 0 or to a multiple of 50 W from the minimum grant; claims change in place or
leave the book; and the ports get notices. -/

namespace Sys2Proof.Machine

/-! ### The relation -/

/-- The part of a bay record no operation within an arrival writes. -/
def Bay.kept (r : Bay) : (Door × Latch × Bool × BitVec 4 × Int × Bool × Link × Nat × Nat) × Service × AbilitySet
    × BaySection × Parity × Option Nat :=
  (r.reported, r.service, r.staged, r.bsection, r.parity, r.rank)

/-- A grant stays, or falls to 0 or to a multiple of 50 W from the minimum grant (R101, R102, R104). -/
def GrantFall (g g' : Nat) : Prop := g' = g ∨ (g' < g ∧ (g' = 0 ∨ (200 ≤ g' ∧ g' % 50 = 0)))

/-- What names a claim and places it in the book. -/
def Claim.key (c : Claim) : ClaimId × Nat × Nat := (c.id, c.due, c.seq)

/-- The keys of the book, in its order. -/
def State.keys (s : State) : List (ClaimId × Nat × Nat) := s.book.claims.map Claim.key

/-- What the operations within an arrival may do. -/
def State.inner (s t : State) : Prop :=
  t.settings = s.settings ∧ t.grants.settings = s.grants.settings ∧ t.bus.settings = s.bus.settings
    ∧ t.faults = s.faults ∧ t.book.seq = s.book.seq
    ∧ (∀ b, (t.bay b).kept = (s.bay b).kept ∧ GrantFall (s.bay b).grant (t.bay b).grant)
    ∧ t.keys.Sublist s.keys ∧ ∃ ns : List Notice, t.ports = ns.foldl Ports.post s.ports

theorem GrantFall.refl (g : Nat) : GrantFall g g := .inl rfl

theorem GrantFall.trans {g h k : Nat} (a : GrantFall g h) (b : GrantFall h k) : GrantFall g k := by
  unfold GrantFall at *
  omega

theorem GrantFall.le {g h : Nat} (a : GrantFall g h) : h ≤ g := by
  unfold GrantFall at a
  omega

theorem State.inner_refl (s : State) : s.inner s :=
  ⟨rfl, rfl, rfl, rfl, rfl, fun _ => ⟨rfl, GrantFall.refl _⟩, List.Sublist.refl _, [], rfl⟩

theorem State.inner_trans {s t u : State} (h : s.inner t) (k : t.inner u) : s.inner u := by
  obtain ⟨h1, h2, h3, h4, h5, h6, h7, ns, h8⟩ := h
  obtain ⟨k1, k2, k3, k4, k5, k6, k7, ms, k8⟩ := k
  refine ⟨k1.trans h1, k2.trans h2, k3.trans h3, k4.trans h4, k5.trans h5,
    fun b => ⟨(k6 b).1.trans (h6 b).1, (h6 b).2.trans (k6 b).2⟩, k7.trans h7, ns ++ ms, ?_⟩
  rw [List.foldl_append, ← h8, k8]

/-- A fold of an operation within an arrival. -/
theorem State.inner_foldl {α : Type} {f : State → α → State} (hf : ∀ (s : State) (a : α), s.inner (f s a))
    {s : State} (l : List α) {t : State} (h : s.inner t) : s.inner (l.foldl f t) := by
  induction l generalizing t with
  | nil => exact h
  | cons a l ih => exact ih (State.inner_trans h (hf t a))

/-! ### One operation more: records -/

variable {s t : State}

theorem State.inner_post (h : s.inner t) (n : Notice) : s.inner (t.post n) :=
  State.inner_trans h
    ⟨rfl, rfl, rfl, rfl, rfl, fun _ => ⟨rfl, GrantFall.refl _⟩, List.Sublist.refl _, [n], rfl⟩

theorem State.inner_notify (h : s.inner t) (k : NoticeKind) (u : Subject) (d v : Nat) :
    s.inner (t.notify k u d v) := State.inner_post h _

theorem State.inner_wantPass (h : s.inner t) : s.inner t.wantPass :=
  State.inner_trans h ⟨rfl, rfl, rfl, rfl, rfl, fun _ => ⟨rfl, GrantFall.refl _⟩, List.Sublist.refl _, [], rfl⟩

theorem State.inner_wantReplan (h : s.inner t) : s.inner t.wantReplan :=
  State.inner_trans h ⟨rfl, rfl, rfl, rfl, rfl, fun _ => ⟨rfl, GrantFall.refl _⟩, List.Sublist.refl _, [], rfl⟩

theorem State.inner_countTime (h : s.inner t) (n : Nat) : s.inner (t.countTime n) := by
  unfold State.countTime
  split
  · exact h
  · exact State.inner_trans h
      ⟨rfl, rfl, rfl, rfl, rfl, fun _ => ⟨rfl, GrantFall.refl _⟩, List.Sublist.refl _, [], rfl⟩

/-- The claims replaced by some whose keys are among those before, in their order. -/
theorem State.inner_setClaims (h : s.inner t) {cs : List Claim} (hc : (cs.map Claim.key).Sublist t.keys) :
    s.inner (t.setClaims cs) :=
  State.inner_trans h ⟨rfl, rfl, rfl, rfl, rfl, fun _ => ⟨rfl, GrantFall.refl _⟩, hc, [], rfl⟩

/-- A claim changed in its place. -/
theorem State.inner_modClaim (h : s.inner t) {id : ClaimId} {f : Claim → Claim} (hf : ∀ c, (f c).key = c.key) :
    s.inner (t.modClaim id f) := by
  have e : (t.book.claims.map (fun c => if c.id = id then f c else c)).map Claim.key = t.keys := by
    rw [State.keys, List.map_map]
    refine List.map_congr_left fun c _ => ?_
    simp only [Function.comp_apply]
    split
    · exact hf c
    · rfl
  exact State.inner_setClaims h (e ▸ List.Sublist.refl _)

/-- A change of a bay record. -/
theorem State.inner_modBay (h : s.inner t) {b : BayNo} {f : Bay → Bay}
    (hf : (f (t.bay b)).kept = (t.bay b).kept ∧ GrantFall (t.bay b).grant (f (t.bay b)).grant) :
    s.inner (t.modBay b f) := by
  refine State.inner_trans h ⟨rfl, rfl, rfl, rfl, rfl, fun c => ?_, List.Sublist.refl _, [], rfl⟩
  rw [State.modBay_bay]
  split
  · next e => rw [e]; exact hf
  · exact ⟨rfl, GrantFall.refl _⟩

/-- A change of a bay record that leaves its grant. -/
theorem State.inner_modBay' (h : s.inner t) {b : BayNo} {f : Bay → Bay}
    (hf : ∀ r, (f r).kept = r.kept ∧ (f r).grant = r.grant) : s.inner (t.modBay b f) :=
  State.inner_modBay h ⟨(hf _).1, .inl (hf _).2⟩

theorem State.inner_setExch (h : s.inner t) (x : ExNo) (e : Option Exchange) : s.inner (t.setExch x e) :=
  State.inner_trans h ⟨rfl, rfl, rfl, rfl, rfl, fun _ => ⟨rfl, GrantFall.refl _⟩, List.Sublist.refl _, [], rfl⟩

theorem State.inner_modExch (h : s.inner t) (x : ExNo) (f : Exchange → Exchange) : s.inner (t.modExch x f) :=
  State.inner_setExch h x _

theorem State.inner_modBus (h : s.inner t) {f : Bus → Bus} (hf : ∀ u, (f u).settings = u.settings) :
    s.inner (t.modBus f) :=
  State.inner_trans h
    ⟨rfl, rfl, hf _, rfl, rfl, fun _ => ⟨rfl, GrantFall.refl _⟩, List.Sublist.refl _, [], rfl⟩

theorem State.inner_passDue (h : s.inner t) (d : Bool) : s.inner { t with passDue := d } :=
  State.inner_trans h ⟨rfl, rfl, rfl, rfl, rfl, fun _ => ⟨rfl, GrantFall.refl _⟩, List.Sublist.refl _, [], rfl⟩

/-! ### The queue -/

theorem State.inner_queueCmd (h : s.inner t) (b : BayNo) (c : BusCmd) : s.inner (t.queueCmd b c) := by
  unfold State.queueCmd
  split
  · exact h
  · exact State.inner_modBus h (fun u => Bus.place_settings u b c)

theorem State.inner_queueLock (h : s.inner t) (b : BayNo) : s.inner (t.queueLock b) :=
  State.inner_queueCmd (State.inner_modBay' h (by exact fun _ => ⟨rfl, rfl⟩)) b _

theorem State.inner_queueUnlock (h : s.inner t) (b : BayNo) : s.inner (t.queueUnlock b) :=
  State.inner_queueCmd (State.inner_modBay' h (by exact fun _ => ⟨rfl, rfl⟩)) b _

theorem State.inner_queueIdentify (h : s.inner t) (b : BayNo) : s.inner (t.queueIdentify b) := by
  unfold State.queueIdentify
  split
  · exact h
  · split
    · exact State.inner_modBay' h (by exact fun _ => ⟨rfl, rfl⟩)
    · exact State.inner_modBus (State.inner_modBay' h (by exact fun _ => ⟨rfl, rfl⟩))
        (fun u => Bus.place_settings u b _)

theorem State.inner_withdrawIdentify (h : s.inner t) (b : BayNo) : s.inner (t.withdrawIdentify b) :=
  State.inner_modBus h (fun u => Bus.withdraw_settings u b _)

/-! ### Grants and edits -/

theorem State.inner_cutGrant (h : s.inner t) (b : BayNo) : s.inner (t.cutGrant b) := by
  unfold State.cutGrant
  split
  · exact h
  · next hg =>
    refine State.inner_notify (State.inner_modBay h ⟨rfl, .inr ⟨?_, .inl rfl⟩⟩) _ _ _ _
    show 0 < _
    omega

theorem State.inner_eligibilityEdge (h : s.inner t) (b : BayNo) (was : Bool) :
    s.inner (t.eligibilityEdge b was) := by
  unfold State.eligibilityEdge
  split
  · exact State.inner_wantReplan (State.inner_cutGrant h b)
  · exact State.inner_wantReplan h
  · exact h

theorem State.inner_edit (h : s.inner t) {b : BayNo} {f : Bay → Bay}
    (hf : ∀ r, (f r).kept = r.kept ∧ (f r).grant = r.grant) : s.inner (t.edit b f) := by
  rw [State.edit]
  refine State.inner_eligibilityEdge ?_ b _
  split
  · exact State.inner_wantPass (State.inner_modBay' h hf)
  · exact State.inner_modBay' h hf

/-- A cap cut down: a multiple of 50 W, and 0 below the minimum grant. -/
theorem grantFall_cut {g n : Nat} (h : n < g) : GrantFall g (grantFloor (floor50 n)) := by
  unfold GrantFall grantFloor floor50 minGrant
  split <;> omega

theorem State.inner_recap (h : s.inner t) (b : BayNo) : s.inner (t.recap b) := by
  have k : s.inner ((t.modBay b (fun r => { r with cap := t.capOf b })).wantReplan) :=
    State.inner_wantReplan (State.inner_modBay' h (by exact fun _ => ⟨rfl, rfl⟩))
  simp only [State.recap]
  split
  · next hc =>
    refine State.inner_notify (State.inner_modBay k ⟨rfl, ?_⟩) _ _ _ _
    simp only [State.wantReplan_bay, State.modBay_bay_self]
    exact grantFall_cut hc
  · exact k

theorem State.inner_clearPack (h : s.inner t) (b : BayNo) : s.inner (t.clearPack b) := by
  unfold State.clearPack
  split
  · exact h
  · refine State.inner_recap (State.inner_modBay' h ?_) b
    intro r
    unfold Bay.withoutPack
    split <;> exact ⟨rfl, rfl⟩

theorem State.inner_fillTest (h : s.inner t) (b : BayNo) : s.inner (t.fillTest b) := by
  unfold State.fillTest
  split
  · exact h
  · split
    · split
      · exact State.inner_queueCmd (State.inner_edit h (by exact fun _ => ⟨rfl, rfl⟩)) _ _
      · exact h
    · split
      · exact State.inner_queueCmd (State.inner_edit h (by exact fun _ => ⟨rfl, rfl⟩)) _ _
      · exact h
    · exact h

theorem State.inner_rebandBay (h : s.inner t) (b : BayNo) : s.inner (t.rebandBay b) := by
  unfold State.rebandBay
  split
  · exact h
  · dsimp only
    split
    · exact h
    · exact State.inner_recap (State.inner_wantPass (State.inner_modBay' h (by exact fun _ => ⟨rfl, rfl⟩))) b

/-! ### Matching -/

theorem State.inner_enterReady (h : s.inner t) (id : ClaimId) (b : BayNo) : s.inner (t.enterReady id b) := by
  unfold State.enterReady
  split
  · exact h
  · refine State.inner_notify ?_ _ _ _ _
    split
    · exact State.inner_modClaim h (by exact fun _ => rfl)
    · split
      · exact State.inner_modClaim h (by exact fun _ => rfl)
      · exact State.inner_countTime (State.inner_modClaim h (by exact fun _ => rfl)) _

theorem State.inner_fallUnready (h : s.inner t) (id : ClaimId) (b : BayNo) (level : Nat) :
    s.inner (t.fallUnready id b level) :=
  State.inner_notify (State.inner_modClaim h (by exact fun _ => rfl)) _ _ _ _

theorem State.inner_retest (h : s.inner t) (id : ClaimId) : s.inner (t.retest id) := by
  unfold State.retest
  split
  · exact h
  · split
    · split
      · exact State.inner_enterReady h id _
      · exact h
    · split
      · exact h
      · exact State.inner_fallUnready h id _ _
    · exact h

theorem State.inner_retestAll (h : s.inner t) : s.inner t.retestAll :=
  State.inner_foldl (fun u a => State.inner_retest u.inner_refl a) _ h

theorem State.inner_bindClaim (h : s.inner t) (id : ClaimId) (b : BayNo) (d : MatchDetail) :
    s.inner (t.bindClaim id b d) := by
  rw [State.bindClaim]
  refine State.inner_retest (State.inner_wantReplan (State.inner_notify (State.inner_modClaim
    (State.inner_fillTest (State.inner_modBay' (State.inner_modClaim h ?_) ?_) _) ?_) _ _ _ _)) _
  · exact fun _ => rfl
  · exact fun _ => ⟨rfl, rfl⟩
  · intro c
    split <;> rfl

theorem State.inner_unmatch (h : s.inner t) (id : ClaimId) (cause : LossCause) :
    s.inner (t.unmatch id cause) := by
  unfold State.unmatch
  split
  · exact h
  · split
    · exact h
    · refine State.inner_wantPass (State.inner_wantReplan (State.inner_notify (State.inner_modClaim
        (State.inner_fillTest (State.inner_modBay' (State.inner_modClaim h ?_) ?_) _) ?_) _ _ _ _))
      · exact fun _ => rfl
      · exact fun _ => ⟨rfl, rfl⟩
      · intro c
        split <;> rfl

theorem State.inner_takeWaiting (h : s.inner t) (id : ClaimId) : s.inner (t.takeWaiting id) := by
  unfold State.takeWaiting
  split
  · exact h
  · split
    · split
      · exact State.inner_bindClaim h id _ _
      · exact h
    · exact h

theorem State.inner_runPass (h : s.inner t) : s.inner t.runPass :=
  State.inner_foldl (fun u a => State.inner_takeWaiting u.inner_refl a) _ h

theorem State.inner_settle (h : s.inner t) : s.inner t.settle := by
  rw [State.settle]
  refine State.inner_passDue ?_ _
  split
  · exact State.inner_runPass (State.inner_retestAll h)
  · exact State.inner_retestAll h

theorem State.inner_closeClaim (h : s.inner t) (id : ClaimId) (o : CloseOutcome) :
    s.inner (t.closeClaim id o) := by
  unfold State.closeClaim
  split
  · exact h
  · refine State.inner_wantPass (State.inner_post (State.inner_setClaims ?_ ?_) _)
    · split
      · exact h
      · exact State.inner_wantReplan (State.inner_fillTest (State.inner_modBay' h (by exact fun _ => ⟨rfl, rfl⟩)) _)
    · exact List.Sublist.map _ List.filter_sublist

theorem State.inner_expireIfDue (h : s.inner t) (id : ClaimId) : s.inner (t.expireIfDue id) := by
  unfold State.expireIfDue
  split
  · exact h
  · split
    · exact State.inner_closeClaim h id _
    · exact h

theorem State.inner_handBack (h : s.inner t) (id : ClaimId) : s.inner (t.handBack id) := by
  unfold State.handBack
  split
  · exact h
  · split
    · exact State.inner_modClaim h (by exact fun _ => rfl)
    · split
      · exact State.inner_unmatch (State.inner_modClaim h (by exact fun _ => rfl)) id _
      · split
        · exact State.inner_enterReady h id _
        · exact State.inner_fallUnready h id _ _

/-! ### Phases -/

theorem State.inner_enterPhase (h : s.inner t) (x : ExNo) (ph : Phase) : s.inner (t.enterPhase x ph) := by
  unfold State.enterPhase
  split
  · exact h
  · exact State.inner_notify (State.inner_setExch h _ _) _ _ _ _

theorem State.inner_enterIntakeOpen (h : s.inner t) (x : ExNo) (b : BayNo) (unlock : Bool) :
    s.inner (t.enterIntakeOpen x b unlock) := by
  unfold State.enterIntakeOpen
  refine State.inner_enterPhase ?_ _ _
  split
  · exact State.inner_queueUnlock h b
  · exact h

theorem State.inner_enterReturnRejected (h : s.inner t) (x : ExNo) (b : BayNo) :
    s.inner (t.enterReturnRejected x b) := State.inner_enterPhase (State.inner_queueUnlock h b) _ _

theorem State.inner_enterTakeOpen (h : s.inner t) (x : ExNo) (b : BayNo) : s.inner (t.enterTakeOpen x b) :=
  State.inner_enterPhase (State.inner_queueUnlock h b) _ _

theorem State.inner_setRole (h : s.inner t) (b : BayNo) (role : Role) : s.inner (t.setRole b role) :=
  State.inner_edit h (by exact fun _ => ⟨rfl, rfl⟩)

theorem State.inner_releaseTake (h : s.inner t) (x : ExNo) (id : ClaimId) (b : BayNo) (cause : LossCause) :
    s.inner (t.releaseTake x id b cause) :=
  State.inner_modExch (State.inner_setRole (State.inner_unmatch h id cause) b _) x _

theorem State.inner_takeLoss (h : s.inner t) (b : BayNo) (id : ClaimId) (cause : LossCause) :
    s.inner (t.takeLoss b id cause) := by
  unfold State.takeLoss
  split
  · split
    · exact h
    · split
      · exact State.inner_releaseTake h _ id b cause
      · exact h
  · exact h

theorem State.inner_loseMatch (h : s.inner t) (b : BayNo) (cause : LossCause) : s.inner (t.loseMatch b cause) := by
  unfold State.loseMatch
  split
  · exact h
  · split
    · exact h
    · split
      · exact State.inner_takeLoss h b _ cause
      · exact State.inner_unmatch h _ cause

theorem State.inner_holdTest (h : s.inner t) (b : BayNo) : s.inner (t.holdTest b) := by
  unfold State.holdTest
  split
  · exact h
  · split
    · exact h
    · split
      · exact h
      · exact State.inner_loseMatch h b _

/-! ### Faults -/

theorem State.inner_watchResult (h : s.inner t) (b : BayNo) : s.inner (t.watchResult b) := by
  unfold State.watchResult
  split
  · exact h
  · exact State.inner_notify (State.inner_modBay' h (by exact fun _ => ⟨rfl, rfl⟩)) _ _ _ _

theorem State.inner_rejectIntake (h : s.inner t) (b : BayNo) : s.inner (t.rejectIntake b) := by
  unfold State.rejectIntake
  split
  · split
    · exact h
    · split
      · exact State.inner_enterReturnRejected h _ b
      · exact State.inner_enterReturnRejected h _ b
      · exact h
  · exact h

/-- One operation taken or not. -/
theorem State.inner_ite {c : Prop} [Decidable c] {u : State} (hu : s.inner u) (ht : s.inner t) :
    s.inner (if c then u else t) := by
  split
  · exact hu
  · exact ht

theorem State.inner_becomeFaulted (h : s.inner t) (b : BayNo) (k : FaultCause) (value : Nat) (ending : Bool) :
    s.inner (t.becomeFaulted b k value ending) := by
  have h1 : s.inner (t.edit b (fun r => { r with state := .faulted, cause := some k, admission := none })) :=
    State.inner_edit h (by exact fun _ => ⟨rfl, rfl⟩)
  have h2 := State.inner_ite (c := (t.bay b).holdsCharged = true) (State.inner_queueCmd h1 b (.chargeStop false)) h1
  have h3 := State.inner_ite (c := (t.bay b).admission.isSome = true) (State.inner_withdrawIdentify h2 b) h2
  have h4 := State.inner_ite (c := ((t.bay b).admission.isSome && decide (k = .packError)) = true)
    (State.inner_clearPack h3 b) h3
  have h5 := State.inner_loseMatch h4 b k.loss
  have h6 := State.inner_ite (c := (ending || decide (k = .profile)) = true) h5 (State.inner_rejectIntake h5 b)
  have h7 := State.inner_notify h6 .bayFault (.bay b) k.code value
  exact State.inner_ite (c := ((t.bay b).admission.isSome && decide (k = .packError)) = true)
    (State.inner_watchResult h7 b) h7

theorem State.inner_raiseFault (h : s.inner t) (b : BayNo) (k : FaultCause) (value : Nat) (ending : Bool) :
    s.inner (t.raiseFault b k value ending) := by
  unfold State.raiseFault
  split
  · exact State.inner_becomeFaulted h b k value ending
  · split
    · exact State.inner_notify (State.inner_edit h (by exact fun _ => ⟨rfl, rfl⟩)) _ _ _ _
    · exact h

theorem State.inner_sayCleared (h : s.inner t) (b : BayNo) (k : FaultCause) (value : Nat) :
    s.inner (t.sayCleared b k value) := State.inner_notify h _ _ _ _

end Sys2Proof.Machine
end

