-- ==== Sys2Proof/Laws/Bytes.lean ====
section
/-! SUPPORT. Byte order (R176): a field as a number, the two directions of a two- and a four-byte field, and
that a number sent in two or four bytes is the field of it. -/

namespace Sys2Proof

theorem append_byte_toNat {n : Nat} (x : BitVec n) (b : Byte) : (x ++ b).toNat = x.toNat * 256 + b.toNat := by
  rw [BitVec.toNat_append, Nat.shiftLeft_eq, Nat.mul_comm, ← Nat.two_pow_add_eq_or_of_lt b.isLt]

theorem be16_toNat (a b : Byte) : (be16 a b).toNat = a.toNat * 256 + b.toNat := append_byte_toNat a b

theorem be32_toNat (a b c d : Byte) :
    (be32 a b c d).toNat = ((a.toNat * 256 + b.toNat) * 256 + c.toNat) * 256 + d.toNat := by
  show ((a ++ b ++ c) ++ d).toNat = _
  rw [append_byte_toNat, append_byte_toNat, append_byte_toNat]

theorem field_toNat {n : Nat} (w : BitVec n) (k : Nat) : (w.extractLsb' k 8).toNat = w.toNat / 2 ^ k % 256 := by
  rw [BitVec.extractLsb'_toNat, Nat.shiftRight_eq_div_pow]

@[simp] theorem be16_halfBytes (w : Half) : be16 (w.extractLsb' 8 8) (w.extractLsb' 0 8) = w := by
  apply BitVec.eq_of_toNat_eq
  have := w.isLt
  rw [be16_toNat, field_toNat, field_toNat]
  omega

@[simp] theorem be32_wordBytes (w : Word) :
    be32 (w.extractLsb' 24 8) (w.extractLsb' 16 8) (w.extractLsb' 8 8) (w.extractLsb' 0 8) = w := by
  apply BitVec.eq_of_toNat_eq
  have := w.isLt
  rw [be32_toNat, field_toNat, field_toNat, field_toNat, field_toNat]
  omega

theorem halfBytes_be16 (a b : Byte) : halfBytes (be16 a b) = [a, b] := by
  have ha := a.isLt
  have hb := b.isLt
  simp only [halfBytes, List.cons.injEq, and_true]
  constructor <;> (apply BitVec.eq_of_toNat_eq; rw [field_toNat, be16_toNat]; omega)

theorem wordBytes_be32 (a b c d : Byte) : wordBytes (be32 a b c d) = [a, b, c, d] := by
  have ha := a.isLt
  have hb := b.isLt
  have hc := c.isLt
  have hd := d.isLt
  simp only [wordBytes, List.cons.injEq, and_true]
  refine ⟨?_, ?_, ?_, ?_⟩ <;> (apply BitVec.eq_of_toNat_eq; rw [field_toNat, be32_toNat]; omega)

theorem halfBytes_eq_iff (a b : Byte) (w : Half) : [a, b] = halfBytes w ↔ be16 a b = w := by
  constructor
  · intro h
    simp only [halfBytes, List.cons.injEq, and_true] at h
    rw [h.1, h.2, be16_halfBytes]
  · rintro rfl
    exact (halfBytes_be16 a b).symm

theorem beBytes_length (n w : Nat) : (beBytes n w).length = n := by
  induction n with
  | zero => rfl
  | succ n ih => simp [beBytes, ih]

namespace Machine

theorem u32_eq_wordBytes (n : Nat) : u32 n = wordBytes (BitVec.ofNat 32 n) := by
  simp only [u32, beBytes, wordBytes, List.cons.injEq, and_true]
  refine ⟨?_, ?_, ?_, ?_⟩ <;>
    (apply BitVec.eq_of_toNat_eq; rw [field_toNat]; simp only [BitVec.toNat_ofNat]; omega)

theorem u16_eq_halfBytes (n : Nat) : u16 n = halfBytes (BitVec.ofNat 16 n) := by
  simp only [u16, beBytes, halfBytes, List.cons.injEq, and_true]
  refine ⟨?_, ?_⟩ <;>
    (apply BitVec.eq_of_toNat_eq; rw [field_toNat]; simp only [BitVec.toNat_ofNat]; omega)

end Machine

end Sys2Proof
end

