-- ==== Sys2Proof/Laws/Exchange.lean ====
section
/-! SUPPORT. The operations within one arrival, continued: the exchange, admission, what follows a report's
fields, and what becomes of a bus command. -/

namespace Sys2Proof.Machine

variable {s t : State}

/-! ### The exchange -/

theorem State.inner_clearRole (h : s.inner t) (b : Option BayNo) : s.inner (t.clearRole b) := by
  unfold State.clearRole
  split
  · exact h
  · exact State.inner_setRole h _ _

theorem State.inner_placeWatch (h : s.inner t) (b : Option BayNo) (w : Watch) : s.inner (t.placeWatch b w) := by
  unfold State.placeWatch
  split
  · exact h
  · exact State.inner_modBay' h (by exact fun _ => ⟨rfl, rfl⟩)

theorem State.inner_ajarIfOpen (h : s.inner t) (b : BayNo) : s.inner (t.ajarIfOpen b) := by
  unfold State.ajarIfOpen
  split
  · exact State.inner_raiseFault h b _ _ _
  · exact h

theorem State.inner_endExchange (h : s.inner t) (x : ExNo) (o : Outcome) (locks ajar : List BayNo)
    (watch : Option BayNo) : s.inner (t.endExchange x o locks ajar watch) := by
  unfold State.endExchange
  split
  · exact h
  · next e _ =>
    have h1 := State.inner_foldl (fun u a => State.inner_queueLock u.inner_refl a) locks h
    have h2 := State.inner_foldl (fun u a => State.inner_ajarIfOpen u.inner_refl a) ajar h1
    have h3 := State.inner_placeWatch (State.inner_clearRole (State.inner_clearRole h2 e.intake) e.take) watch
      { claim := e.claim, outcome := o }
    have h4 := State.inner_notify (State.inner_setExch h3 x none) .swapEnd (.claim e.claim) o.code
      (exchangeNumber x)
    exact State.inner_ite (c := o.handsBack = true)
      (State.inner_wantPass (State.inner_expireIfDue (State.inner_handBack h4 e.claim) e.claim)) h4

theorem State.inner_seekReplacement (h : s.inner t) (x : ExNo) (id : ClaimId) :
    s.inner (t.seekReplacement x id) := by
  unfold State.seekReplacement
  split
  · exact h
  · split
    · exact State.inner_endExchange h x _ _ _ _
    · exact State.inner_enterTakeOpen (State.inner_setRole (State.inner_modExch
        (State.inner_bindClaim h id _ _) x _) _ _) x _

theorem State.inner_takeNeeded (h : s.inner t) (x : ExNo) (e : Exchange) : s.inner (t.takeNeeded x e) := by
  unfold State.takeNeeded
  split
  · exact h
  · split
    · split
      · exact State.inner_enterTakeOpen h x _
      · exact State.inner_endExchange h x _ _ _ _
    · exact State.inner_seekReplacement h x _

theorem State.inner_intakeResult (h : s.inner t) (b : BayNo) (pack : PackId) :
    s.inner (t.intakeResult b pack) := by
  unfold State.intakeResult
  split
  · split
    · exact h
    · next e _ =>
      have k : s.inner (t.modClaim e.claim (fun c => { c with returned := some pack })) :=
        State.inner_modClaim h (by exact fun _ => rfl)
      split
      · exact State.inner_ite (c := e.abort = true) (State.inner_endExchange k _ _ _ _ _)
          (State.inner_takeNeeded k _ e)
      · exact h
  · exact h

theorem State.inner_takeChanged (h : s.inner t) (x : ExNo) (e : Exchange) (b : BayNo) :
    s.inner (t.takeChanged x e b) := by
  have k := State.inner_modExch (State.inner_setRole (State.inner_queueLock
    (State.inner_unmatch h e.claim .packChanged) b) b .none) x (fun e => { e with take := none })
  exact State.inner_ite (c := e.abort = true) (State.inner_endExchange k x .aborted [] [] none)
    (State.inner_seekReplacement k x e.claim)

theorem State.inner_dropMatchChanged (h : s.inner t) (b : BayNo) : s.inner (t.dropMatchChanged b) := by
  unfold State.dropMatchChanged
  split
  · split
    · exact h
    · split
      · exact State.inner_takeChanged h _ _ b
      · exact State.inner_loseMatch h b _
  · exact State.inner_loseMatch h b _

theorem State.inner_packTaken (h : s.inner t) (x : ExNo) (e : Exchange) (b : BayNo) :
    s.inner (t.packTaken x e b) := by
  have k := State.inner_enterPhase (State.inner_closeClaim h e.claim .fulfilled) x .takeClosing
  exact State.inner_ite (State.inner_endExchange k x .done [b] [] none) k

theorem State.inner_exchangeRemoval (h : s.inner t) (b : BayNo) (role : Role) :
    s.inner (t.exchangeRemoval b role) := by
  unfold State.exchangeRemoval
  split
  · exact h
  · split
    · exact h
    · split
      · exact State.inner_packTaken h _ _ b
      · exact h
      · exact State.inner_releaseTake h _ _ b _
  · split
    · exact h
    · split
      · exact State.inner_enterIntakeOpen h _ b _
      · exact h

theorem State.inner_exchangeFollow (h : s.inner t) (x : ExNo) (e : Exchange) (b : BayNo) (back : Bool) :
    s.inner (t.exchangeFollow x e b back) := by
  unfold State.exchangeFollow
  dsimp only
  split
  · split
    · exact State.inner_enterPhase (State.inner_queueLock h b) x _
    · split
      · exact State.inner_endExchange h x _ _ _ _
      · exact h
  · split
    · exact State.inner_endExchange h x _ _ _ _
    · exact h
  · split
    · split
      · exact State.inner_endExchange h x _ _ _ _
      · exact h
    · split
      · split
        · exact State.inner_modExch (State.inner_queueUnlock h b) x _
        · exact State.inner_modExch h x _
      · exact h
  · split
    · exact State.inner_endExchange h x _ _ _ _
    · exact h
  · exact h

theorem State.inner_exchangeReport (h : s.inner t) (b : BayNo) (before : Option Exchange) (back : Bool) :
    s.inner (t.exchangeReport b before back) := by
  unfold State.exchangeReport
  split
  · split
    · exact h
    · split
      · exact State.inner_exchangeFollow h _ _ b back
      · exact h
  · exact h

theorem State.inner_intakeOpenExpired (h : s.inner t) (x : ExNo) (e : Exchange) :
    s.inner (t.intakeOpenExpired x e) := by
  unfold State.intakeOpenExpired
  split
  · exact h
  · exact State.inner_endExchange h x _ _ _ _

theorem State.inner_intakeCheckExpired (h : s.inner t) (e : Exchange) : s.inner (t.intakeCheckExpired e) := by
  unfold State.intakeCheckExpired
  split
  · exact h
  · exact State.inner_raiseFault h _ _ _ _

theorem State.inner_returnRejectedExpired (h : s.inner t) (x : ExNo) (e : Exchange) :
    s.inner (t.returnRejectedExpired x e) := by
  unfold State.returnRejectedExpired
  split
  · exact h
  · exact State.inner_endExchange h x _ _ _ _

theorem State.inner_takeOpenExpired (h : s.inner t) (x : ExNo) (e : Exchange) :
    s.inner (t.takeOpenExpired x e) := by
  unfold State.takeOpenExpired
  split
  · exact h
  · split
    · exact State.inner_endExchange (State.inner_closeClaim h e.claim _) x _ _ _ _
    · exact State.inner_endExchange h x _ _ _ _

theorem State.inner_takeClosingExpired (h : s.inner t) (x : ExNo) (e : Exchange) :
    s.inner (t.takeClosingExpired x e) := by
  unfold State.takeClosingExpired
  split
  · exact h
  · exact State.inner_endExchange h x _ _ _ _

/-! ### Admission -/

/-- A new admission number. -/
theorem State.inner_admissions (h : s.inner t) (n : Nat) : s.inner { t with admissions := n } :=
  State.inner_trans h ⟨rfl, rfl, rfl, rfl, rfl, fun _ => ⟨rfl, GrantFall.refl _⟩, List.Sublist.refl _, [], rfl⟩

theorem State.inner_startAdmission (h : s.inner t) (b : BayNo) (k : AdmissionCause) :
    s.inner (t.startAdmission b k) := by
  have h1 := State.inner_admissions (State.inner_withdrawIdentify h b) (t.admissions + 1)
  refine State.inner_queueIdentify (State.inner_ite (State.inner_recap ?_ b) ?_) b <;>
    exact State.inner_edit h1 (by intro r; cases k <;> exact ⟨rfl, rfl⟩)

theorem State.inner_downshift (h : s.inner t) (b : BayNo) (p : Pack) : s.inner (t.downshift b p) := by
  unfold State.downshift
  split
  · exact State.inner_raiseFault h b _ _ _
  · exact State.inner_queueCmd (State.inner_recap (State.inner_notify
      (State.inner_modBay' h (by exact fun _ => ⟨rfl, rfl⟩)) _ _ _ _) b) b _

theorem State.inner_setRefusals (h : s.inner t) (b : BayNo) (n : Nat) : s.inner (t.setRefusals b n) :=
  State.inner_modBay' h (by exact fun _ => ⟨rfl, rfl⟩)

theorem State.inner_countRefusal (h : s.inner t) (b : BayNo) : s.inner (t.countRefusal b) := by
  unfold State.countRefusal
  split
  · exact h
  · next p _ =>
    have k := State.inner_setRefusals h b (p.refusals + 1)
    exact State.inner_ite (State.inner_downshift k b p) k

theorem State.inner_takeSession (h : s.inner t) (b : BayNo) (x : Session) : s.inner (t.takeSession b x) := by
  unfold State.takeSession
  split
  · split
    · exact State.inner_countRefusal h b
    · exact State.inner_setRefusals h b 0
    · exact h
  · exact h

theorem State.inner_chargeFailed (h : s.inner t) (b : BayNo) (c : BusCmd) : s.inner (t.chargeFailed b c) := by
  unfold State.chargeFailed
  dsimp only
  split
  · split
    · split
      · exact h
      · have k := State.inner_countRefusal h b
        exact State.inner_ite k (State.inner_queueCmd k b _)
    · exact h
  · split
    · exact State.inner_queueCmd h b _
    · exact h
  · exact h

theorem State.inner_identifyFailed (h : s.inner t) (b : BayNo) : s.inner (t.identifyFailed b) := by
  unfold State.identifyFailed
  split
  · exact h
  · split
    · exact State.inner_queueIdentify h b
    · exact State.inner_raiseFault h b _ _ _

theorem State.inner_holdAdmission (h : s.inner t) (b : BayNo) : s.inner (t.holdAdmission b) :=
  State.inner_modBay' h (by exact fun _ => ⟨rfl, rfl⟩)

theorem State.inner_resumeAdmission (h : s.inner t) (b : BayNo) : s.inner (t.resumeAdmission b) :=
  State.inner_queueIdentify (State.inner_modBay' h (by exact fun _ => ⟨rfl, rfl⟩)) b

theorem State.inner_settleOther (h : s.inner t) (b : BayNo) (a : Admission) (i : Identity) :
    s.inner (t.settleOther b a i) := by
  unfold State.settleOther
  split
  · split
    · exact State.inner_loseMatch h b _
    · exact State.inner_modBay' h (by exact fun _ => ⟨rfl, rfl⟩)
    · exact h
  · exact h

theorem State.inner_writePack (h : s.inner t) (b : BayNo) (p : Pack) : s.inner (t.writePack b p) :=
  State.inner_recap (State.inner_wantPass (State.inner_modBay' h (by exact fun _ => ⟨rfl, rfl⟩))) b

theorem State.inner_admitTo (h : s.inner t) (b : BayNo) (st : BayState) : s.inner (t.admitTo b st) :=
  State.inner_edit h (by exact fun _ => ⟨rfl, rfl⟩)

theorem State.inner_deliverResult (h : s.inner t) (b : BayNo) (p : Pack) (resolved : Option Profile) :
    s.inner (t.deliverResult b p resolved) := by
  unfold State.deliverResult
  split
  · exact State.inner_admitTo h b _
  · split
    · exact State.inner_raiseFault h b _ _ _
    · split
      · exact State.inner_queueCmd (State.inner_admitTo h b _) b _
      · exact State.inner_queueCmd (State.inner_admitTo h b _) b _

theorem State.inner_acceptIdentity (h : s.inner t) (b : BayNo) (a : Admission) (i : Identity)
    (rep : ShortReport) : s.inner (t.acceptIdentity b a i rep) := by
  unfold State.acceptIdentity
  split
  · exact State.inner_raiseFault h b _ _ _
  · exact State.inner_intakeResult (State.inner_watchResult (State.inner_holdTest (State.inner_deliverResult
      (State.inner_writePack (State.inner_settleOther h b a i) b _) b _ _) b) b) b _

theorem State.inner_takeAnswer (h : s.inner t) (b : BayNo) (number : Nat) (ans : Answer) (rep : ShortReport) :
    s.inner (t.takeAnswer b number ans rep) := by
  unfold State.takeAnswer
  split
  · exact h
  · split
    · split
      · exact State.inner_identifyFailed h b
      · exact State.inner_acceptIdentity h b _ _ rep
    · exact h

/-! ### What follows a report's fields -/

theorem State.inner_socChanged (h : s.inner t) (b : BayNo) (old : Pack) : s.inner (t.socChanged b old) := by
  unfold State.socChanged
  dsimp only
  split
  · exact h
  · have k := State.inner_ite (c := overDeadband t.params.socBand old.socUsed (t.bay b).soc = true)
      (State.inner_wantReplan h) h
    exact State.inner_ite (State.inner_wantPass k) k

/-- The fields of a report, and what their change brings: the fields themselves, and no more than an
operation within an arrival. -/
theorem State.takeFields_inner (s : State) (b : BayNo) (rep : ShortReport) :
    (s.modBay b (fun r => r.report rep)).inner (s.takeFields b rep) := by
  have k : (s.modBay b (fun r => r.report rep)).inner (s.edit b (fun r => r.report rep)) := by
    rw [State.edit]
    refine State.inner_eligibilityEdge ?_ b _
    split
    · exact State.inner_wantPass (State.inner_refl _)
    · exact State.inner_refl _
  unfold State.takeFields
  dsimp only
  split
  · exact k
  · exact State.inner_ite (State.inner_socChanged k b _) k

theorem Bay.withoutPack_kept (r : Bay) : r.withoutPack.kept = r.kept ∧ r.withoutPack.grant = r.grant := by
  unfold Bay.withoutPack
  split <;> exact ⟨rfl, rfl⟩

theorem State.inner_emptyBay (h : s.inner t) (b : BayNo) : s.inner (t.emptyBay b) := by
  have h1 := State.inner_ite (c := (t.bay b).admission.isSome = true) (State.inner_withdrawIdentify h b) h
  have h2 := State.inner_edit (b := b)
    (f := fun r => { r.withoutPack with state := .vacant, cause := none, admission := none }) h1
    (fun r => r.withoutPack_kept)
  have h3 := State.inner_ite (c := (t.bay b).pack.isSome = true) (State.inner_recap h2 b) h2
  unfold State.emptyBay
  dsimp only
  split
  · exact h3
  · exact State.inner_sayCleared h3 b _ _

theorem State.inner_missPack (h : s.inner t) (b : BayNo) : s.inner (t.missPack b) := by
  have k := State.inner_raiseFault (State.inner_modBay' (b := b) h Bay.withoutPack_kept) b .packMissing 0 false
  exact State.inner_ite (State.inner_recap k b) k

theorem State.inner_removePack (h : s.inner t) (b : BayNo) : s.inner (t.removePack b) := by
  unfold State.removePack
  dsimp only
  split
  · exact State.inner_emptyBay h b
  · split
    · exact h
    · exact State.inner_emptyBay h b
    · exact State.inner_ite (State.inner_emptyBay h b) (State.inner_clearPack h b)
    · exact State.inner_missPack h b
  · exact State.inner_ite h (State.inner_missPack h b)

theorem State.inner_insertPack (h : s.inner t) (b : BayNo) : s.inner (t.insertPack b) :=
  State.inner_ite (State.inner_startAdmission h b _) h

theorem State.inner_readmit (h : s.inner t) (b : BayNo) : s.inner (t.readmit b) := by
  unfold State.readmit
  split
  · exact h
  · exact State.inner_dropMatchChanged (State.inner_clearPack h b) b
  · exact State.inner_dropMatchChanged (State.inner_startAdmission h b _) b

theorem State.inner_restoreLink (h : s.inner t) (b : BayNo) : s.inner (t.restoreLink b) := by
  unfold State.restoreLink
  dsimp only
  split
  · split
    · exact h
    · exact State.inner_ite (State.inner_resumeAdmission h b) h
  · exact State.inner_queueCmd h b _
  · exact State.inner_queueCmd h b _
  · exact h

theorem State.inner_takeHeat (h : s.inner t) (b : BayNo) (rep : ShortReport) : s.inner (t.takeHeat b rep) := by
  have h1 := State.inner_ite (c := (rep.sensed && rep.packFault) = true)
    (State.inner_raiseFault h b .packError 1 false) h
  exact State.inner_rebandBay (State.inner_ite
    (c := (rep.sensed && decide (faultLimit ≤ clampTemp rep.temp)) = true)
    (State.inner_raiseFault h1 b .hot (clampTemp rep.temp).toNat false) h1) b

theorem State.inner_takeDoor (h : s.inner t) (b : BayNo) : s.inner (t.takeDoor b) :=
  State.inner_ite (State.inner_raiseFault h b _ _ _) h

theorem State.inner_dropWatch (h : s.inner t) (b : BayNo) : s.inner (t.dropWatch b) :=
  State.inner_ite (State.inner_modBay' h (by exact fun _ => ⟨rfl, rfl⟩)) h

theorem State.inner_relockBack (h : s.inner t) (b : BayNo) (back : Bool) : s.inner (t.relockBack b back) :=
  State.inner_ite (State.inner_queueLock h b) h

/-- A whole report: its fields, and operations within an arrival. -/
theorem State.applyReport_inner (s : State) (b : BayNo) (rep : ShortReport) (back : Bool) :
    (s.modBay b (fun r => r.report rep)).inner (s.applyReport b rep back) := by
  have h1 := s.takeFields_inner b rep
  have h2 := State.inner_insertPack (State.inner_ite (c := ((s.bay b).sensed && !rep.sensed) = true)
    (State.inner_exchangeRemoval (State.inner_removePack h1 b) b (s.bay b).role) h1) b
  have h3 := State.inner_ite (c := (decide ((s.bay b).state ≠ .vacant) && rep.sensed
      && (decide (rep.count ≠ (s.bay b).count) || rep.restart)) = true)
    (State.inner_readmit h2 b) (State.inner_ite (c := back = true) (State.inner_restoreLink h2 b) h2)
  exact State.inner_exchangeReport (State.inner_relockBack (State.inner_dropWatch (State.inner_takeDoor
    (State.inner_fillTest (State.inner_takeSession (State.inner_takeHeat h3 b rep) b _) b) b) b) b back) b _ _

/-! ### Bus commands, links and requests -/

theorem State.inner_exchangeLinkLost (h : s.inner t) (b : BayNo) : s.inner (t.exchangeLinkLost b) := by
  unfold State.exchangeLinkLost
  split
  · split
    · exact h
    · split
      · exact State.inner_endExchange h _ _ _ _ _
      · exact State.inner_endExchange h _ _ _ _ _
      · exact h
  · exact h

/-- A bay's link state changes: the state itself, and operations within an arrival. -/
theorem State.changeLink_inner (s : State) (b : BayNo) (l : Link) :
    (s.modBay b (fun r => { r with link := l })).inner (s.changeLink b l) := by
  refine State.inner_notify ?_ _ _ _ _
  rw [State.edit]
  refine State.inner_eligibilityEdge ?_ b _
  split
  · exact State.inner_wantPass (State.inner_refl _)
  · exact State.inner_refl _

theorem State.inner_doorFailed (h : s.inner t) (b : BayNo) (c : BusCmd) : s.inner (t.doorFailed b c) := by
  unfold State.doorFailed
  split
  · split
    · exact h
    · split
      · exact h
      · split
        · exact State.inner_queueUnlock h b
        · exact State.inner_queueUnlock h b
        · exact h
    · split
      · exact h
      · exact State.inner_ite (State.inner_queueUnlock h b) h
  · exact State.inner_ite (State.inner_queueLock h b) h
  · exact h

theorem State.inner_commandFailed (h : s.inner t) (b : BayNo) (c : BusCmd) : s.inner (t.commandFailed b c) := by
  unfold State.commandFailed
  split
  · split
    · exact h
    · exact State.inner_ite (State.inner_identifyFailed h b) h
  · exact State.inner_doorFailed h b _
  · exact State.inner_doorFailed h b _
  · exact State.inner_chargeFailed h b _
  · exact State.inner_chargeFailed h b _

theorem State.inner_land (h : s.inner t) : s.inner (t.modBus Bus.land) := State.inner_modBus h fun _ => rfl

theorem State.inner_retryCommand (h : s.inner t) (e : Entry) : s.inner (t.retryCommand e) := by
  unfold State.retryCommand
  split
  · exact State.inner_modBus h (by exact fun _ => rfl)
  · exact State.inner_commandFailed (State.inner_land h) _ _

theorem State.inner_takeIdentity (h : s.inner t) (fl : Flight) (b : BayNo) (rep : ShortReport) (ans : Answer) :
    s.inner (t.takeIdentity fl b rep ans) := by
  unfold State.takeIdentity
  split
  · split
    · exact State.inner_takeAnswer h b _ ans rep
    · exact h
  · exact h

theorem State.inner_liftFault (h : s.inner t) (b : BayNo) (k : FaultCause) (kept : AdmissionCause) :
    s.inner (t.liftFault b k kept) := by
  unfold State.liftFault
  dsimp only
  split
  · exact State.inner_sayCleared (State.inner_startAdmission h b _) b k _
  · split
    · exact State.inner_sayCleared (State.inner_startAdmission h b _) b k _
    · exact State.inner_sayCleared (State.inner_edit h (by exact fun _ => ⟨rfl, rfl⟩)) b k _

theorem State.inner_restart (h : s.inner t) (b : BayNo) : s.inner (t.restart b) := by
  have k : s.inner (t.modBay b (fun r => { r.copyStaged with ceiling := none })) :=
    State.inner_modBay' h (by exact fun _ => ⟨rfl, rfl⟩)
  unfold State.restart
  dsimp only
  split
  · exact State.inner_modBay' h (by exact fun _ => ⟨rfl, rfl⟩)
  · exact State.inner_startAdmission k b _
  · exact State.inner_startAdmission (State.inner_queueCmd h b _) b _
  · exact State.inner_startAdmission (State.inner_queueCmd h b _) b _
  · exact State.inner_startAdmission h b _
  · split
    · exact State.inner_liftFault k b _ _
    · exact State.inner_liftFault k b _ _
    · exact k

theorem State.inner_abort (h : s.inner t) (x : ExNo) (e : Exchange) : s.inner (t.abort x e) := by
  have k := State.inner_setExch h x (some { e with abort := true })
  unfold State.abort
  dsimp only
  split
  · exact State.inner_ite (State.inner_endExchange k x _ _ _ _) (State.inner_queueLock k _)
  · exact State.inner_ite (State.inner_endExchange k x _ _ _ _) (State.inner_queueLock k _)
  · exact k

/-! ### What the relation gives -/

/-- Notices reach a port's queue and attention line alone, and leave the port within its ranges (R171,
R172). -/
theorem Ports.post_all (ns : List Notice) (ps : Ports) (p : Port) :
    ((ns.foldl Ports.post ps).get p).line = (ps.get p).line
      ∧ ((ps.get p).ok → ((ns.foldl Ports.post ps).get p).ok) := by
  induction ns generalizing ps with
  | nil => exact ⟨rfl, id⟩
  | cons n ns ih =>
    have k : ((ps.post n).get p).line = (ps.get p).line ∧ ((ps.get p).ok → ((ps.post n).get p).ok) := by
      rw [Ports.post_get]
      split
      · refine ⟨PortState.push_line _ _, fun hk => ?_⟩
        obtain ⟨h1, h2, h3, h4, h5, h6, -⟩ := hk
        unfold PortState.push PortState.ok PortState.judge noticeRoom
        dsimp only
        split
        · simp only [List.length_append, List.length_cons, List.length_nil, Bool.or_eq_true, decide_eq_true_eq]
          exact ⟨by omega, h2, h3, h4, h5, h6, trivial⟩
        · simp only [Bool.or_eq_true, decide_eq_true_eq]
          exact ⟨h1, by omega, h3, h4, h5, h6, trivial⟩
      · exact ⟨rfl, id⟩
    exact ⟨(ih (ps.post n)).1.trans k.1, fun hk => (ih (ps.post n)).2 (k.2 hk)⟩

/-- An operation within an arrival leaves every port within its ranges and its line as it was. -/
theorem State.inner_ports (h : s.inner t) :
    (∀ p, (t.ports.get p).line = (s.ports.get p).line) ∧ (s.portsOk → t.portsOk) := by
  obtain ⟨-, -, -, -, -, -, -, ns, h8⟩ := h
  constructor
  · intro p
    rw [h8]
    exact (Ports.post_all ns s.ports p).1
  · intro k p
    rw [h8]
    exact (Ports.post_all ns s.ports p).2 (k p)

/-- An operation within an arrival leaves what a bay has reported, its service, its staged set, its section,
its parity and its rank. -/
theorem State.inner_bay (h : s.inner t) (b : BayNo) :
    (t.bay b).reported = (s.bay b).reported ∧ (t.bay b).service = (s.bay b).service
      ∧ (t.bay b).staged = (s.bay b).staged ∧ (t.bay b).bsection = (s.bay b).bsection
      ∧ (t.bay b).parity = (s.bay b).parity ∧ (t.bay b).rank = (s.bay b).rank
      ∧ (t.bay b).grant ≤ (s.bay b).grant := by
  obtain ⟨-, -, -, -, -, h6, -, -⟩ := h
  have k := (h6 b).1
  simp only [Bay.kept, Prod.mk.injEq] at k
  exact ⟨k.1, k.2.1, k.2.2.1, k.2.2.2.1, k.2.2.2.2.1, k.2.2.2.2.2, (h6 b).2.le⟩

/-- The three conditions on the claims follow from the keys of the book. -/
theorem State.keys_book (s : State) : s.keys.length = s.book.claims.length
    ∧ (s.keys.map (fun k => k.1) = s.book.claims.map (fun c => c.id))
    ∧ (s.keys.Pairwise (fun k l => k.2.1 < l.2.1 ∨ (k.2.1 = l.2.1 ∧ k.2.2 ≤ l.2.2))
        ↔ s.book.claims.Pairwise (fun c d => c.due < d.due ∨ (c.due = d.due ∧ c.seq ≤ d.seq))) := by
  refine ⟨by simp [State.keys], by simp [State.keys, Claim.key], ?_⟩
  rw [State.keys, List.pairwise_map]
  rfl

/-- An operation within an arrival keeps the book's conditions but for the pass owed. -/
theorem State.inner_book (h : s.inner t) (hb : s.bookOk) : t.passDue = false → t.bookOk := by
  intro hd
  obtain ⟨-, h1, h2, h3⟩ := hb
  obtain ⟨-, -, -, -, -, -, hk, -⟩ := h
  obtain ⟨s1, s2, s3⟩ := s.keys_book
  obtain ⟨t1, t2, t3⟩ := t.keys_book
  refine ⟨hd, ?_, ?_, t3.mp ((s3.mpr h3).sublist hk)⟩
  · have := hk.length_le
    omega
  · rw [← s2] at h2
    rw [← t2]
    exact h2.sublist (hk.map _)

/-- Sums of grants over a parity only fall when every grant does. -/
theorem sum_grants_le (l : List BayNo) (f g : BayNo → Nat) (h : ∀ b, f b ≤ g b) :
    (l.map f).sum ≤ (l.map g).sum := by
  induction l with
  | nil => exact Nat.le_refl _
  | cons b l ih =>
    simp only [List.map_cons, List.sum_cons]
    have := h b
    omega

/-- An operation within an arrival keeps the draw within the usable budget. -/
theorem State.inner_draw (h : s.inner t) (hd : s.drawOk) : t.drawOk := by
  have hb := State.inner_bay h
  obtain ⟨h1, h2, -, -, -, h6, -, -⟩ := h
  obtain ⟨d1, d2, d3, d4, d5⟩ := hd
  have hu : t.grants.usable = s.grants.usable := congrArg (a₁ := t.grants.settings) (a₂ := s.grants.settings) Grants.usable h2
  have hbud : t.budget = s.budget := by
    have a1 : t.grants.halt = s.grants.halt := congrArg (a₁ := t.grants.settings) (a₂ := s.grants.settings) Grants.halt h2
    have a2 : t.grants.feed = s.grants.feed := congrArg (a₁ := t.grants.settings) (a₂ := s.grants.settings) Grants.feed h2
    have a3 : t.grants.watts = s.grants.watts := congrArg (a₁ := t.grants.settings) (a₂ := s.grants.settings) Grants.watts h2
    have a4 : t.schedule = s.schedule := congrArg (fun x => x.2.2.2.2) h1
    rw [State.budget, State.budget, a1, a2, a3, a4]
  have zero : ∀ b, (t.bay b).grant ≠ 0 → (s.bay b).grant ≠ 0 := fun b hn => by
    have := (hb b).2.2.2.2.2.2
    omega
  refine ⟨fun b => ?_, by rw [hu, hbud, d2], ?_, ?_, fun b h0 h1 => ?_⟩
  · obtain ⟨-, -, -, -, hp, hr, -⟩ := hb b
    have := d1 b
    unfold Bay.grantOk at this ⊢
    rw [hp, hr]
    rcases (h6 b).2 with e | ⟨hl, e⟩
    · rw [e]; exact this
    · rcases e with e | ⟨e, e'⟩
      · exact .inl e
      · rcases this with z | ⟨-, -, k⟩
        · omega
        · exact .inr ⟨e, e', k⟩
  · rw [hu]
    refine Nat.le_trans ?_ d3
    refine sum_grants_le _ _ _ fun b => ?_
    rw [(hb b).2.2.2.2.1]
    split
    · exact (hb b).2.2.2.2.2.2
    · exact Nat.le_refl _
  · rw [hu]
    refine Nat.le_trans ?_ d4
    refine sum_grants_le _ _ _ fun b => ?_
    rw [(hb b).2.2.2.2.1]
    split
    · exact (hb b).2.2.2.2.2.2
    · exact Nat.le_refl _
  · rw [(hb b).2.2.2.2.1, (hb (sibling b)).2.2.2.2.1]
    exact d5 b (zero b h0) (zero _ h1)

end Sys2Proof.Machine
end

