-- ==== Sys2Proof/Laws/Charge.lean ====
section
/-! SUPPORT. Cutting and shedding (chapter 6), said once: which items a cut, a shed and a change of the usable
budget write, and that after shedding both parities draw within the budget. -/

namespace Sys2Proof.Machine

/-! ### What a cut writes -/

/-- A cut writes grants, which only fall, and the ports get notices; nothing else is written. -/
def State.cutOnly (s t : State) : Prop :=
  t = { s with bays := t.bays, ports := t.ports }
    ∧ (∀ b, t.bay b = { s.bay b with grant := (t.bay b).grant } ∧ GrantFall (s.bay b).grant (t.bay b).grant)
    ∧ ∃ ns : List Notice, t.ports = ns.foldl Ports.post s.ports

theorem State.cutOnly_refl (s : State) : s.cutOnly s := ⟨rfl, fun _ => ⟨rfl, GrantFall.refl _⟩, [], rfl⟩

theorem State.cutOnly_trans {s t u : State} (h : s.cutOnly t) (k : t.cutOnly u) : s.cutOnly u := by
  obtain ⟨h1, h2, ns, h3⟩ := h
  obtain ⟨k1, k2, ms, k3⟩ := k
  refine ⟨by rw [k1, h1], fun b => ⟨?_, (h2 b).2.trans (k2 b).2⟩, ns ++ ms, by rw [List.foldl_append, ← h3, k3]⟩
  rw [(k2 b).1, (h2 b).1]

/-- A fold of cuts is a cut. -/
theorem State.cutOnly_foldl {α : Type} {f : State → α → State} (hf : ∀ (s : State) (a : α), s.cutOnly (f s a))
    (l : List α) (s : State) : s.cutOnly (l.foldl f s) := by
  induction l generalizing s with
  | nil => exact State.cutOnly_refl s
  | cons a l ih => exact State.cutOnly_trans (hf s a) (ih _)

/-- A grant lowered, with a notice, is a cut. -/
theorem State.cutOnly_lower (s : State) (b : BayNo) (g : Nat) (k : NoticeKind) (u : Subject) (d v : Nat)
    (h : GrantFall (s.bay b).grant g) :
    s.cutOnly ((s.modBay b (fun r => { r with grant := g })).notify k u d v) := by
  refine ⟨rfl, fun c => ?_, [_], rfl⟩
  rw [State.notify, State.post_bay, State.modBay_bay]
  split
  · next e => subst e; exact ⟨rfl, h⟩
  · exact ⟨rfl, GrantFall.refl _⟩

theorem State.cutGrant_cutOnly (s : State) (b : BayNo) : s.cutOnly (s.cutGrant b) := by
  unfold State.cutGrant
  split
  · exact State.cutOnly_refl s
  · next hg => exact State.cutOnly_lower s b 0 _ _ _ _ (.inr ⟨by omega, .inl rfl⟩)

/-- The end of every bay's eligibility leaves every grant at 0 (R101). -/
theorem State.cutAll_cutOnly (s : State) : s.cutOnly s.cutAll := State.cutOnly_foldl State.cutGrant_cutOnly _ s

/-- A lowered grant as shedding leaves it: within what is to go, and 0 or from the minimum grant (R104). -/
theorem grantFall_shed {g e : Nat} (hg : g ≠ 0) (he : e ≠ 0) : GrantFall g (grantFloor (floor50 (g - e))) :=
  grantFall_cut (by omega)

theorem State.shedBay_cutOnly (s : State) (b : BayNo) : s.cutOnly (s.shedBay b) := by
  unfold State.shedBay
  dsimp only
  split
  · exact State.cutOnly_refl s
  · next h =>
    simp only [not_or] at h
    exact State.cutOnly_lower s b _ _ _ _ _ (grantFall_shed h.1 h.2)

theorem State.shedFrom_cutOnly (s : State) (k : Nat) : s.cutOnly (s.shedFrom k) := by
  induction k generalizing s with
  | zero => exact State.cutOnly_refl s
  | succ k ih => exact State.cutOnly_trans (State.cutOnly_foldl State.shedBay_cutOnly _ s) (ih _)

/-! ### The sums after a shed -/

/-- The grants active in the frames that a test of parities picks. -/
def State.sumOf (s : State) (act : Parity → Bool) : Nat :=
  (allBays.map (fun b => if act (s.bay b).parity then (s.bay b).grant else 0)).sum

/-- A sum in which one place falls. -/
theorem sum_replace (l : List BayNo) (b : BayNo) (f g : BayNo → Nat) (hl : l.Nodup) (hb : b ∈ l)
    (h : ∀ c, c ≠ b → g c = f c) : (l.map g).sum + f b = (l.map f).sum + g b := by
  induction l with
  | nil => cases hb
  | cons c l ih =>
    simp only [List.map_cons, List.sum_cons]
    obtain ⟨hn, hl⟩ := List.nodup_cons.mp hl
    rcases List.mem_cons.mp hb with e | hm
    · subst e
      have : l.map g = l.map f := List.map_congr_left fun d hd => h d fun e => hn (e ▸ hd)
      rw [this]
      omega
    · have := ih hl hm
      rw [h c fun e => hn (e ▸ hm)]
      omega

theorem allBays_all : allBays.Nodup ∧ ∀ b : BayNo, b ∈ allBays := by decide

/-- A cut keeps parities, so a parity's sum only falls. -/
theorem State.sumOf_cut {s t : State} (h : s.cutOnly t) (act : Parity → Bool) : t.sumOf act ≤ s.sumOf act := by
  refine sum_grants_le _ _ _ fun b => ?_
  have p : (t.bay b).parity = (s.bay b).parity := by rw [(h.2.1 b).1]
  rw [p]
  split
  · exact (h.2.1 b).2.le
  · exact Nat.le_refl _

/-- After a bay is shed, a parity it is active in is within the budget or the bay has no grant. `act` is a
parity whose excess the bay's own covers. -/
theorem State.shedBay_sum (s : State) (b : BayNo) (act : Parity → Bool) (ha : act (s.bay b).parity = true)
    (he : s.sumOf act - s.grants.usable ≤ s.excessOf b) :
    (s.shedBay b).sumOf act ≤ s.grants.usable ∨ ((s.shedBay b).bay b).grant = 0 := by
  by_cases hg : (s.bay b).grant = 0
  · right
    have := ((s.shedBay_cutOnly b).2.1 b).2.le
    omega
  by_cases h0 : s.excessOf b = 0
  · left
    have := State.sumOf_cut (s.shedBay_cutOnly b) act
    omega
  have new : ((s.shedBay b).bay b).grant = grantFloor (floor50 ((s.bay b).grant - s.excessOf b)) := by
    unfold State.shedBay
    dsimp only
    rw [if_neg (by simp only [not_or]; exact ⟨hg, h0⟩), State.notify, State.post_bay, State.modBay_bay_self]
  have other : ∀ c, c ≠ b → (s.shedBay b).bay c = s.bay c := by
    intro c hc
    unfold State.shedBay
    dsimp only
    rw [if_neg (by simp only [not_or]; exact ⟨hg, h0⟩), State.notify, State.post_bay, State.modBay_bay,
      if_neg hc]
  have par : ((s.shedBay b).bay b).parity = (s.bay b).parity := by rw [((s.shedBay_cutOnly b).2.1 b).1]
  by_cases hz : ((s.shedBay b).bay b).grant = 0
  · exact .inr hz
  left
  have hsum := sum_replace allBays b (fun c => if act (s.bay c).parity then (s.bay c).grant else 0)
    (fun c => if act ((s.shedBay b).bay c).parity then ((s.shedBay b).bay c).grant else 0) allBays_all.1
    (allBays_all.2 b) (fun c hc => by simp only [other c hc])
  simp only [par, ha, if_true] at hsum
  have hle : ((s.shedBay b).bay b).grant + s.excessOf b ≤ (s.bay b).grant := by
    rw [new] at hz ⊢
    unfold grantFloor floor50 minGrant at hz ⊢
    split at hz
    · omega
    · next hn => rw [if_neg hn]; omega
  change (s.shedBay b).sumOf act + (s.bay b).grant = s.sumOf act + ((s.shedBay b).bay b).grant at hsum
  omega

/-- The excess of a bay covers that of every parity it is active in (R104). -/
theorem State.excessOf_covers (s : State) (b : BayNo) :
    ((s.bay b).parity.inEven = true → s.sumOf Parity.inEven - s.grants.usable ≤ s.excessOf b)
      ∧ ((s.bay b).parity.inOdd = true → s.sumOf Parity.inOdd - s.grants.usable ≤ s.excessOf b) := by
  unfold State.excessOf
  change ((s.bay b).parity.inEven = true → s.evenSum - s.grants.usable ≤ _)
    ∧ ((s.bay b).parity.inOdd = true → s.oddSum - s.grants.usable ≤ _)
  cases (s.bay b).parity <;> simp [Parity.inEven, Parity.inOdd]

/-- A row of bays shed one after another leaves each parity within the budget or without grants among them. -/
theorem State.shedRow_sum (l : List BayNo) (s : State) (act : Parity → Bool)
    (hc : ∀ (t : State) (b : BayNo), act (t.bay b).parity = true →
      t.sumOf act - t.grants.usable ≤ t.excessOf b) :
    (l.foldl State.shedBay s).sumOf act ≤ s.grants.usable
      ∨ ∀ b ∈ l, act (s.bay b).parity = true → ((l.foldl State.shedBay s).bay b).grant = 0 := by
  induction l generalizing s with
  | nil => exact .inr fun b hb => by cases hb
  | cons b l ih =>
    simp only [List.foldl_cons]
    have cut := s.shedBay_cutOnly b
    have rest := State.cutOnly_foldl State.shedBay_cutOnly l (s.shedBay b)
    have us : (s.shedBay b).grants.usable = s.grants.usable := by rw [cut.1]
    rcases ih (s.shedBay b) with h | h
    · exact .inl (us ▸ h)
    by_cases ha : act (s.bay b).parity = true
    · rcases State.shedBay_sum s b act ha (hc s b ha) with k | k
      · exact .inl (Nat.le_trans (State.sumOf_cut rest act) k)
      · refine .inr fun c hm hp => ?_
        rcases List.mem_cons.mp hm with e | hm
        · subst e
          have := ((rest.2.1 c).2).le
          omega
        · exact h c hm (by rw [(cut.2.1 c).1]; exact hp)
    · refine .inr fun c hm hp => ?_
      rcases List.mem_cons.mp hm with e | hm
      · subst e; exact absurd hp ha
      · exact h c hm (by rw [(cut.2.1 c).1]; exact hp)

theorem State.shedFrom_sum (k : Nat) (s : State) (act : Parity → Bool)
    (hc : ∀ (t : State) (b : BayNo), act (t.bay b).parity = true →
      t.sumOf act - t.grants.usable ≤ t.excessOf b) :
    (s.shedFrom k).sumOf act ≤ s.grants.usable
      ∨ ∀ b, (∃ j, (s.bay b).rank = some j ∧ 1 ≤ j ∧ j ≤ k) → act (s.bay b).parity = true →
          ((s.shedFrom k).bay b).grant = 0 := by
  induction k generalizing s with
  | zero => exact .inr fun b ⟨j, _, h1, h2⟩ => by omega
  | succ k ih =>
    simp only [State.shedFrom]
    have cut := State.cutOnly_foldl State.shedBay_cutOnly (s.ofRank (k + 1)) s
    generalize ht : (s.ofRank (k + 1)).foldl State.shedBay s = t at cut
    have rest := t.shedFrom_cutOnly k
    have us : t.grants.usable = s.grants.usable := by rw [cut.1]
    rcases ih t with h | h
    · exact .inl (us ▸ h)
    rcases State.shedRow_sum (s.ofRank (k + 1)) s act hc with r | r
    · rw [ht] at r
      exact .inl (Nat.le_trans (State.sumOf_cut rest act) r)
    · rw [ht] at r
      refine .inr fun b ⟨j, hj, h1, h2⟩ hp => ?_
      have hb : (t.bay b).rank = (s.bay b).rank ∧ (t.bay b).parity = (s.bay b).parity := by
        rw [(cut.2.1 b).1]; exact ⟨rfl, rfl⟩
      by_cases e : j = k + 1
      · have := r b (by simp [State.ofRank, allBays_all.2 b, hj, e]) hp
        have := (rest.2.1 b).2.le
        omega
      · exact h b ⟨j, by rw [hb.1, hj], h1, by omega⟩ (by rw [hb.2]; exact hp)

/-- After shedding from the last rank on, both parities draw within the budget, when every bay with a grant
has a parity and a rank (R103, R104). -/
theorem State.shed_within (s : State) (hg : ∀ b, (s.bay b).grantOk) :
    (s.shedFrom 24).evenSum ≤ s.grants.usable ∧ (s.shedFrom 24).oddSum ≤ s.grants.usable := by
  have key : ∀ act : Parity → Bool, act .none = false →
      (∀ (t : State) (b : BayNo), act (t.bay b).parity = true → t.sumOf act - t.grants.usable ≤ t.excessOf b) →
      (s.shedFrom 24).sumOf act ≤ s.grants.usable := by
    intro act hn hc
    rcases State.shedFrom_sum 24 s act hc with h | h
    · exact h
    · have z : (s.shedFrom 24).sumOf act = 0 := by
        rw [State.sumOf]
        refine List.sum_eq_zero fun n hm => ?_
        obtain ⟨b, -, rfl⟩ := List.mem_map.mp hm
        have cut := (s.shedFrom_cutOnly 24).2.1 b
        have par : ((s.shedFrom 24).bay b).parity = (s.bay b).parity := by rw [cut.1]
        rw [par]
        split
        · next ha =>
          rcases hg b with g0 | ⟨-, -, -, k, hk⟩
          · have := cut.2.le
            omega
          · exact h b ⟨k, hk⟩ ha
        · rfl
      omega
  exact ⟨key Parity.inEven rfl fun t b => (t.excessOf_covers b).1,
    key Parity.inOdd rfl fun t b => (t.excessOf_covers b).2⟩

/-! ### A change of the usable budget -/

/-- U in force recomputed: the budget of R78, a plan wanted and grants cut only when it has fallen, and nothing
else written (R103). -/
theorem State.recomputeUsable_spec (s : State) :
    (s.recomputeUsable).grants.usable = s.budget
      ∧ s.recomputeUsable = { s with
          bays := s.recomputeUsable.bays, ports := s.recomputeUsable.ports
          grants := { s.grants with usable := s.budget
                                    replan := s.grants.replan || decide (s.budget < s.grants.usable) } }
      ∧ (s.grants.usable ≤ s.budget → s.recomputeUsable.bays = s.bays ∧ s.recomputeUsable.ports = s.ports)
      ∧ (∀ b, s.recomputeUsable.bay b = { s.bay b with grant := (s.recomputeUsable.bay b).grant }
          ∧ GrantFall (s.bay b).grant (s.recomputeUsable.bay b).grant)
      ∧ ∃ ns : List Notice, s.recomputeUsable.ports = ns.foldl Ports.post s.ports := by
  unfold State.recomputeUsable
  dsimp only
  split
  · next h =>
    obtain ⟨c1, c2, c3⟩ := (s.modGrants (fun g => { g with usable := s.budget })).shedFrom_cutOnly 24
    generalize (s.modGrants (fun g => { g with usable := s.budget })).shedFrom 24 = t at c1 c2 c3
    refine ⟨congrArg (fun t : State => t.grants.usable) c1, ?_, fun k => by omega, c2, c3⟩
    simp only [h, decide_true, Bool.or_true]
    conv_lhs => rw [c1]
    rfl
  · next h =>
    refine ⟨rfl, ?_, fun _ => ⟨rfl, rfl⟩, fun b => ⟨rfl, GrantFall.refl _⟩, [], rfl⟩
    simp [State.modGrants, h]

/-- With U in force recomputed both parities draw within it, when they did before and every bay with a grant has
a parity and a rank (R103, R104). -/
theorem State.recomputeUsable_within (s : State) (hg : ∀ b, (s.bay b).grantOk)
    (he : s.evenSum ≤ s.grants.usable) (ho : s.oddSum ≤ s.grants.usable) :
    s.recomputeUsable.evenSum ≤ s.budget ∧ s.recomputeUsable.oddSum ≤ s.budget := by
  unfold State.recomputeUsable
  dsimp only
  split
  · have e : ∀ x : State, x.wantReplan.evenSum = x.evenSum ∧ x.wantReplan.oddSum = x.oddSum :=
      fun _ => ⟨rfl, rfl⟩
    rw [(e _).1, (e _).2]
    exact (s.modGrants (fun g => { g with usable := s.budget })).shed_within hg
  · next h =>
    exact ⟨Nat.le_trans he (Nat.le_of_not_lt h), Nat.le_trans ho (Nat.le_of_not_lt h)⟩

/-- The effective reserve and the walk-up open indication recomputed from the parameters and the windows (R162,
R163): U in force follows a changed reserve, and nothing else is written. -/
theorem State.recomputeReserve_spec (s : State) :
    let t := s.recomputeReserve
    let e := reserveOf s.params.reserve s.schedule.windows
    t = { s with
        bays := t.bays, ports := t.ports
        grants := { s.grants with usable := t.grants.usable, replan := t.grants.replan }
        schedule := { s.schedule with effective := e, walkupsOpen := openOf s.schedule.windows } }
      ∧ (e ≠ s.schedule.effective → t.grants.usable = t.budget)
      ∧ (e = s.schedule.effective → t.grants = s.grants ∧ t.bays = s.bays ∧ t.ports = s.ports)
      ∧ (e < s.schedule.effective → t.grants.replan = true)
      ∧ (∀ b, t.bay b = { s.bay b with grant := (t.bay b).grant }
          ∧ GrantFall (s.bay b).grant (t.bay b).grant)
      ∧ ∃ ns : List Notice, t.ports = ns.foldl Ports.post s.ports := by
  intro t e
  have ht : t = s.recomputeReserve := rfl
  clear_value t
  unfold State.recomputeReserve at ht
  dsimp only at ht
  split at ht
  · next h =>
    subst ht
    refine ⟨rfl, fun k => absurd h k, fun _ => ⟨rfl, rfl, rfl⟩, fun k => absurd h (Nat.ne_of_lt k),
      fun b => ⟨rfl, GrantFall.refl _⟩, [], rfl⟩
  · next h =>
    obtain ⟨u1, u2, -, u4, u5⟩ := State.recomputeUsable_spec
      { s with schedule := { s.schedule with effective := e, walkupsOpen := openOf s.schedule.windows } }
    have hb : ∀ x : State, x.wantReplan.budget = x.budget := fun _ => rfl
    have ub := congrArg State.budget u2
    split at ht
    · next hl =>
      subst ht
      refine ⟨?_, fun _ => ?_, fun k => absurd k h, fun _ => rfl, u4, u5⟩
      · conv_lhs => rw [State.wantReplan, State.modGrants, u2]
        rw [u2]
        rfl
      · rw [hb, ub]; exact u1
    · next hl =>
      subst ht
      refine ⟨?_, fun _ => ?_, fun k => absurd k h, fun k => absurd k hl, u4, u5⟩
      · conv_lhs => rw [u2]
        rw [u2]
      · rw [ub]; exact u1

end Sys2Proof.Machine
end

