-- ==== Sys2Proof/Laws/Plan.lean ====
section
/-! SUPPORT. A plan's entries, what installing one writes bay by bay, and the exchange a SWAPPING claim is found
in. -/

namespace Sys2Proof.Machine

/-- Reading a vector made from a function. -/
theorem ofFn_get {α : Type} {n : Nat} (f : Fin n → α) (i : Fin n) : (Vector.ofFn f).get i = f i := by
  simp only [Vector.get, Vector.toArray_ofFn, Array.getElem_ofFn]
  rfl

/-- The plan holds for each bay its entry in the urgency order. -/
@[simp] theorem State.plan_entry (s : State) (b : BayNo) :
    s.plan.entry b = s.planEntry s.urgencyOrder (s.draw s.urgencyOrder) b :=
  ofFn_get _ b

@[simp] theorem State.plan_usable (s : State) : s.plan.usable = s.budget := rfl
@[simp] theorem State.plan_frame (s : State) : s.plan.frame = s.grants.frame := rfl

/-- One bay's entry is written and no other bay's. -/
theorem State.installBay_bay (p : Plan) (s : State) (b c : BayNo) :
    (State.installBay p s b).bay c = if c = b then (s.bay b).planned (p.entry b) else s.bay c :=
  State.modBay_bay s b _ c

/-- Writing the entries of a list of bays writes each of them once, from the record it had. -/
theorem State.installBays_bay (p : Plan) (l : List BayNo) (hl : l.Nodup) (s : State) (c : BayNo) :
    (l.foldl (State.installBay p) s).bay c = if c ∈ l then (s.bay c).planned (p.entry c) else s.bay c := by
  induction l generalizing s with
  | nil => rfl
  | cons b l ih =>
    obtain ⟨hb, hn⟩ := List.nodup_cons.1 hl
    rw [List.foldl_cons, ih hn, State.installBay_bay]
    by_cases h : c = b
    · subst h; simp [hb]
    · simp [h]

/-- What the lookup of a claim's exchange finds: the first record that names it in a phase before
TAKE-CLOSING. -/
theorem State.exchangeOf_some {s : State} {id : ClaimId} {x : ExNo} (h : s.exchangeOf id = some x) :
    ∃ e, s.exch x = some e ∧ e.claim = id ∧ e.phase ≠ .takeClosing := by
  have k := List.find?_some h
  revert k
  cases s.exch x with
  | none => simp
  | some e => simp

end Sys2Proof.Machine
end

