-- ==== Sys2Proof/Laws/Requests.lean ====
section
/-! SUPPORT. What a request row does: the arrival of the request's complete frame, which a port that holds one
counts, a port without permission refuses, and the owner answers with success or a refusal. -/

namespace Sys2Proof.Machine

/-- The effect of a request's row (R167). -/
theorem exec_onPort (p : Port) (r : Request) (s : State) : exec (r.onPort p) s = .next (s.takeRequest p r) := by
  cases r <;> rfl

theorem State.free_iff_busy (s : State) (p : Port) : s.free p ↔ (s.ports.get p).busy = false := by
  simp [State.free, PortState.busy]

theorem State.takeRequest_busy (s : State) (p : Port) (r : Request) (h : ¬ s.free p) :
    s.takeRequest p r = s.modPort p (fun q => { q with overruns := min 65535 (q.overruns + 1) }) := by
  rw [State.free_iff_busy, Bool.not_eq_false] at h
  rw [State.takeRequest, if_pos h]
  rfl

theorem State.takeRequest_free (s : State) (p : Port) (r : Request) (h : s.free p) :
    s.takeRequest p r = replied (s.permitRequest p r) p r.code := by
  rw [State.free_iff_busy] at h
  rw [State.takeRequest, h]
  rfl

/-- A permitted request at a free port whose owner answers with success. -/
theorem State.takeRequest_ok (s : State) (p : Port) (r : Request) (h : s.free p) (hp : permitted p r = true)
    (t : State) (payload : List Byte) (ho : s.runRequest p r = t.reply payload) :
    s.takeRequest p r = t.success p r payload := by
  rw [State.takeRequest_free s p r h, State.permitRequest, if_pos hp, ho]
  rfl

/-- A permitted request at a free port that its owner refuses. -/
theorem State.takeRequest_refused (s : State) (p : Port) (r : Request) (h : s.free p)
    (hp : permitted p r = true) (c : RefusalCode) (more : List Byte)
    (ho : s.runRequest p r = (s, .refused c more)) :
    s.takeRequest p r = s.refusal p r.code c more := by
  rw [State.takeRequest_free s p r h, State.permitRequest, if_pos hp, ho]
  rfl

/-- A request from a port that may not send it (R169). -/
theorem State.takeRequest_notPermitted (s : State) (p : Port) (r : Request) (h : s.free p)
    (hp : permitted p r = false) : s.takeRequest p r = s.refusal p r.code .notPermitted [] := by
  rw [State.takeRequest_free s p r h, State.permitRequest, hp]
  rfl

/-! ### Payload fields -/

theorem bayOfByte_none {n : Byte} (h : n.toNat = 0 ∨ 24 < n.toNat) : bayOfByte n = none := by
  rw [bayOfByte, dif_neg (by omega)]

theorem bayOfByte_some {n : Byte} {b : BayNo} (h : n.toNat = bayNumber b) : bayOfByte n = some b := by
  have hb := b.isLt
  simp only [bayNumber] at h
  rw [bayOfByte, dif_pos (by omega)]
  simp [h]

theorem moduleOfByte_some {n : Byte} {m : ModNo} (h : n.toNat = m.val + 1) : moduleOfByte n = some m := by
  have hm := m.isLt
  rw [moduleOfByte, dif_pos (by omega)]
  simp [h]

theorem exchangeOfByte_some {n : Byte} {x : ExNo} (h : n.toNat = x.val + 1) : exchangeOfByte n = some x := by
  have hx := x.isLt
  rw [exchangeOfByte, dif_pos (by omega)]
  simp [h]

theorem rowOfByte_some {n : Byte} {i : RowNo} (h : n.toNat = i.val + 1) : rowOfByte n = some i := by
  have hi := i.isLt
  rw [rowOfByte, dif_pos (by omega)]
  simp [h]

/-- A bay number sent back is the byte it came as. -/
theorem u8_bayNumber {n : Byte} {b : BayNo} (h : n.toNat = bayNumber b) : u8 (bayNumber b) = [n] := by
  rw [← h]
  simp [u8, beBytes]

theorem claimIdOf_some {origin : Byte} {o : Origin} {tag : Half} (h : originOfByte origin = some o)
    (ht : tag ≠ 0) : claimIdOf origin tag = some ⟨o, tag⟩ := by
  simp only [claimIdOf, h, if_neg ht]

end Sys2Proof.Machine
end

