-- ==== Sys2Proof/Tests/Slice0.lean ====
section
/-! SUPPORT. Tests: expected results worked out by hand from the rules named, one small step each; the
well-formedness smoke; and, for each statement with hypotheses, states and operands that meet them. -/

namespace Sys2Proof.Tests

set_option Elab.async false

open Sys2Proof.Machine

/-! ### Small states -/

/-- The state a command leaves. -/
def after (c : Instr) (s : State) : Option State :=
  match exec c s with
  | .next t => some t
  | _ => none

/-- What a request is answered with on its port. -/
def answer (p : Port) (c : Instr) (s : State) : Option (List Byte) :=
  (after c s).bind (fun t => (t.ports.get p).reply)

/-- A pack of class M, profile P2. -/
def pack (soc : Nat) : Pack where
  id := 7
  capacity := 2000
  cls := .m
  soc := soc
  temp := 20
  abilities := 0b1111
  health := .good
  profile := .p2
  refusals := 0
  socUsed := none

/-- A booking of class M, level 800, due at 1200, hold 300. -/
def booking (state : ClaimState) (take : Option BayNo) : Claim where
  id := ⟨.gateway, 5⟩
  seq := 1
  openTime := 900
  cls := .m
  level := 800
  due := 1200
  hold := some 300
  firstIssue := false
  expiry := 1500
  state := state
  takeBay := take
  firstReady := none
  returned := none
  atRisk := false
  projected := none

/-- The clock SET at 1000, nothing in the bays. -/
def base : State := { State.reset with clock := { time := 1000, isSet := true } }

/-- Bay 1 CHARGING with SoC 900. -/
def charging : State :=
  base.modBay 0 (fun r =>
    { r with link := .reachable, sensed := true, state := .charging, pack := some (pack 900),
             band := some (.row 3), cap := 1600 })

/-- Bay 1 CHARGING, with a grant, matched with a booking. -/
def matchedIn (state : ClaimState) : State :=
  (charging.setClaims [booking state (some 0)]).modBay 0 (fun r =>
    { r with matched := some ⟨.gateway, 5⟩, grant := 400, parity := .both, rank := some 1 })

/-- The same with the feed CURRENT and the exchange's intake bay, bay 2, REACHABLE. -/
def ready : State :=
  ((matchedIn .ready).modBay 1 (fun r => { r with link := .reachable })).modGrants
    (fun g => { g with feed := .current, watts := 20000, usable := 18000, timer := some 10 })

/-- Exchange 1 in a phase, intake bay 2, take bay 1. -/
def swap (phase : Phase) : State :=
  (((ready.setClaims [booking .swapping (some 0)]).setExch 0 (some
    { claim := ⟨.gateway, 5⟩, phase := phase, intake := some 1, take := some 0, deadline := 0, start := 1000,
      abort := false, relink := false })).modBay 0 (fun r => { r with role := .take 0, grant := 0 })).modBay 1
    (fun r => { r with role := .intake 0 })

/-- A transaction in flight. -/
def inFlight (s : State) (fl : Flight) : State := s.modBus (fun u => { u with flight := some fl })

/-- A report of a shut bay with its pack. -/
def rep : ShortReport where
  door := .closed
  latch := .locked
  sensed := true
  count := 0
  restart := false
  soc := 900
  temp := 20
  session := .active
  packFault := false

/-- A good pack of class M. -/
def ident : Identity where
  packId := 7
  capacity := 2000
  abilities := 0b1111
  health := .good

/-- Bay 1 ADMITTING a pack. -/
def admitting : State :=
  { base with admissions := 1 }.modBay 0 (fun r =>
    { r with link := .reachable, sensed := true, state := .admitting,
             admission := some { cause := .insertion, attempts := 1, held := false, number := 1 } })

/-- Bay 1 FAULTED with a cause, its pack standing. -/
def faulted (k : FaultCause) : State :=
  charging.modBay 0 (fun r => { r with state := .faulted, cause := some k })

/-- The reply of a success, without its port's own counts. -/
def ok (r : Request) (payload : List Byte) : Option (List Byte) := some (frame r.code payload)

/-- The reply of a refusal. -/
def no (r : Request) (c : RefusalCode) : Option (List Byte) := some (frame (r.code ||| 0x80) [c.byte])

/-! ### Well-formedness -/

theorem test_readBay_too_long : (Instr.readBay .gateway (List.replicate 97 1)).wellFormed = false := by decide

theorem test_readBay_longest : (Instr.readBay .gateway (List.replicate 96 1)).wellFormed = true := by decide

theorem test_identity_without_pack :
    (Instr.bayReply true 1 { rep with sensed := false } (.identity ident)).wellFormed = false := by decide

theorem test_powerOn_wellFormed : Instr.powerOn.wellFormed = true := by decide

/-! ### Frames -/

/-- The check of R166 on the nine digits: 0x29B1, the value of that polynomial and initial value. -/
theorem test_crc : crc16 [0x31, 0x32, 0x33, 0x34, 0x35, 0x36, 0x37, 0x38, 0x39] = 0x29B1 := by decide +kernel

/-- REPORT-FEED of 20,000 W: 0x00004E20, high byte first (R176). -/
theorem test_decode_reportFeed : decodeRequest 0x30 [0x00, 0x00, 0x4E, 0x20] = .ok (.reportFeed 20000) := by
  decide

theorem test_decode_openWalkup :
    decodeRequest 0x21 [0x12, 0x34, 0x02, 0x03, 0x20] = .ok (.openWalkup 0x1234 2 800) := by decide

theorem test_decode_short : decodeRequest 0x21 [0x12, 0x34, 0x02, 0x03] = .error .badLength := by decide

theorem test_decode_unknown : decodeRequest 0x05 [] = .error .unknownRequest := by decide

/-! ### One step of each command -/

theorem test_powerOn : (after .powerOn ready).map (fun t => (t.bay 0, t.book.claims)) =
    some (State.reset.bay 0, []) := by decide +kernel

theorem test_rxByte_sync : (after (.rxByte .gateway 0xD5) State.reset).map (fun t => t.ports.gateway.rx) =
    some (.inFrame []) := by decide +kernel

theorem test_interByteGap : (after (.interByteGap .gateway)
    (State.reset.setRx .gateway (.inFrame [1]))).map (fun t => (t.ports.gateway.rx, t.ports.gateway.crcErrors)) =
    some (.hunting, 0) := by decide +kernel

theorem test_replyTransmitted : (after (.replyTransmitted .gateway) (State.reset.putReply .gateway [1])).map
    (fun t => t.ports.gateway.reply) = some none := by decide +kernel

theorem test_readStatus : answer .gateway (.readStatus .gateway) State.reset =
    ok .readStatus [0, 0, 0, 0, 0, 0, 0, 0, 0, 0, 0, 0, 0, 0, 12, 1, 0, 1, 0, 0, 0, 0, 0, 0] := by
  decide +kernel

theorem test_fetchNotices : answer .cabinet (.fetchNotices .cabinet)
    (State.reset.notify .planInstalled .none 1 7) =
    ok .fetchNotices [1, 0, 0, 0, 0x14, 0, 0, 0, 0, 0, 0, 0, 0, 0, 1, 0, 0, 0, 7, 0, 0, 0, 0, 0, 0, 0, 0] := by
  decide +kernel

theorem test_setAttention : answer .gateway (.setAttention .gateway 200) State.reset =
    ok (.setAttention 200) [16, 0, 0] := by decide +kernel

theorem test_portClear : (after (.portClear .cabinet) (State.reset.notify .planInstalled .none 1 7)).map
    (fun t => (t.ports.cabinet.notices, t.ports.cabinet.attn)) = some ([], false) := by decide +kernel

/-- Bay 1 after power-on by the bits of R176: number 1, door CLOSED; sets of 1111; fill target 950. -/
theorem test_readBay : answer .gateway (.readBay .gateway [1]) State.reset =
    ok (.readBay [1]) [0x08, 0x40, 0, 0, 0, 0, 0xFF, 0, 0xED, 0x80, 0, 0, 0, 0, 0, 0, 0, 0, 0, 0, 0, 0, 0, 0] := by
  decide +kernel

theorem test_setBayService : (after (.setBayService .gateway 1 1) ready).map
    (fun t => ((t.bay 0).service, (t.bay 0).grant, (t.bay 0).matched)) = some (.outOfService, 0, none) := by
  decide +kernel

theorem test_setBayAbility : answer .gateway (.setBayAbility .gateway 1 0x07) State.reset =
    ok (.setBayAbility 1 7) [1, 7, 15] := by decide +kernel

theorem test_restartBay : (after (.restartBay .gateway 1) charging).map
    (fun t => ((t.bay 0).state, t.bus.queue.map (fun e => e.cmd))) =
    some (.admitting, [.chargeStop true, .identify 1]) := by decide +kernel

theorem test_openBooking : (after (.openBooking .gateway 5 1 0 1100 0 0) base).map
    (fun t => t.book.claims.map (fun c => (c.level, c.due, c.hold, c.expiry))) =
    some [(800, 1100, some 300, 1400)] := by decide +kernel

theorem test_openBooking_unset : answer .gateway (.openBooking .gateway 5 1 0 1100 0 0) State.reset =
    no (.openBooking 5 1 0 1100 0 0) .clockUnset := by decide +kernel

theorem test_openWalkup : (after (.openWalkup .terminal 5 1 0) base).map
    (fun t => t.book.claims.map (fun c => (c.state, c.due, c.expiry))) = some [(.waiting, 1000, 1900)] := by
  decide +kernel

/-- A raised level takes the claim out of READY (R49). -/
theorem test_amendBooking : (after (.amendBooking .gateway 5 0x04 0 0 1000 0) ready).map
    (fun t => t.book.claims.map (fun c => (c.state, c.level))) = some [(.matched, 1000)] := by decide +kernel

theorem test_cancelClaim : (after (.cancelClaim .gateway 1 5) ready).map
    (fun t => (t.book.claims, (t.bay 0).matched)) = some ([], none) := by decide +kernel

theorem test_readClaim_none : answer .gateway (.readClaim .gateway 1 6) ready =
    no (.readClaim 1 6) .noSuchClaim := by decide +kernel

/-- Origin 1, tag 5, sequence 1, READY 2, class M 1, due 1200, expiry 1500, bay 1, no flag (R176). -/
theorem test_listClaims : answer .gateway (.listClaims .gateway 1) ready =
    ok (.listClaims 1) [1, 1, 0, 5, 0, 0, 0, 1, 2, 1, 0, 0, 0x04, 0xB0, 0, 0, 0x05, 0xDC, 1, 0] := by
  decide +kernel

theorem test_reportFeed : answer .cabinet (.reportFeed .cabinet 20000) State.reset =
    ok (.reportFeed 20000) [0, 0, 0x4E, 0x20, 1, 0, 0, 0x46, 0x50, 0] := by decide +kernel

/-- A module in FAULT leaves its bays a cap of 0 (R102, R107). -/
theorem test_setModule : (after (.setModule .cabinet 1 3000 1) ready).map
    (fun t => ((t.bay 0).cap, (t.bay 0).grant)) = some (0, 0) := by decide +kernel

theorem test_haltCharging : (after (.haltCharging .cabinet) ready).map
    (fun t => ((t.bay 0).grant, t.grants.usable, t.faults.halt)) = some (0, 0, some 1000) := by decide +kernel

theorem test_resumeCharging : answer .cabinet (.resumeCharging .cabinet)
    (ready.modGrants (fun g => { g with halt := true, usable := 0 })) =
    ok .resumeCharging [0, 1, 0, 0, 0x46, 0x50] := by decide +kernel

theorem test_readGrants : (answer .cabinet (.readGrants .cabinet) ready).map List.length = some 99 := by
  decide +kernel

theorem test_beginSwap : answer .terminal (.beginSwap .terminal 1 5) ready =
    ok (.beginSwap 1 5) [1, 0, 2, 1] := by decide +kernel

/-- An abort with the intake bay shut and empty ends the exchange at once (R126). -/
theorem test_abortSwap : answer .terminal (.abortSwap .terminal 1 1 5) (swap .intakeOpen) =
    ok (.abortSwap 1 1 5) [1, 0, 1] := by decide +kernel

theorem test_readExchange_none : answer .gateway (.readExchange .gateway 1) ready =
    no (.readExchange 1) .noSuchExchange := by decide +kernel

theorem test_readLinkCounters : (after (.readLinkCounters .gateway)
    (base.modBay 0 (fun r => { r with missCount := 9, misses := 2 }))).map
    (fun t => ((t.bay 0).missCount, (t.bay 0).misses)) = some (0, 2) := by decide +kernel

/-- Row 4 with M at 50 percent: cap 800 for a pack of P2 (R79, R146). -/
theorem test_writeDerateRow : (after (.writeDerateRow .gateway 4 30 100 50 100) charging).map
    (fun t => (t.bay 0).cap) = some 800 := by decide +kernel

theorem test_readDerateTable : (answer .gateway (.readDerateTable .gateway) charging).map List.length =
    some 61 := by decide +kernel

theorem test_clearBayFault : (after (.clearBayFault .gateway 1) (faulted .charge)).map
    (fun t => ((t.bay 0).state, (t.bay 0).cause)) = some (.admitting, none) := by decide +kernel

theorem test_setTime : answer .gateway (.setTime .gateway 1060) base =
    ok (.setTime 1060) [0, 0, 0x04, 0x24, 1, 2] := by decide +kernel

theorem test_setKioskParams : (after (.setKioskParams .gateway 0x20 0 0 0 0 0 800 0 0) charging).map
    (fun t => (t.params.fill, (t.bay 0).state)) = some (800, .topped) := by decide +kernel

theorem test_readKioskParams : answer .gateway (.readKioskParams .gateway) State.reset =
    ok .readKioskParams
      [0, 0, 0x07, 0xD0, 25, 0, 0, 0x01, 0xF4, 0x07, 0x08, 0x03, 0x20, 0x03, 0xB6, 12, 3, 0, 0, 0x07, 0xD0, 1] := by
  decide +kernel

theorem test_addDirective : answer .gateway (.addDirective .gateway 2 2000 30 0) base =
    ok (.addDirective 2 2000 30 0) [0, 1, 1, 0, 0, 0, 24, 0, 0, 0, 0, 31] := by decide +kernel

theorem test_clearDirectives : answer .gateway (.clearDirectives .gateway 0xFF) base =
    ok (.clearDirectives 0xFF) [0, 32] := by decide +kernel

/-- A close-walk-up window. -/
def closing : Window where
  number := 1
  kind := .closeWalkupWindow
  value := none
  start := 900
  stop := 1001

/-- The window is active. -/
def closed : State :=
  base.modSchedule (fun h => { h with windows := [closing], walkupsOpen := false })

theorem test_endWindows : (after (.endWindows .gateway) closed).map
    (fun t => (t.schedule.windows, t.schedule.walkupsOpen)) = some ([], true) := by decide +kernel

theorem test_readSchedule : answer .gateway (.readSchedule .gateway 0 1) base =
    ok (.readSchedule 0 1) [0, 32, 0, 0, 0, 0x07, 0xD0, 1, 0] := by decide +kernel

theorem test_clockAdvance : (after .clockAdvance closed).map
    (fun t => (t.clock.time, t.schedule.windows, t.schedule.walkupsOpen)) = some (1001, [], true) := by
  decide +kernel

/-- The fill pass gives the cap, 1600 W, at parity BOTH, rank 1 (R84, R87). -/
theorem test_frameBoundary : (after .frameBoundary
    (charging.modGrants (fun g => { g with feed := .current, watts := 20000, usable := 18000 }))).map
    (fun t => ((t.bay 0).grant, (t.bay 0).parity, (t.bay 0).rank, t.grants.odd)) =
    some (1600, .both, some 1, true) := by decide +kernel

theorem test_stalenessTimeout : (after .stalenessTimeout ready).map
    (fun t => (t.grants.feed, t.grants.usable, (t.bay 0).grant)) = some (.stale, 0, 0) := by decide +kernel

theorem test_intakeOpenDeadline : (after (.intakeOpenDeadline 0) (swap .intakeOpen)).map
    (fun t => (t.exch 0, (t.bay 1).role, t.book.claims.map (fun c => c.state))) =
    some (none, .none, [.ready]) := by decide +kernel

theorem test_intakeCheckDeadline : (after (.intakeCheckDeadline 0) (swap .intakeCheck)).map
    (fun t => ((t.exch 0).map (fun e => e.phase), (t.bay 1).cause)) =
    some (some .returnRejected, some .packError) := by decide +kernel

theorem test_returnRejectedDeadline : (after (.returnRejectedDeadline 0) (swap .returnRejected)).map
    (fun t => (t.exch 0, (t.bay 1).watch)) = some (none, none) := by decide +kernel

/-- With the take bay LOST the claim closes UNCONFIRMED (R125). -/
theorem test_takeOpenDeadline : (after (.takeOpenDeadline 0)
    ((swap .takeOpen).modBay 0 (fun r => { r with link := .lost }))).map (fun t => (t.exch 0, t.book.claims)) =
    some (none, []) := by decide +kernel

theorem test_takeClosingDeadline : (after (.takeClosingDeadline 0)
    ((swap .takeClosing).setClaims [])).map (fun t => (t.exch 0, (t.bay 0).role)) = some (none, .none) := by
  decide +kernel

theorem test_busDispatch : (after .busDispatch State.reset).map (fun t => (t.bus.flight, t.bus.lockAllPending)) =
    some (some .lockAll, false) := by decide +kernel

theorem test_lockAllSent : (after .lockAllSent (inFlight base .lockAll)).map (fun t => t.bus.flight) =
    some none := by decide +kernel

/-- A pack in a VACANT bay starts an admission, which queues IDENTIFY (R7, R22). -/
theorem test_bayReply_insertion : (after (.bayReply true 1 rep .unreadable) (inFlight base (.poll 0))).map
    (fun t => ((t.bay 0).state, t.bus.queue.map (fun e => e.cmd))) = some (.admitting, [.identify 1]) := by
  decide +kernel

theorem test_bayReply_identity : (after (.bayReply true 1 rep (.identity ident))
    (inFlight admitting (.command { bay := 0, cmd := .identify 1, attempts := 0 } true))).map
    (fun t => ((t.bay 0).state, (t.bay 0).pack.map (fun p => (p.cls, p.profile)))) =
    some (.charging, some (.m, .p3)) := by decide +kernel

/-- The third miss makes the bay LOST (R138). -/
theorem test_answerPeriodTimeout : (after .answerPeriodTimeout
    ((inFlight base (.poll 0)).modBay 0 (fun r => { r with misses := 2 }))).map
    (fun t => ((t.bay 0).link, (t.bay 0).missCount)) = some (.lost, 1) := by decide +kernel

/-- A pack whose report changes its health to RETIRE loses its match with that cause (R35, R70, R75): the detail
6 of the notice's record. -/
theorem test_bayReply_retire : (after (.bayReply true 1 rep (.identity { ident with health := .retire }))
    (inFlight ((matchedIn .ready).modBay 0 (fun r =>
        { r with state := .admitting,
                 admission := some { cause := .restart, attempts := 1, held := false, number := 0 } }))
      (.command { bay := 0, cmd := .identify 0, attempts := 0 } true))).map
    (fun t => ((t.bay 0).state, (t.ports.get .gateway).notices.map (fun n => (n.kind, n.detail)))) =
    some (.withheld, [(.claimUnmatched, 6)]) := by decide +kernel

/-- An exchange without an intake bay: its items absent, and the credit; CLOSED is 1 and
LOCKED 0 by the order of R1 (R128, R176). -/
theorem test_readExchange : answer .gateway (.readExchange .gateway 1)
    ((swap .takeOpen).setExch 0 (some
      { claim := ⟨.gateway, 5⟩, phase := .takeOpen, intake := none, take := some 0, deadline := 9, start := 1000,
        abort := false, relink := false })) =
    ok (.readExchange 1) ([1, 1, 0, 5, 3, 0, 1, 9, 0, 0, 0x03, 0xE8, 0] ++ [0, 0, 0, 0, 0, 0]
      ++ [1, 1, 1, 0, 1, 1] ++ [0, 0]) := by decide +kernel

/-! ### Witnesses: what the statements suppose can be met, clause by clause -/

/-- The bay as in `charging`, changed. -/
def withBay (f : Bay → Bay) : State := charging.modBay 0 f

/-- A port with this many notices. -/
def noticed (n : Nat) : State :=
  State.reset.modPort .gateway (fun q =>
    { q with notices := List.replicate n (State.reset.notice .planInstalled .none 1 7) })

/-- 48 claims. -/
def fullBook : State :=
  base.setClaims ((List.range 48).map (fun i =>
    { booking .waiting none with id := ⟨.gateway, BitVec.ofNat 16 (i + 100)⟩ }))

/-- One WAITING booking and no bay for it. -/
def waiting : State := base.setClaims [booking .waiting none]

/-- One WAITING booking and a bay for it. -/
def offered : State := charging.setClaims [booking .waiting none]

/-- Both bays of module 1 take part in a plan. -/
def pair : State :=
  (ready.modBay 0 (fun r => { r with grant := 0 })).modBay 1 (fun r =>
    { r with sensed := true, state := .charging, pack := some (pack 500) })

theorem witness_StepTakesFront : State.reset.pending = [] := rfl

theorem witness_ReceiverTakesBytes :
    (State.reset.ports.get .gateway).rx = .hunting
    ∧ (((State.reset.setRx .gateway (.inFrame [])).ports.get .gateway).rx = .inFrame [] ∧ 96 < (97 : Byte).toNat)
    ∧ (∀ len ∈ ([] ++ [(96 : Byte)]).head?, len.toNat ≤ 96 ∧ 0 < len.toNat + 3)
    ∧ (((State.reset.setRx .gateway (.inFrame [1, 3, 9])).ports.get .gateway).rx = .inFrame [1, 3, 9]
      ∧ ∀ len ∈ ([1, 3, 9] ++ [(0 : Byte)]).head?, len.toNat ≤ 96 ∧ 3 < len.toNat + 3)
    ∧ ((State.reset.setRx .gateway (.inFrame (1 :: 3 :: ([9] ++ [0])))).ports.get .gateway).rx
        = .inFrame (1 :: 3 :: ([9] ++ [0])) := by decide +kernel

theorem witness_RequestFrameIsRequestRow :
    (Request.readBay (List.replicate 96 1)).wellFormed = true ∧ (State.reset.ports.get .gateway).rx = .hunting := by
  decide +kernel

theorem witness_RequestDecodeEncode : decodeRequest 0x10 [1] = .ok (.readBay [1]) := by decide

theorem witness_UndecodedFrameRefused : ready.free .gateway ∧ (ready.ports.get .gateway).rx = .hunting
    ∧ (∀ r : Request, r.code ≠ 0x05) ∧ (∃ r : Request, r.code = 0x01)
    ∧ ∀ r : Request, r.code = 0x01 → r.payload.length ≠ [(0 : Byte)].length :=
  ⟨rfl, rfl, fun r => by cases r <;> simp [Request.code], ⟨.readStatus, rfl⟩,
    fun r => by cases r <;> simp [Request.code, Request.payload]⟩

theorem witness_BusyPortOverruns : ¬ (State.reset.putReply .gateway [1]).free .gateway := nofun

theorem witness_PermissionTable : permitted .cabinet (.setTime 0) = false ∧ ready.free .cabinet := ⟨rfl, rfl⟩

theorem witness_PlainReadsChangeNothing : ready.free .gateway ∧ Port.gateway ≠ .terminal
    ∧ ∀ b, (ready.bay b).grant < 6400 ∧ (ready.bay b).cap < 6400
        ∧ ∀ k ∈ (ready.bay b).rank, k < 32 := ⟨rfl, nofun, by decide +kernel⟩

theorem witness_PortRequests : ready.free .terminal ∧ 1 ≤ (ready.ports.get .terminal).threshold :=
  ⟨rfl, by decide⟩

theorem witness_NoticePlacement :
    routed (State.reset.notice .planInstalled .none 1 7) .gateway = false
    ∧ routed (State.reset.notice .halt .none 0 0) .gateway = true
    ∧ ((noticed 31).ports.get .gateway).notices.length < 32
    ∧ 32 ≤ ((noticed 32).ports.get .gateway).notices.length := by decide +kernel

/-- The ports of `ready` with a command waiting. -/
theorem witness_StepKeepsPortsOk : { ready with pending := [.busDispatch] }.portsOk
    ∧ ∃ t, step { ready with pending := [.busDispatch] } = .next t :=
  ⟨fun p => by cases p <;> (show PortState.powerOn.ok) <;> (unfold PortState.ok) <;> decide, _, rfl⟩

theorem witness_ReadBay : ready.free .gateway
    ∧ 4 < [(1 : Byte), 2, 3, 4, 5].length
    ∧ (∃ n ∈ [(1 : Byte), 0], n.toNat = 0 ∨ 24 < n.toNat) ∧ (∃ n ∈ [(1 : Byte), 2, 3, 25], n.toNat = 0 ∨ 24 < n.toNat)
    ∧ (1 ≤ [(23 : BayNo)].length ∧ [(0 : BayNo), 1, 2, 23].length ≤ 4) := ⟨rfl, by decide⟩

theorem witness_BayEntryBits : ((withBay (fun r => { r with grant := 6399 })).bay 0).grant < 6400
    ∧ (ready.bay 0).grant < 6400 ∧ (ready.bay 0).matched = some ⟨.gateway, 5⟩
    ∧ (base.bay 0).matched = none ∧ (base.bay 0).pack = none ∧ ready.fillTarget 0 < 1024
    ∧ (ready.bay 0).pack = some { pack 900 with socUsed := none }
    ∧ (let q : Pack := { pack 1023 with capacity := 4095, temp := 85, refusals := 15, socUsed := some 1023 }
       ((withBay (fun r => { r with pack := some q })).bay 0).pack = some q ∧ q.soc < 1024 ∧ q.capacity < 4096
         ∧ -40 ≤ q.temp ∧ q.temp ≤ 85 ∧ q.refusals < 16) := by decide +kernel

theorem witness_SetBayService : ready.free .gateway ∧ (25 : Byte).toNat > 24 ∧ 1 < (2 : Byte).toNat
    ∧ (24 : Byte).toNat = bayNumber 23 ∧ (1 : Byte).toNat = bayNumber 0
    ∧ ((swap .takeOpen).bay 0).role ≠ .none
    ∧ (0 : Byte).toNat = (ready.bay 0).service.code ∧ (ready.bay 0).role = .none
    ∧ (ready.bay 0).service = .inService ∧ ready.eligible 0 = true
    ∧ ((ready.bay 0).matched = some (booking .ready (some 0)).id
      ∧ ready.claim? ⟨.gateway, 5⟩ = some (booking .ready (some 0)))
    ∧ ((withBay (fun r => { r with service := .outOfService })).bay 0).service = .outOfService :=
  ⟨rfl, by decide +kernel⟩

theorem witness_SetBayAbility : ready.free .gateway ∧ (0xF0 : Byte).extractLsb' 0 4 = 0
    ∧ (24 : Byte).toNat = bayNumber 23 ∧ (0xF1 : Byte).extractLsb' 0 4 ≠ 0 := ⟨rfl, by decide⟩

theorem witness_RestartBay : charging.free .gateway
    ∧ ((swap .takeOpen).bay 0).role ≠ .none
    ∧ ((base.bay 23).state = .vacant ∧ (base.bay 23).role = .none)
    ∧ (charging.bay 0).state = .charging
    ∧ ((withBay (fun r => { r with state := .topped })).bay 0).state = .topped
    ∧ ((withBay (fun r => { r with state := .withheld })).bay 0).state = .withheld
    ∧ ((admitting.bay 0).state = .admitting ∧ (admitting.bay 0).admission =
        some { cause := .insertion, attempts := 1, held := false, number := 1 })
    ∧ (((faulted .charge).bay 0).cause = some .charge ∧ ((faulted .charge).bay 0).pack.isSome = true)
    ∧ (((faulted .profile).modBay 0 Bay.withoutPack).bay 0).pack = none
    ∧ ((faulted .hot).bay 0).cause ≠ some .charge ∧ (charging.bay 0).link ≠ .lost := ⟨rfl, by decide +kernel⟩

theorem witness_ReplyTakesReport : (inFlight base (.poll 23)).bus.flight = some (.poll 23)
    ∧ (Flight.poll 23).bay? = some 23
    ∧ (Flight.command { bay := 0, cmd := .lock, attempts := 0 } false).bay? = some 0 := ⟨rfl, rfl, rfl⟩

/-- Bay 1 CHARGING under a profile after this many refusals, with a poll of it in flight. -/
def refused (k : Profile) (n : Nat) : State :=
  inFlight (withBay (fun r => { r with pack := some { pack 900 with profile := k, refusals := n } })) (.poll 0)

/-- The refusal before the downshift count, the one that meets it with P1 to fall to, and with nothing. -/
theorem witness_ReplyTakesReport_refusal :
    (∀ k ∈ ([.p0, .p2] : List Profile), ∀ n ∈ [1, 2],
      let s := refused k n
      s.bus.flight = some (.poll 0) ∧ (s.bay 0).state = .charging ∧ (s.bay 0).cause = none
        ∧ (s.bay 0).pack = some { pack 900 with profile := k, refusals := n } ∧ (s.bay 0).count = rep.count)
    ∧ (rep.sensed = true ∧ rep.restart = false ∧ rep.packFault = false ∧ rep.temp < 65)
    ∧ (1 + 1 < base.params.downshift ∧ base.params.downshift ≤ 2 + 1)
    ∧ (Profile.p1.index < Profile.p2.index ∧ (pack 900).abilities.getLsbD 1 = true
        ∧ ((refused .p2 2).bay 0).inForce.getLsbD 1 = true ∧ (pack 900).health ≠ .worn)
    ∧ (∀ j : Profile, j.index < Profile.p2.index → j.index ≤ Profile.p1.index)
    ∧ (∀ j : Profile, ¬ j.index < Profile.p0.index)
    ∧ (refused .p0 2).eligible 0 = true :=
  ⟨by decide +kernel, by decide +kernel, by decide +kernel, by decide +kernel,
    fun j => by cases j <;> decide, fun j => by cases j <;> decide, by decide +kernel⟩

theorem witness_UnexpectedRemovalFaults :
    let s := inFlight charging (.poll 0)
    let t := inFlight (faulted .hot) (.poll 0)
    (s.bus.flight = some (.poll 0) ∧ (s.bay 0).role = .none ∧ (s.bay 0).sensed = true ∧ (s.bay 0).cause = none
      ∧ (s.bay 0).state ≠ .vacant)
    ∧ (t.bus.flight = some (.poll 0) ∧ (t.bay 0).role = .none ∧ (t.bay 0).sensed = true
      ∧ (t.bay 0).cause = some .hot ∧ (t.bay 0).state = .faulted)
    ∧ { rep with sensed := false }.sensed = false := by decide +kernel

theorem witness_InsertionAdmits :
    let s := inFlight base (.poll 0)
    s.bus.flight = some (.poll 0) ∧ (s.bay 0).state = .vacant ∧ (s.bay 0).role = .none
    ∧ { rep with temp := 64 }.sensed = true ∧ rep.door = .closed ∧ rep.packFault = false
    ∧ { rep with temp := 64 }.temp < 65
    ∧ (let m := inFlight (matchedIn .matched) (.poll 0)
       m.bus.flight = some (.poll 0) ∧ { rep with count := 1 }.count ≠ (m.bay 0).count
         ∧ (m.bay 0).state = .charging ∧ m.eligible 0 = true ∧ (m.bay 0).role = .none
         ∧ (m.bay 0).matched = some ⟨.gateway, 5⟩
         ∧ m.claim? ⟨.gateway, 5⟩ = some (booking .matched (some 0)))
    ∧ (let m := inFlight (faulted .hot) (.poll 0)
       m.bus.flight = some (.poll 0) ∧ { rep with restart := true }.restart = true
         ∧ (m.bay 0).state = .faulted ∧ (m.bay 0).cause = some .hot) := by decide +kernel

theorem witness_IdentityMakesRecord :
    let s := inFlight admitting (.command { bay := 0, cmd := .identify 1, attempts := 0 } true)
    s.bus.flight = some (.command { bay := 0, cmd := .identify 1, attempts := 0 } true)
    ∧ (s.bay 0).link = .reachable ∧ (s.bay 0).state = .admitting
    ∧ (s.bay 0).admission = some { cause := .insertion, attempts := 1, held := false, number := 1 }
    ∧ (s.bay 0).cause = none ∧ (s.bay 0).role = .none ∧ (s.bay 0).matched = none ∧ (s.bay 0).pack = none
    ∧ rep.sensed = true ∧ rep.door = .closed ∧ rep.count = (s.bay 0).count ∧ rep.restart = false
    ∧ rep.packFault = false ∧ rep.temp < 65
    ∧ resolveProfile ident.abilities (s.bay 0).inForce ident.health (s.bay 0).ceiling ≠ none
    ∧ resolveProfile 0 (s.bay 0).inForce ident.health (s.bay 0).ceiling = none ∧ s.book.claims = [] := by
  decide +kernel

/-- Exchange 1 in INTAKE-CHECK with bay 1 its intake bay, and bay 2 with a pack, the take bay or free. -/
def checking (soc : Nat) (take : Option BayNo) (abort : Bool) : State :=
  inFlight ((((admitting.modBay 0 (fun r => { r with role := .intake 0 })).modBay 1 (fun r =>
    { r with link := .reachable, sensed := true, state := .charging, pack := some (pack soc),
             role := if take.isSome then .take 0 else .none,
             matched := take.map (fun _ => ⟨.gateway, 5⟩) })).setClaims [booking .swapping take]).setExch 0 (some
    { claim := ⟨.gateway, 5⟩, phase := .intakeCheck, intake := some 0, take := take, deadline := 30, start := 1000,
      abort := abort, relink := false })) (.command { bay := 0, cmd := .identify 1, attempts := 0 } true)

/-- The INTAKE-CHECK clauses: an abort or none, a take bay or none, the pack at the level or below it. -/
theorem witness_IdentityMakesRecord_exchange (take : Option BayNo) (ht : take = some 1 ∨ take = none)
    (abort : Bool) (soc : Nat) (hs : soc = 800 ∨ soc = 799) :
      let s := checking soc take abort
      s.bus.flight = some (.command { bay := 0, cmd := .identify 1, attempts := 0 } true)
        ∧ (s.bay 0).link = .reachable ∧ (s.bay 0).state = .admitting
        ∧ (s.bay 0).admission = some { cause := .insertion, attempts := 1, held := false, number := 1 }
        ∧ (s.bay 0).cause = none ∧ (s.bay 0).matched = none ∧ (s.bay 0).pack = none ∧ (s.bay 0).role = .intake 0
        ∧ (s.exch 0).map (fun e => (e.phase, e.intake, e.take, e.abort, e.claim)) =
            some (.intakeCheck, some 0, take, abort, ⟨.gateway, 5⟩)
        ∧ s.claim? ⟨.gateway, 5⟩ = some (booking .swapping take) ∧ (s.bay 1).link ≠ .lost
        ∧ (s.bay 1).readyFor 800 = decide (soc = 800) := by
  rcases ht with rfl | rfl <;> rcases hs with rfl | rfl <;> cases abort <;> decide +kernel

/-- The capacities at the ends of their range, and a replacement in the claim's own section, one across the split
for a due claim, and none. -/
theorem witness_IdentityMakesRecord_replacement :
    (800 ≤ (800 : Nat) ∧ (4000 : Nat) ≤ 4000 ∧ (799 : Nat) < 800 ∧ 4000 < (4001 : Nat))
    ∧ (let s := checking 800 none false
       let r := (s.modBay 1 (fun r => { r with bsection := .walkup })).bay 1
       (s.bay 1).candidate .m = true ∧ (s.bay 1).readyFor 800 = true ∧ (s.bay 1).bsection = .booked
         ∧ (∀ m, m ≠ 1 → (s.bay m).candidate .m = false) ∧ (s.bay 0).bsection = .booked
         ∧ r.candidate .m = true ∧ r.readyFor 800 = true ∧ r.bsection = .walkup
         ∧ 1200 ≤ s.clock.time + s.params.horizon)
    ∧ (∀ n, ((checking 799 none false).bay n).candidate .m = true →
        ((checking 799 none false).bay n).readyFor 800 = false) := by decide +kernel

/-- Bay 1 in a re-admission of this cause, its record kept, matched with a booking or with none. -/
def readmitting (k : AdmissionCause) (bound : Bool) : State :=
  inFlight ((if bound then matchedIn .matched else charging).modBay 0 (fun r =>
    { r with state := .admitting, grant := 0, ceiling := some .p1
             admission := some { cause := k, attempts := 1, held := false, number := 1 } }))
    (.command { bay := 0, cmd := .identify 1, attempts := 0 } true)

/-- The clauses of a RESTART and a FAULT-CLEAR admission: the same pack id and another, with a match and without, and
each way the result ends a match. -/
theorem witness_IdentityMakesRecord_readmission (k : AdmissionCause) (hk : k = .restart ∨ k = .faultClear)
    (bound : Bool) :
    let s := readmitting k bound
    let other := { ident with packId := 8 }
    s.bus.flight = some (.command { bay := 0, cmd := .identify 1, attempts := 0 } true)
      ∧ (s.bay 0).link = .reachable ∧ (s.bay 0).state = .admitting ∧ (s.bay 0).cause = none
      ∧ (s.bay 0).admission = some { cause := k, attempts := 1, held := false, number := 1 } ∧ k ≠ .insertion
      ∧ (s.bay 0).role = .none ∧ (s.bay 0).pack = some (pack 900) ∧ (pack 900).id = ident.packId
      ∧ (pack 900).id ≠ other.packId ∧ rep.count = (s.bay 0).count ∧ (s.bay 0).service = .inService
      ∧ (s.bay 0).matched = (if bound then some ⟨.gateway, 5⟩ else none)
      ∧ (bound = true → s.claim? ⟨.gateway, 5⟩ = some (booking .matched (some 0)))
      ∧ (bound = false → s.book.claims = [])
      ∧ resolveProfile ident.abilities (s.bay 0).inForce ident.health (s.bay 0).ceiling = some .p1
      ∧ resolveProfile 0b1000 (s.bay 0).inForce ident.health (s.bay 0).ceiling = none
      ∧ resolveProfile 0b1000 (s.bay 0).inForce ident.health none = some .p3
      ∧ (booking .matched (some 0)).cls = .m ∧ ¬(1601 ≤ 1600) ∧ (1601 : Nat) ≤ 2800 := by
  rcases hk with rfl | rfl <;> cases bound <;> decide +kernel

theorem witness_FillHysteresis : (charging.bay 0).pack = some (pack 900) ∧ (charging.bay 0).link ≠ .lost
    ∧ (((withBay (fun r => { r with pack := some (pack 950) })).fillTest 0).bay 0).state ≠ .charging := by
  decide +kernel

theorem witness_OpenBooking : base.free .gateway ∧ 2 < (3 : Byte).toNat ∧ 1000 < (1001 : Half).toNat
    ∧ 1 < (2 : Byte).toNat
    ∧ ¬((5 : Half) = 0 ∨ 2 < (2 : Byte).toNat ∨ 1000 < (1000 : Half).toNat ∨ 1 < (1 : Byte).toNat)
    ∧ State.reset.clock.isSet = false ∧ base.clock.isSet = true
    ∧ base.clock.time + 86400 < (87401 : Word).toNat ∧ (87400 : Word).toNat ≤ base.clock.time + 86400
    ∧ (ready.claim? ⟨.gateway, 5⟩).isSome = true
    ∧ (fullBook.claim? ⟨.gateway, 5⟩ = none ∧ 48 ≤ fullBook.book.claims.length)
    ∧ (base.claim? ⟨.gateway, 5⟩ = none ∧ base.book.claims.length < 48 ∧ classOfByte 2 = some .l) :=
  ⟨rfl, by decide +kernel⟩

theorem witness_OpenWalkup : base.free .terminal
    ∧ ¬((5 : Half) = 0 ∨ 2 < (2 : Byte).toNat ∨ 1000 < (1000 : Half).toNat)
    ∧ closed.schedule.walkupsOpen = false ∧ base.schedule.walkupsOpen = true
    ∧ ((base.setClaims [{ booking .waiting none with id := ⟨.terminal, 5⟩ }]).claim? ⟨.terminal, 5⟩).isSome = true
    ∧ (fullBook.claim? ⟨.terminal, 5⟩ = none ∧ 48 ≤ fullBook.book.claims.length)
    ∧ (base.claim? ⟨.terminal, 5⟩ = none ∧ base.book.claims.length < 48)
    ∧ base.clock.time + 900 ≤ 4294967295 := ⟨rfl, by decide +kernel⟩

/-- A booking whose due time has long passed. -/
def late : State := base.setClaims [{ booking .waiting none with due := 600, hold := some 900 }]

theorem witness_AmendBooking : ready.free .gateway
    ∧ (0xF0 : Byte).extractLsb' 0 4 = 0
    ∧ ¬((5 : Half) = 0 ∨ (0x0F : Byte).extractLsb' 0 4 = 0 ∨ ((0x0F : Byte).getLsbD 3 = true ∧ 2 < (2 : Byte).toNat)
        ∨ ((0x0F : Byte).getLsbD 2 = true ∧ 1000 < (1000 : Half).toNat))
    ∧ base.claim? ⟨.gateway, 5⟩ = none
    ∧ ready.claim? ⟨.gateway, 5⟩ = some (booking .ready (some 0))
    ∧ (swap .takeOpen).claim? ⟨.gateway, 5⟩ = some (booking .swapping (some 0))
    ∧ ((0x0F : Byte).getLsbD 0 = true ∧ ready.clock.time + 86400 < (87401 : Word).toNat)
    ∧ (late.claim? ⟨.gateway, 5⟩ = some { booking .waiting none with due := 600, hold := some 900 }
      ∧ 600 + min 1800 (max 300 (300 : Half).toNat) ≤ late.clock.time)
    ∧ ready.clock.time < 1200 + min 1800 (max 300 (300 : Half).toNat) := ⟨rfl, by decide +kernel⟩

theorem witness_CancelClaim : ready.free .terminal ∧ ready.free .gateway ∧ Port.gateway ≠ .cabinet
    ∧ ((3 : Byte) ≠ 1 ∧ (3 : Byte) ≠ 2) ∧ originOfByte 1 = some .gateway ∧ originOfByte 2 = some .terminal
    ∧ ready.claim? ⟨.gateway, 6⟩ = none
    ∧ ready.claim? ⟨.gateway, 5⟩ = some (booking .ready (some 0))
    ∧ (swap .takeOpen).claim? ⟨.gateway, 5⟩ = some (booking .swapping (some 0)) :=
  ⟨rfl, rfl, nofun, by decide +kernel⟩

theorem witness_KeyedReads : ready.free .gateway ∧ originOfByte 1 = some .gateway
    ∧ ready.claim? ⟨.gateway, 6⟩ = none ∧ ready.claim? ⟨.gateway, 5⟩ = some (booking .ready (some 0))
    ∧ 48 < (49 : Byte).toNat ∧ (48 : Byte).toNat ≤ 48
    ∧ 4 < (5 : Byte).toNat ∧ (4 : Byte).toNat = (3 : ExNo).val + 1 ∧ ready.exch 3 = none
    ∧ (swap .takeOpen).exch 0 ≠ none
    ∧ ((swap .takeOpen).claim? ⟨.gateway, 5⟩ = some (booking .swapping (some 0))
      ∧ ((swap .takeOpen).exch 0).map (fun e => (e.claim, e.phase)) = some (⟨.gateway, 5⟩, .takeOpen)
      ∧ ∀ y : ExNo, y ≠ 0 → (swap .takeOpen).exch y = none)
    ∧ 32 < (33 : Byte).toNat ∧ 8 < (9 : Byte).toNat ∧ (32 : Byte).toNat ≤ 32 ∧ (8 : Byte).toNat ≤ 8 :=
  ⟨rfl, by decide +kernel⟩

/-- The book of `ready` is in order. -/
theorem ready_bookOk : ready.bookOk := by
  unfold State.bookOk
  decide +kernel

theorem witness_StepKeepsBookOk : { ready with pending := [.busDispatch] }.bookOk
    ∧ ∃ t, step { ready with pending := [.busDispatch] } = .next t := ⟨ready_bookOk, _, rfl⟩

theorem witness_WaitingClaimTaken : waiting.claim? ⟨.gateway, 5⟩ = some (booking .waiting none)
    ∧ waiting.chooseBay (booking .waiting none) = none
    ∧ offered.claim? ⟨.gateway, 5⟩ = some (booking .waiting none)
    ∧ offered.chooseBay (booking .waiting none) = some (0, .own)
    ∧ (offered.modBay 0 (fun r => { r with bsection := .walkup })).chooseBay (booking .waiting none) =
        some (0, .borrow) := by decide +kernel

/-- One WAITING walk-up of a level, and bay 1 with SoC 900 in a section. -/
def walkup (level : Nat) (sec : BaySection) : State :=
  (charging.setClaims [{ booking .waiting none with id := ⟨.terminal, 5⟩, level := level }]).modBay 0
    (fun r => { r with bsection := sec })

/-- A walk-up's three steps: its own section at its level, across the split while the book is covered, and its
own section below the level (R64, R65). -/
theorem witness_WaitingClaimTaken_walkup :
    (∀ level ∈ [900, 901], ∀ sec ∈ [BaySection.booked, .walkup],
      let c := { booking .waiting none with id := ⟨.terminal, 5⟩, level := level }
      (walkup level sec).claim? ⟨.terminal, 5⟩ = some c
        ∧ (walkup level sec).chooseBay c =
            (if level = 900 then some (0, if sec = .walkup then .own else .borrow)
             else if sec = .walkup then some (0, .deadline) else none))
    ∧ ∀ k ∈ (walkup 900 .booked).book.claims, k.id.origin ≠ .gateway := by decide +kernel

theorem witness_ReadyTest : (matchedIn .matched).claim? ⟨.gateway, 5⟩ = some (booking .matched (some 0))
    ∧ (matchedIn .ready).claim? ⟨.gateway, 5⟩ = some (booking .ready (some 0))
    ∧ (matchedIn .ready).clock.time + 180 ≤ 4294967295 := by decide +kernel

theorem witness_UrgencyOrder : pair.urgencyOrder[0]? = some 1 ∧ pair.urgencyOrder[1]? = some 0 := by
  decide +kernel

theorem witness_PlanWithinBudget : pair.takesPart 0 = true ∧ pair.takesPart (sibling 0) = true
    ∧ ((pair.plan.entry 0).grant, (pair.plan.entry 1).grant) = (1600, 1600)
    ∧ pair.takesPart 2 = false ∧ (pair.matchedClaim 0 ≠ none ∧ pair.need 0 = 0) ∧ pair.matchedClaim 1 = none
    ∧ (let s := pair.setClaims [{ booking .matched (some 0) with level := 950 }]
       s.matchedClaim 0 ≠ none ∧ 0 < s.need 0 ∧ 0 < (s.plan.entry 0).grant
         ∧ ((s.modGrants (fun g => { g with feed := .stale })).plan.entry 0).grant = 0) := by decide +kernel

/-- `pair` with no replan wanted, this many frames after the last install. -/
def since (n : Nat) : State := pair.modGrants (fun g => { g with replan := false, since := n })

theorem witness_FrameBoundary : ((since 13).grants.replan = false ∧ (since 13).grants.since < 14)
    ∧ 14 ≤ (since 14).grants.since ∧ pair.grants.replan = true
    ∧ pair.claim? ⟨.gateway, 5⟩ = some (booking .ready (some 0))
    ∧ (some (0 : BayNo)).bind (fun b => (pair.plan.entry b).projected) = some 1000
    ∧ ((none : Option BayNo).bind (fun b => (pair.plan.entry b).projected) = none)
    ∧ ((pair.bay 0).pack = some (pack 900) ∧ 800 ≤ (pack 900).soc) := by decide +kernel

/-- The book of `pair` is in order. -/
theorem witness_FrameBoundary_book : pair.bookOk := by
  unfold State.bookOk
  decide +kernel

/-- Bay 1 below its claim's level: at risk as its projection, late for the claim or none, has it. -/
theorem test_frameBoundary_atRisk : (after .frameBoundary
    (pair.setClaims [{ booking .matched (some 0) with level := 950, due := 1001 }])).map
    (fun t => t.book.claims.map (fun c => (c.atRisk, decide (c.projected.any (1001 < ·))))) =
    some [(true, true)] := by decide +kernel

theorem witness_ReportFeed : ready.free .cabinet ∧ ready.grants.usable ≤ 18000
    ∧ (let h : Header := { frame := 1, feed := 19500, hEven := 0, hOdd := 0 }
       (ready.modGrants (fun g => { g with header := some h })).grants.header = some h ∧ h.feed < 20000
       ∧ h.feed + ready.params.feedBand ≤ 20000) := ⟨rfl, by decide +kernel⟩

theorem witness_SetModule : ready.free .cabinet ∧ 12 < (13 : Byte).toNat ∧ 1 < (2 : Byte).toNat
    ∧ (12 : Byte).toNat = (11 : ModNo).val + 1 ∧ (1 : Byte).toNat ≤ 1
    ∧ ready.grants.modules.get 0 = { limit := min 4000 (3049 : Half).toNat / 50 * 50, fault := false }
    ∧ ready.grants.modules.get 0 ≠ { limit := min 4000 (2999 : Half).toNat / 50 * 50, fault := false }
    ∧ moduleOf 1 = 0 ∧ moduleOf 2 ≠ 0 := ⟨rfl, by decide +kernel⟩

theorem witness_HaltAndResume : ready.free .cabinet ∧ ready.grants.halt = false
    ∧ (ready.modGrants (fun g => { g with halt := true, usable := 0 })).grants.halt = true := ⟨rfl, rfl, rfl⟩

theorem witness_StalenessTimeout : ready.grants.feed = .current := rfl

/-- The draw of `ready` is within its budget. -/
theorem ready_drawOk : ready.drawOk := by
  have h0 : (ready.bay 0).grant = 400 ∧ (ready.bay 0).parity ≠ .none ∧ (ready.bay 0).rank = some 1 := by
    decide +kernel
  have hz : ∀ b : BayNo, b ≠ 0 → (ready.bay b).grant = 0 := by decide +kernel
  refine ⟨fun b => ?_, by decide +kernel, by decide +kernel, by decide +kernel, fun b _ h => ?_⟩
  · by_cases hb : b = 0
    · subst hb
      exact .inr ⟨by omega, by omega, h0.2.1, 1, h0.2.2, by omega, by omega⟩
    · exact .inl (hz b hb)
  · have hs : sibling b = 0 := by
      by_contra hne
      exact h (hz _ hne)
    have hb : b = 1 := by
      revert hs
      revert b
      decide
    subst hb
    rw [hs]
    decide +kernel

theorem witness_StepKeepsDrawOk : { ready with pending := [.clockAdvance] }.drawOk
    ∧ ∃ t, step { ready with pending := [.clockAdvance] } = .next t := ⟨ready_drawOk, _, rfl⟩

theorem witness_BeginSwap : ready.free .terminal ∧ originOfByte 1 = some .gateway
    ∧ ready.claim? ⟨.gateway, 6⟩ = none
    ∧ (swap .takeOpen).claim? ⟨.gateway, 5⟩ = some (booking .swapping (some 0))
    ∧ (matchedIn .matched).claim? ⟨.gateway, 5⟩ = some (booking .matched (some 0))
    ∧ (waiting.claim? ⟨.gateway, 5⟩ = some (booking .waiting none))
    ∧ (ready.claim? ⟨.gateway, 5⟩ = some (booking .ready (some 0)) ∧ (ready.bay 0).readyFor 800 = true
      ∧ ready.exch 0 = none ∧ (∀ y : ExNo, y < 0 → ready.exch y ≠ none)
      ∧ ready.chooseIntake (booking .ready (some 0)) = some 1)
    ∧ (∀ b, ((matchedIn .ready).bay b).intakeFit = false)
    ∧ (∀ x, { ready with exchanges := Vector.replicate 4 ((swap .takeOpen).exch 0) }.exch x ≠ none)
    ∧ (decide ((booking .ready (some 0)).returned = none) && !(booking .ready (some 0)).firstIssue) = true
    ∧ (decide ((booking .ready (some 0)).returned = none) && !true) = false := ⟨rfl, by decide +kernel⟩

theorem witness_AbortSwap : ready.free .terminal ∧ 4 < (5 : Byte).toNat ∧ (4 : Byte).toNat = (3 : ExNo).val + 1
    ∧ ready.exch 0 = none
    ∧ (∀ ph : Phase, ph ∈ ([.intakeOpen, .intakeCheck, .returnRejected, .takeOpen, .takeClosing] : List Phase) →
        ((swap ph).exch 0).map (fun e => (e.phase, e.intake, e.take, e.abort, e.claim)) =
          some (ph, some 1, some 0, false, ⟨.gateway, 5⟩))
    ∧ (((swap .intakeOpen).bay 1).shut = true ∧ ((swap .intakeOpen).bay 1).sensed = false)
    ∧ ((swap .takeOpen).bay 0).shut = true
    ∧ (((swap .intakeOpen).bay 1).link ≠ .lost ∧ ((swap .takeOpen).bay 0).link ≠ .lost)
    ∧ (((swap .intakeOpen).modBay 1 (fun r => { r with latch := .unlocked })).bay 1).shut = false
    ∧ (((swap .takeOpen).modBay 0 (fun r => { r with door := .opened })).bay 0).shut = false :=
  ⟨rfl, by decide +kernel⟩

theorem witness_PhaseDeadlines :
    (∀ ph : Phase, ph ∈ ([.intakeOpen, .intakeCheck, .returnRejected, .takeOpen, .takeClosing] : List Phase) →
        ((swap ph).exch 0).map (fun e => (e.phase, e.intake, e.take)) = some (ph, some 1, some 0)
          ∧ ((swap ph).bay 1).role = .intake 0 ∧ ((swap ph).bay 0).role = .take 0
          ∧ ((swap ph).bay 1).cause = none)
    ∧ ((swap .takeClosing).setClaims []).claim? ⟨.gateway, 5⟩ = none
    ∧ (∀ ph : Phase, ph ∈ ([.intakeOpen, .returnRejected, .takeOpen, .takeClosing] : List Phase) →
        ∀ b ∈ ([0, 1] : List BayNo), ∀ k ∈ [none, some FaultCause.hot],
          (((swap ph).modBay b (fun r => { r with door := .opened, cause := k })).bay b).door = .opened
            ∧ (((swap ph).modBay b (fun r => { r with door := .opened, cause := k })).bay b).cause = k
            ∧ ((swap ph).bay b).link ≠ .lost)
    ∧ (((swap .returnRejected).modBay 1 (fun r => { r with sensed := true })).bay 1).sensed = true
    ∧ (((swap .takeOpen).modBay 0 (fun r => { r with link := .lost })).bay 0).link = .lost := by decide +kernel

theorem witness_PackTakenClosesClaim :
    let s := inFlight (swap .takeOpen) (.poll 0)
    s.bus.flight = some (.poll 0)
    ∧ (s.exch 0).map (fun e => (e.phase, e.intake, e.take)) = some (.takeOpen, some 1, some 0)
    ∧ (s.bay 0).role = .take 0 ∧ (s.bay 0).sensed = true ∧ { rep with sensed := false }.sensed = false := by
  decide +kernel

/-- Exchange 1 in a phase with an abort or without, and a poll of one of its bays in flight. -/
def following (ph : Phase) (b : BayNo) (abort : Bool) : State :=
  inFlight ((swap ph).modExch 0 (fun e => { e with abort := abort })) (.poll b)

/-- Each phase of O48 with its bay, with an abort or without. -/
theorem witness_PackTakenClosesClaim_phases (abort : Bool) :
    (∀ ph ∈ ([.intakeOpen, .intakeCheck, .returnRejected] : List Phase),
      let s := following ph 1 abort
      s.bus.flight = some (.poll 1) ∧ (s.bay 1).role = .intake 0 ∧ (s.bay 1).state = .vacant
        ∧ (s.bay 1).cause = none
        ∧ (s.exch 0).map (fun e => (e.phase, e.intake, e.abort)) = some (ph, some 1, abort))
    ∧ (∀ ph ∈ ([.takeOpen, .takeClosing] : List Phase),
      let s := following ph 0 abort
      s.bus.flight = some (.poll 0) ∧ (s.bay 0).role = .take 0 ∧ (s.bay 0).sensed = true
        ∧ (s.bay 0).count = rep.count
        ∧ (s.exch 0).map (fun e => (e.phase, e.take, e.abort)) = some (ph, some 0, abort)) := by
  cases abort <;> decide +kernel

/-- The reports of O48 at their boundaries, a removal in INTAKE-CHECK, and a rejected pack taken back. -/
theorem witness_PackTakenClosesClaim_reports :
    (rep.door = .closed ∧ rep.latch = .locked ∧ rep.sensed = true ∧ rep.restart = false
      ∧ { rep with temp := 64 }.temp < 65 ∧ rep.packFault = false)
    ∧ ¬({ rep with temp := 65 }.packFault = false ∧ { rep with temp := 65 }.temp < 65)
    ∧ ¬({ rep with packFault := true }.packFault = false ∧ { rep with packFault := true }.temp < 65)
    ∧ { rep with door := .opened, latch := .unlocked, sensed := false }.door = .opened
    ∧ (let s := inFlight (checking 800 (some 1) false) (.poll 0)
       s.bus.flight = some (.poll 0) ∧ (s.bay 0).role = .intake 0 ∧ (s.bay 0).state = .admitting
         ∧ (s.bay 0).sensed = true ∧ (s.exch 0).map (fun e => (e.phase, e.intake)) = some (.intakeCheck, some 0))
    ∧ (let s := (following .returnRejected 1 false).modBay 1
         (fun r => { r with sensed := true, state := .faulted, cause := some .packError })
       (s.bay 1).sensed = true ∧ (s.bay 1).state = .faulted ∧ (s.bay 1).cause = some .packError
         ∧ (s.bay 1).role = .intake 0) := by decide +kernel

/-- Another insertion count or a node restart in TAKE-OPEN, with an abort or without; a replacement in the claim's
section (bay 3 here), and none. -/
theorem witness_PackTakenClosesClaim_changed (abort : Bool) :
    let s := following .takeOpen 0 abort
    let u := s.modBay 2 (fun r =>
      { r with link := .reachable, sensed := true, state := .topped, pack := some (pack 800) })
    s.bus.flight = some (.poll 0) ∧ (s.bay 0).role = .take 0 ∧ (s.bay 0).state = .charging
      ∧ (s.exch 0).map (fun e => (e.phase, e.take, e.abort, e.claim)) = some (.takeOpen, some 0, abort, ⟨.gateway, 5⟩)
      ∧ { rep with count := 1 }.count ≠ (s.bay 0).count ∧ { rep with restart := true }.restart = true
      ∧ s.claim? ⟨.gateway, 5⟩ = some (booking .swapping (some 0))
      ∧ (∀ n, (s.bay n).candidate .m = false)
      ∧ ((u.bay 2).candidate .m = true ∧ (u.bay 2).readyFor 800 = true ∧ (u.bay 2).bsection = .booked
        ∧ ∀ n, n ≠ 2 → (u.bay n).candidate .m = false) := by
  cases abort <;> decide +kernel

theorem witness_BusTurns : base.bus.flight = none ∧ base.bus.lockAllPending = true
    ∧ (let u : Bus := { base.bus with lockAllPending := false,
                                      queue := [{ bay := 0, cmd := .lock, attempts := 0 }], sent := 3 }
       u.queue = { bay := 0, cmd := .lock, attempts := 0 } :: [] ∧ u.lockAllPending = false ∧ u.sent < 4)
    ∧ (let u : Bus := { base.bus with lockAllPending := false, sent := 4 }
       u.lockAllPending = false ∧ u.queue = [] ∧ 4 ≤ u.sent)
    ∧ (inFlight base .lockAll).bus.flight = some .lockAll := by decide

theorem witness_MissCounts :
    let e : Entry := { bay := 0, cmd := .lock, attempts := 1 }
    let s := inFlight (base.modBay 0 (fun r => { r with misses := 1 })) (.command e true)
    s.bus.flight = some (.command e true) ∧ (Flight.command e true).bay? = some 0 ∧ (s.bay 0).misses < 2
    ∧ (s.bay 0).link ≠ .lost ∧ e.attempts < 2 ∧ s.passDue = false
    ∧ 2 ≤ ((s.modBay 0 (fun r => { r with misses := 2 })).bay 0).misses ∧ (2 : Byte).toNat ≠ bayNumber 0 := by
  decide +kernel

/-- The third attempt of a command, and the miss that makes the last bay LOST. -/
theorem witness_MissCounts_last :
    (let e : Entry := { bay := 0, cmd := .lock, attempts := 2 }
     let s := inFlight base (.command e true)
     s.bus.flight = some (.command e true) ∧ (s.bay 0).misses < 2 ∧ (s.bay 0).link ≠ .lost ∧ 2 ≤ e.attempts
       ∧ s.bus.ok ∧ s.passDue = false ∧ (s.bay 0).relock = false
       ∧ ((s.modBay 0 (fun r => { r with relock := true })).bay 0).relock = true)
    ∧ (let s := inFlight { base with bays := Vector.replicate 24 { base.bay 0 with link := .lost } } (.poll 0)
       let s := s.modBay 0 (fun r => { r with link := .reachable, misses := 2 })
       s.bus.flight = some (.poll 0) ∧ (2 ≤ (s.bay 0).misses ∧ (s.bay 0).link ≠ .lost)
         ∧ ∀ c, c ≠ 0 → (s.bay c).link = .lost) := by
  unfold Bus.ok
  decide +kernel

/-- A bay two misses away from LOST: the bay of a READY claim with its grant, a bay with an admission, and the intake
and the take bay of an exchange in each phase. -/
theorem witness_MissCounts_lost :
    let near (s : State) (b : BayNo) := inFlight (s.modBay b (fun r => { r with misses := 2 })) (.poll b)
    (let s := near ready 0
     s.bus.flight = some (.poll 0) ∧ 2 ≤ (s.bay 0).misses ∧ (s.bay 0).link ≠ .lost ∧ s.eligible 0 = true
       ∧ (s.bay 0).grant ≠ 0 ∧ (s.bay 0).matched = some ⟨.gateway, 5⟩
       ∧ s.claim? ⟨.gateway, 5⟩ = some (booking .ready (some 0)) ∧ (s.bay 0).role = .none)
    ∧ (let s := near admitting 0
       2 ≤ (s.bay 0).misses ∧ (s.bay 0).link ≠ .lost ∧ (s.bay 0).state = .admitting
         ∧ (s.bay 0).admission.isSome = true)
    ∧ ∀ ph ∈ ([.intakeOpen, .intakeCheck, .returnRejected, .takeOpen, .takeClosing] : List Phase),
        (let s := near (swap ph) 1
         2 ≤ (s.bay 1).misses ∧ (s.bay 1).link ≠ .lost ∧ (s.bay 1).role = .intake 0
           ∧ (s.exch 0).map (fun e => (e.phase, e.intake)) = some (ph, some 1))
        ∧ (let s := near (swap ph) 0
           2 ≤ (s.bay 0).misses ∧ (s.bay 0).link ≠ .lost ∧ (s.bay 0).role = .take 0
             ∧ (s.exch 0).map (fun e => (e.phase, e.take, e.claim)) = some (ph, some 0, ⟨.gateway, 5⟩)
             ∧ (s.bay 0).matched = some ⟨.gateway, 5⟩
             ∧ s.claim? ⟨.gateway, 5⟩ = some (booking .swapping (some 0))) := by decide +kernel

theorem witness_ReadLinkCounters : ready.free .gateway := rfl

theorem witness_QueueRules :
    ({ base.bus with queue := [{ bay := 0, cmd := .lock, attempts := 0 }],
                     flight := some (.command { bay := 0, cmd := .identify 1, attempts := 0 } true) } : Bus).ok
    ∧ ({ base.bus with queue := [{ bay := 0, cmd := .lock, attempts := 0 }] } : Bus).flight = none := by
  unfold Bus.ok
  decide

theorem witness_QueueRules_step : { ready with pending := [.busDispatch] }.bus.ok
    ∧ ∃ t, step { ready with pending := [.busDispatch] } = .next t :=
  ⟨by unfold Bus.ok; decide +kernel, _, rfl⟩

theorem witness_FaultPrecedence : (charging.bay 0).cause = none ∧ charging.eligible 0 = true
    ∧ (admitting.bay 0).admission.isSome = true ∧ ((faulted .doorAjar).bay 0).cause = some .doorAjar := by
  decide +kernel

theorem witness_ClearBayFault : ready.free .gateway ∧ 24 < (25 : Byte).toNat ∧ (1 : Byte).toNat = bayNumber 0
    ∧ ((swap .takeOpen).bay 0).role ≠ .none
    ∧ (base.bay 0).link ≠ .reachable
    ∧ (let r := (withBay (fun r => { r with door := .opened })).bay 0
       r.role = .none ∧ r.link = .reachable ∧ r.door = .opened)
    ∧ (let r := (withBay (fun r => { r with lastTemp := 65 })).bay 0
       r.door = .closed ∧ r.sensed = true ∧ 65 ≤ r.lastTemp)
    ∧ (let r := (withBay (fun r => { r with lastTemp := 64, lastFault := true })).bay 0
       r.sensed = true ∧ r.lastTemp < 65 ∧ r.lastFault = true)
    ∧ (let r := charging.bay 0
       r.link = .reachable ∧ r.door = .closed ∧ r.lastTemp < 65 ∧ r.lastFault = false ∧ r.cause = none)
    ∧ ((faulted .charge).bay 0).cause = some .charge
    ∧ (let r := ((faulted .charge).modBay 0 Bay.withoutPack).bay 0
       r.pack = none ∧ r.sensed = true) := ⟨rfl, by decide +kernel⟩

theorem witness_WriteDerateRow : charging.free .gateway ∧ 8 < (9 : Byte).toNat
    ∧ (8 : Byte).toNat = (7 : RowNo).val + 1
    ∧ (-40 ≤ (85 : Byte).toInt ∧ (85 : Byte).toInt ≤ 85
      ∧ ∀ j : RowNo, (j.val + 1 = 7 → (charging.derate.get j).bound < (85 : Byte).toInt)
        ∧ (7 + 1 = j.val → (85 : Byte).toInt < (charging.derate.get j).bound))
    ∧ ¬(86 : Byte).toInt ≤ 85
    ∧ charging.derate.get 7 = { bound := (55 : Byte).toInt, pctS := 10, pctM := 10, pctL := 5 }
    ∧ bandOf charging.derate (pack 900).temp = .row 3 := ⟨rfl, by decide +kernel⟩

theorem witness_SetTime : ready.free .gateway ∧ ready.bookOk ∧ ready.clock.isSet = true
    ∧ (((1000 : Word).toNat : Int) - (ready.clock.time : Int) = 0)
    ∧ (((1120 : Word).toNat : Int) - (ready.clock.time : Int) = 120)
    ∧ (((1121 : Word).toNat : Int) - (ready.clock.time : Int) = 121)
    ∧ (∃ c ∈ ready.book.claims, c.id.origin = .gateway)
    ∧ State.reset.clock.isSet = false
    ∧ (base.clock.isSet = true ∧ base.book.claims = [] ∧ base.schedule.directives = []
      ∧ base.schedule.windows = []) := ⟨rfl, ready_bookOk, by decide +kernel⟩

theorem witness_SetKioskParams : charging.free .gateway ∧ (0x80 : Byte) ≠ 0
    ∧ (ready.params.reserve, ready.params.split, ready.schedule.effective) = (2000, 12, 2000)
    ∧ (after (.setKioskParams .gateway 0x41 3000 0 0 0 0 0 0 0) ready).map (fun t =>
        (t.params.reserve, t.params.split, t.schedule.effective)) = some (3000, 0, 3000)
    ∧ (after (.setKioskParams .gateway 0x01 1000 0 0 0 0 0 0 0) ready).map (fun t => t.schedule.effective) =
        some 1000 :=
  ⟨rfl, by decide +kernel⟩

/-- A pending directive. -/
def directive : Directive := { number := 1, kind := .split, time := 1001, value := some 0, duration := none }

theorem witness_ScheduleRequests : base.free .gateway ∧ 6 < (7 : Byte).toNat ∧ kindOfByte 6 = some .closeWalkupWindow
    ∧ State.reset.clock.isSet = false ∧ base.clock.isSet = true
    ∧ 32 ≤ (base.modSchedule (fun h => { h with directives := List.replicate 32 directive })).schedule.directives.length
    ∧ base.schedule.directives.length < 32 ∧ (7 : Byte) ≠ 0xFF
    ∧ closed.params.reserve = closed.schedule.effective ∧ base.schedule.windows = []
    ∧ (closed.modSchedule (fun h => { h with effective := 3000 })).schedule.effective > closed.params.reserve :=
  ⟨rfl, by decide +kernel⟩

theorem witness_ScheduleRequests_goes :
    ∃ k, kindOfByte 2 = some k ∧ ∀ j : DirKind, decide (j = .split) = decide (j = k) := ⟨.split, rfl, fun _ => rfl⟩

/-- A claim that expires at a time. -/
def expiring (state : ClaimState) (t : Nat) : State := base.setClaims [{ booking state none with expiry := t }]

theorem expiring_bookOk (state : ClaimState) (t : Nat) : (expiring state t).bookOk :=
  ⟨rfl, by show 1 ≤ 48; decide, List.nodup_singleton _, List.pairwise_singleton _ _⟩

theorem witness_ClockAdvance : (expiring .waiting 1001).bookOk ∧ (expiring .waiting 1002).bookOk
    ∧ ((expiring .waiting 1001).claim? ⟨.gateway, 5⟩).map (fun c => c.expiry) = some 1001
    ∧ ((expiring .swapping 900).claim? ⟨.gateway, 5⟩).map (fun c => c.state) = some .swapping
    ∧ 4294967295 ≤ { base with clock := { time := 4294967295, isSet := true } }.clock.time
    ∧ base.clock.time + 1 + 180 ≤ 4294967295
    ∧ ∀ d ∈ base.schedule.directives, base.clock.time + 1 < d.time :=
  ⟨expiring_bookOk _ _, expiring_bookOk _ _, by decide +kernel⟩

/-- One directive due at the next second, and this many windows that go on. -/
def scheduled (k : DirKind) (windows : Nat) : State :=
  base.modSchedule (fun h =>
    { h with directives := [{ directive with kind := k, duration := some 60 }],
             windows := List.replicate windows { closing with stop := 1002 } })

/-- One due directive of a parameter kind and of either window kind, with room for a window and with none. -/
theorem witness_ClockAdvance_schedule :
    (∀ k ∈ ([.split, .reserveWindow, .closeWalkupWindow] : List DirKind), ∀ n ∈ [7, 8],
      let s := scheduled k n
      s.schedule.directives.filter (fun d => decide (d.time ≤ s.clock.time + 1)) =
          [{ directive with kind := k, duration := some 60 }]
        ∧ (s.schedule.windows.filter (fun w => decide (s.clock.time + 1 < w.stop))).length = n)
    ∧ (∀ d ∈ base.schedule.directives, base.clock.time + 1 < d.time)
    ∧ (∃ w ∈ closed.schedule.windows, w.stop ≤ closed.clock.time + 1)
    ∧ 1001 + 60 ≤ 4294967295
    ∧ (scheduled .split 7).bookOk := by
  refine ⟨by decide +kernel, nofun, by decide +kernel, by decide, ?_⟩
  unfold State.bookOk
  decide +kernel

/-- A TRIM of one second that a directive and a window's end fall due at, one of 120 back, one that reaches a claim's
expiry and one that does not, a claim that enters READY first at it, and a SET with step 0. -/
theorem witness_SetTime_trim :
    let s := scheduled .reserveWindow 7
    (s.free .gateway ∧ s.clock.isSet = true ∧ ((1001 : Word).toNat : Int) - (s.clock.time : Int) = 1
      ∧ s.schedule.directives.filter (fun d => decide (d.time ≤ (1001 : Word).toNat)) =
          [{ directive with kind := .reserveWindow, duration := some 60 }]
      ∧ (∃ w ∈ s.schedule.windows, (1001 : Word).toNat < w.stop)
      ∧ (∃ w ∈ closed.schedule.windows, w.stop ≤ (1001 : Word).toNat))
    ∧ ((880 : Word).toNat : Int) - (ready.clock.time : Int) = -120
    ∧ (booking .ready (some 0)).expiry = 1500 ∧ (booking .ready (some 0)).state ≠ .swapping
    ∧ (let t := ready.putTime 1400
       t.free .gateway ∧ ((1500 : Word).toNat : Int) - (t.clock.time : Int) = 100
         ∧ 1500 ≤ (1500 : Word).toNat ∧ (1499 : Word).toNat < 1500)
    ∧ (let m := matchedIn .matched
       m.claim? ⟨.gateway, 5⟩ = some (booking .matched (some 0)) ∧ (booking .matched (some 0)).firstReady = none
         ∧ (m.bay 0).readyFor 800 = true)
    ∧ State.reset.clock.isSet = false ∧ ((0 : Word).toNat : Int) - (State.reset.clock.time : Int) = 0 := by
  refine ⟨⟨rfl, by decide +kernel⟩, by decide +kernel, by decide, by decide, ⟨rfl, by decide +kernel⟩, ?_⟩
  decide +kernel

theorem witness_IdleEventsChangeNothing : (inFlight base .lockAll).bus.flight ≠ none
    ∧ base.bus.flight ≠ some .lockAll ∧ base.bus.flight = none ∧ base.grants.feed ≠ .current
    ∧ (∀ e, base.exch 0 = some e → e.phase ≠ .takeOpen)
    ∧ ∀ e, (swap .takeOpen).exch 0 = some e → e.phase ≠ .intakeOpen :=
  ⟨nofun, nofun, rfl, nofun, nofun, by
    intro e h
    have k : ((swap .takeOpen).exch 0).map (fun e => e.phase) = some .takeOpen := by decide +kernel
    rw [h] at k
    rw [show e.phase = .takeOpen from Option.some.inj k]
    decide⟩

end Sys2Proof.Tests
end

section
open Sys2Proof Sys2Proof.Machine
namespace Sys2Proof.Machine

/-- A bay's record right after power-on. -/
theorem State.reset_bay (b : BayNo) : State.reset.bay b = Bay.powerOn b := ofFn_get _ b

theorem exec_powerOn (s : State) : exec .powerOn s = .next s.powerOn := rfl

theorem State.powerOn_bay (s : State) (b : BayNo) : s.powerOn.bay b = Bay.powerOn b := State.reset_bay b

theorem State.powerOn_exch (s : State) (x : ExNo) : s.powerOn.exch x = none := by
  simp [State.powerOn, State.reset, State.exch, Vector.get_eq_getElem]

theorem State.powerOn_port (s : State) (p : Port) : s.powerOn.ports.get p = PortState.powerOn := by
  cases p <;> rfl

theorem moduleTable_powerOn (m : ModNo) : Grants.powerOn.modules.get m = { limit := 3000, fault := false } := by
  simp [Grants.powerOn, Vector.get_eq_getElem]

/-- Settles O2. -/
theorem resetBayRecords : Obligations.ResetBayRecords := by
  intro b
  have section_le : (Bay.powerOn b).bsection = if bayNumber b ≤ 12 then .booked else .walkup := rfl
  have unpolled : (Bay.powerOn b).serviceable = false ∧ State.reset.eligible b = false := by
    rw [State.eligible, State.reset_bay]
    exact ⟨rfl, rfl⟩
  rw [State.reset_bay]
  exact ⟨section_le, rfl, rfl, rfl, rfl, rfl, rfl, rfl, rfl, rfl, rfl, rfl, unpolled⟩

/-- Settles O3. -/
theorem powerOnValues : Obligations.PowerOnValues := by
  intro s
  refine ⟨s.powerOn, exec_powerOn s, rfl, rfl, fun b => ?bays, rfl, rfl, ?grants, s.powerOn_exch, ?bus, rfl,
    ⟨rfl, rfl, rfl⟩, ⟨rfl, rfl⟩, ⟨rfl, rfl, rfl, rfl, rfl, rfl, rfl, rfl⟩, ⟨rfl, rfl, rfl, rfl, rfl⟩, fun p => ?ports⟩
  case bays =>
    rw [s.powerOn_bay, State.reset_bay]
    exact ⟨rfl, rfl, rfl, rfl, rfl, rfl, rfl, rfl, rfl, rfl, rfl, rfl, rfl, rfl⟩
  case grants => exact ⟨rfl, rfl, rfl, rfl, rfl, rfl, rfl, rfl, rfl, rfl, moduleTable_powerOn⟩
  case bus => exact ⟨rfl, rfl, rfl, rfl, rfl, rfl, rfl⟩
  case ports =>
    rw [s.powerOn_port]
    exact ⟨rfl, rfl, rfl, rfl, rfl, rfl, rfl, rfl, rfl⟩

/-! ### READ-BAY -/

theorem exec_readBay (p : Port) (bays : List Byte) (s : State) :
    exec (.readBay p bays) s = .next (s.takeRequest p (.readBay bays)) := rfl

theorem baysOfBytes_none {l : List Byte} (h : ∃ n ∈ l, n.toNat = 0 ∨ 24 < n.toNat) : baysOfBytes l = none := by
  induction l with
  | nil => obtain ⟨n, hn, -⟩ := h; cases hn
  | cons m l ih =>
    obtain ⟨n, hn, hr⟩ := h
    rcases List.mem_cons.mp hn with e | hm
    · subst e
      simp [baysOfBytes, bayOfByte_none hr]
    · simp [baysOfBytes, ih ⟨n, hm, hr⟩]

/-- A bay's number as it is sent names the bay. -/
theorem bayNumber_toNat (b : BayNo) : (BitVec.ofNat 8 (bayNumber b)).toNat = bayNumber b := by
  have := b.isLt
  simp only [bayNumber, BitVec.toNat_ofNat]
  omega

theorem baysOfBytes_numbers (bs : List BayNo) :
    baysOfBytes (bs.map (fun b => BitVec.ofNat 8 (bayNumber b))) = some bs := by
  induction bs with
  | nil => rfl
  | cons b bs ih => simp only [List.map_cons, baysOfBytes, bayOfByte_some (bayNumber_toNat b), ih]

theorem State.bayEntry_length (s : State) (b : BayNo) : (s.bayEntry b).length = 24 := by
  simp only [State.bayEntry, u32, u64, List.length_append, beBytes_length]

theorem State.readBay_badLength (s : State) {bays : List Byte} (h : bays = [] ∨ 4 < bays.length) :
    s.readBay bays = (s, .refused .badLength []) := if_pos h

theorem State.readBay_listed (s : State) {bays : List Byte} (h0 : 1 ≤ bays.length) (h4 : bays.length ≤ 4) :
    s.readBay bays = match baysOfBytes bays with
      | none => s.refuse .badField
      | some bs => s.reply (bs.flatMap s.bayEntry) := by
  refine if_neg ?_
  rintro (rfl | h)
  · exact absurd h0 (by decide)
  · omega

/-- Settles O16. -/
theorem readBay : Obligations.ReadBay := by
  intro p s hfree
  have refused : ∀ bays c, s.readBay bays = (s, .refused c []) →
      exec (.readBay p bays) s = .next (s.refusal p 0x10 c []) := fun bays c h => by
    rw [exec_readBay, s.takeRequest_refused p (.readBay bays) hfree rfl c [] h]
    rfl
  refine ⟨fun bays h => refused _ _ (s.readBay_badLength h), fun bays h0 h4 h => refused _ _ ?_,
    fun bs h0 h4 => ?_, s.bayEntry_length⟩
  · rw [s.readBay_listed h0 h4, baysOfBytes_none h]
    rfl
  · dsimp only
    rw [exec_readBay, s.takeRequest_ok p _ hfree rfl s (bs.flatMap s.bayEntry)]
    show s.readBay _ = _
    rw [s.readBay_listed (by simpa using h0) (by simpa using h4), baysOfBytes_numbers]

end Sys2Proof.Machine
end

section
open Sys2Proof Sys2Proof.Machine
namespace Sys2Proof.Machine

/-! ### Packed words: where each field of a word stands -/

/-- The number of bits of a row of packed fields. -/
def packedWidth (fields : List (Nat × Nat)) : Nat := (fields.map Prod.fst).sum

theorem packBits_snoc (l : List (Nat × Nat)) (f : Nat × Nat) :
    packBits (l ++ [f]) = packBits l * 2 ^ f.1 + f.2 % 2 ^ f.1 := by
  rw [packBits, List.foldl_append]
  rfl

/-- The fields behind a row of fields shift it up by their width. -/
theorem packBits_append_div (l l' : List (Nat × Nat)) : packBits (l ++ l') / 2 ^ packedWidth l' = packBits l := by
  induction l' using List.reverseRecOn with
  | nil => simp [packedWidth]
  | append_singleton l' f ih =>
    have low : f.2 % 2 ^ f.1 < 2 ^ f.1 := Nat.mod_lt _ (Nat.two_pow_pos _)
    have drop : packBits (l ++ (l' ++ [f])) / 2 ^ f.1 = packBits (l ++ l') := by
      rw [← List.append_assoc, packBits_snoc, Nat.add_comm, Nat.add_mul_div_right _ _ (Nat.two_pow_pos _),
        Nat.div_eq_of_lt low, Nat.zero_add]
    have width : packedWidth (l' ++ [f]) = f.1 + packedWidth l' := by
      simp [packedWidth, Nat.add_comm]
    rw [width, Nat.pow_add, ← Nat.div_div_eq_div_mul, drop, ih]

/-- A field of a packed 32-bit word: the `i`-th of the row, above the fields behind it. -/
theorem packBits_field {l : List (Nat × Nat)} (i : Nat) {k w v : Nat} (hi : l[i]? = some (w, v))
    (hk : packedWidth (l.drop (i + 1)) = k) (h32 : k + w ≤ 32) (hv : v < 2 ^ w) :
    ((BitVec.ofNat 32 (packBits l)).extractLsb' k w).toNat = v := by
  obtain ⟨hlt, hget⟩ := List.getElem?_eq_some_iff.mp hi
  have split : l = (l.take i ++ [(w, v)]) ++ l.drop (i + 1) := by
    rw [← hget, List.take_append_getElem, List.take_append_drop]
  have high : packBits l / 2 ^ k = packBits (l.take i) * 2 ^ w + v % 2 ^ w := by
    have := packBits_append_div (l.take i ++ [(w, v)]) (l.drop (i + 1))
    rwa [← split, hk, packBits_snoc] at this
  have fits : 2 ^ 32 = 2 ^ k * 2 ^ (32 - k) := by rw [← Nat.pow_add]; congr 1; omega
  rw [BitVec.extractLsb'_toNat, BitVec.toNat_ofNat, Nat.shiftRight_eq_div_pow, fits, Nat.mod_mul_right_div_self,
    Nat.mod_mod_of_dvd _ (Nat.pow_dvd_pow 2 (by omega)), high, Nat.mul_add_mod_self_right, Nat.mod_mod,
    Nat.mod_eq_of_lt hv]

/-- A bit-set field of a packed 32-bit word. -/
theorem packBits_bits {l : List (Nat × Nat)} (i : Nat) {k w : Nat} {v : BitVec w}
    (hi : l[i]? = some (w, v.toNat)) (hk : packedWidth (l.drop (i + 1)) = k) (h32 : k + w ≤ 32) :
    (BitVec.ofNat 32 (packBits l)).extractLsb' k w = v :=
  BitVec.eq_of_toNat_eq (packBits_field i hi hk h32 v.isLt)

/-! ### The codes fit their fields -/

theorem bayNumber_lt (b : BayNo) : bayNumber b < 2 ^ 5 := by
  have := b.isLt
  simp only [bayNumber]
  omega

theorem BaySection.code_lt (x : BaySection) : x.code < 2 ^ 1 := by cases x <;> decide
theorem Service.code_lt (x : Service) : x.code < 2 ^ 1 := by cases x <;> decide
theorem Link.code_lt (x : Link) : x.code < 2 ^ 2 := by cases x <;> decide
theorem door_code_lt (x : Door) : x.code < 2 ^ 1 := by cases x <;> decide
theorem latch_code_lt (x : Latch) : x.code < 2 ^ 1 := by cases x <;> decide
theorem flagCode_lt (x : Bool) : flagCode x < 2 ^ 1 := by cases x <;> decide
theorem BayState.code_lt (x : BayState) : x.code < 2 ^ 3 := by cases x <;> decide
theorem causeCode_lt : ∀ x : Option FaultCause, causeCode x < 2 ^ 3
  | none => by decide
  | some c => by cases c <;> decide
theorem Role.code_lt (x : Role) : x.code < 2 ^ 2 := by cases x <;> simp [Role.code]
theorem Role.number_lt : ∀ x : Role, x.number < 2 ^ 3
  | .none => by decide
  | .intake x => by have := x.isLt; simp only [Role.number]; omega
  | .take x => by have := x.isLt; simp only [Role.number]; omega
theorem Parity.code_lt (x : Parity) : x.code < 2 ^ 2 := by cases x <;> decide
theorem Origin.code_lt (x : Origin) : x.code < 2 ^ 2 := by cases x <;> decide
theorem PackClass.code_lt (x : PackClass) : x.code < 2 ^ 2 := by cases x <;> decide
theorem health_code_lt (x : Health) : x.code < 2 ^ 2 := by cases x <;> decide
theorem profile_index_lt (x : Profile) : x.index < 2 ^ 2 := by cases x <;> decide

/-! ### The entry -/

theorem u64_eq_packIdBytes (id : PackId) : u64 id = packIdBytes id := by
  have := id.isLt
  simp only [u64, beBytes, packIdBytes, wordBytes, List.cons_append, List.nil_append, List.cons.injEq, and_true]
  refine ⟨?_, ?_, ?_, ?_, ?_, ?_, ?_, ?_⟩ <;>
    (apply BitVec.eq_of_toNat_eq
     simp only [BitVec.extractLsb'_toNat, BitVec.toNat_ofNat, Nat.shiftRight_eq_div_pow]
     omega)

/-- Four words and a pack id as numbers, and as the fields they are sent as. -/
theorem entry_words (w0 w1 w2 w3 : Nat) (id : PackId) :
    u32 w0 ++ u32 w1 ++ u32 w2 ++ u32 w3 ++ u64 id =
      wordBytes (BitVec.ofNat 32 w0) ++ wordBytes (BitVec.ofNat 32 w1) ++ wordBytes (BitVec.ofNat 32 w2)
        ++ wordBytes (BitVec.ofNat 32 w3) ++ packIdBytes id := by
  simp only [u32_eq_wordBytes, u64_eq_packIdBytes]

/-- Word 2 of a bay without a pack holds its fill target alone. -/
theorem word2_absent (target : Nat) :
    (BitVec.ofNat 32 (packBits [(10, target), (10, 0), (10, 0), (2, 0)])).extractLsb' 0 22 = 0 := by
  apply BitVec.eq_of_toNat_eq
  show _ = 0
  simp only [BitVec.extractLsb'_toNat, BitVec.toNat_ofNat, Nat.shiftRight_eq_div_pow, packBits, List.foldl]
  omega

theorem Bay.word2_target (r : Bay) (target : Nat) (h : target < 1024) :
    ((BitVec.ofNat 32 (r.word2 target)).extractLsb' 22 10).toNat = target := by
  unfold Bay.word2
  split <;> exact packBits_field 0 rfl rfl (by decide) h

/-- Settles O17. -/
theorem bayEntryBits : Obligations.BayEntryBits := by
  intro s b
  dsimp only
  generalize hr : s.bay b = r
  have word3_absent (h : r.pack = none) : r.word3 = 0 := by simp only [Bay.word3, h]
  refine ⟨by subst hr; exact entry_words _ _ _ _ _,
    packBits_field 0 rfl rfl (by decide) (bayNumber_lt b),
    packBits_field 1 rfl rfl (by decide) r.bsection.code_lt,
    packBits_field 2 rfl rfl (by decide) r.service.code_lt,
    packBits_field 3 rfl rfl (by decide) r.link.code_lt,
    packBits_field 4 rfl rfl (by decide) (door_code_lt r.door),
    packBits_field 5 rfl rfl (by decide) (latch_code_lt r.latch),
    packBits_field 6 rfl rfl (by decide) (flagCode_lt r.sensed),
    packBits_field 7 rfl rfl (by decide) (flagCode_lt r.pack.isSome),
    packBits_field 8 rfl rfl (by decide) r.state.code_lt,
    packBits_bits 9 rfl rfl (by decide),
    packBits_field 10 rfl rfl (by decide) (causeCode_lt r.cause),
    packBits_field 11 rfl rfl (by decide) r.role.code_lt,
    packBits_field 12 rfl rfl (by decide) r.role.number_lt,
    packBits_field 13 rfl rfl (by decide) r.parity.code_lt,
    packBits_bits 1 rfl rfl (by decide),
    packBits_bits 2 rfl rfl (by decide),
    fun h => packBits_field 3 rfl rfl (by decide) (by omega), fun c h => ?matched, fun h => ?unmatched,
    r.word2_target _, fun h => ?noPack, fun q h => ?pack⟩
  case matched =>
    simp only [Bay.word0, Bay.word1, h]
    exact ⟨packBits_field 14 rfl rfl (by decide) c.origin.code_lt, packBits_bits 0 rfl rfl (by decide)⟩
  case unmatched =>
    simp only [Bay.word0, Bay.word1, h]
    exact ⟨packBits_bits (v := 0) 14 rfl rfl (by decide), packBits_bits (v := 0) 0 rfl rfl (by decide)⟩
  case noPack =>
    rw [word3_absent h]
    simp only [Bay.word2, h]
    exact ⟨word2_absent _, rfl⟩
  case pack =>
    simp only [Bay.word2, Bay.word3, h]
    refine ⟨fun h => packBits_field 1 rfl rfl (by decide) h, fun h => ?_, fun u hu h => ?_,
      packBits_field 3 rfl rfl (by decide) q.cls.code_lt, fun h => packBits_field 0 rfl rfl (by decide) h,
      fun hl hh => ?_, packBits_bits 2 rfl rfl (by decide),
      packBits_field 3 rfl rfl (by decide) (health_code_lt q.health),
      packBits_field 4 rfl rfl (by decide) (profile_index_lt q.profile),
      fun h => packBits_field 5 rfl rfl (by decide) h⟩
    · rw [h]
      exact packBits_field 2 rfl rfl (by decide) (by decide)
    · rw [hu]
      exact packBits_field 2 rfl rfl (by decide) h
    · have := packBits_field (l := [(12, q.capacity), (7, (q.temp + 40).toNat), (4, q.abilities.toNat),
          (2, q.health.code), (2, q.profile.index), (4, q.refusals), (1, 0)]) (k := 13) 1 rfl rfl (by decide) (by omega)
      omega

end Sys2Proof.Machine
end

section
namespace Sys2Proof.Machine

/-! ### The waiting commands -/

/-- The commands that wait: the link command queue, then the overflow list (R133). -/
def Bus.waiting (u : Bus) : List Entry := u.queue ++ u.overflow

/-- A command waits for a bay. -/
def State.queued (s : State) (b : BayNo) (c : BusCmd) : Prop :=
  ∃ k ∈ s.bus.queue ++ s.bus.overflow, k.bay = b ∧ k.cmd = c

/-- Moving up from the overflow list keeps the waiting commands and their order. -/
@[simp] theorem Bus.refill_waiting (u : Bus) : u.refill.waiting = u.waiting := by
  simp only [Bus.refill, Bus.waiting, List.append_assoc, List.take_append_drop]

@[simp] theorem Bus.refill_flight (u : Bus) : u.refill.flight = u.flight := rfl

@[simp] theorem Bus.release_waiting (u : Bus) (b : BayNo) (g : CmdGroup) : (u.release b g).waiting = u.waiting := by
  unfold Bus.release
  split
  · split
    · exact Bus.refill_waiting _
    · rfl
  · rfl

theorem Bus.release_idle {u : Bus} (h : u.flight = none) (b : BayNo) (g : CmdGroup) : u.release b g = u := by
  simp only [Bus.release, h]

@[simp] theorem Bus.land_waiting (u : Bus) : u.land.waiting = u.waiting := Bus.refill_waiting _

@[simp] theorem Bus.land_flight (u : Bus) : u.land.flight = none := rfl

@[simp] theorem Bus.drop_waiting (u : Bus) (b : BayNo) (g : CmdGroup) :
    (u.drop b g).waiting = u.waiting.filter (fun e => !e.isFor b g) := by
  simp only [Bus.drop, Bus.waiting, List.filter_append]

theorem Entry.isFor_iff (e : Entry) (b : BayNo) (g : CmdGroup) :
    e.isFor b g = true ↔ e.bay = b ∧ e.cmd.group = g := by
  simp only [Entry.isFor, Bool.and_eq_true, decide_eq_true_eq]

theorem Bus.mem_append (u : Bus) (e k : Entry) : k ∈ (u.append e).waiting ↔ k ∈ u.waiting ∨ k = e := by
  unfold Bus.append
  split <;> simp only [Bus.waiting, List.mem_append, List.mem_singleton]
  · exact or_right_comm
  · exact or_assoc.symm

/-- A placed command replaces the waiting ones of its bay and group (R133). -/
theorem Bus.mem_place (u : Bus) (b : BayNo) (c : BusCmd) (k : Entry) :
    k ∈ (u.place b c).waiting ↔
      (k ∈ u.waiting ∧ ¬(k.bay = b ∧ k.cmd.group = c.group)) ∨ k = { bay := b, cmd := c, attempts := 0 } := by
  rw [Bus.place, Bus.mem_append, Bus.release_waiting, Bus.drop_waiting, List.mem_filter, Bool.not_eq_true',
    Bool.eq_false_iff, ne_eq, Entry.isFor_iff]

theorem Bus.mem_withdraw (u : Bus) (b : BayNo) (g : CmdGroup) (k : Entry) :
    k ∈ (u.withdraw b g).waiting ↔ k ∈ u.waiting ∧ ¬(k.bay = b ∧ k.cmd.group = g) := by
  rw [Bus.withdraw, Bus.refill_waiting, Bus.release_waiting, Bus.drop_waiting, List.mem_filter, Bool.not_eq_true',
    Bool.eq_false_iff, ne_eq, Entry.isFor_iff]

theorem Bus.mem_dropBay (u : Bus) (b : BayNo) (k : Entry) :
    k ∈ (u.dropBay b).waiting ↔ k ∈ u.waiting ∧ k.bay ≠ b := by
  rw [Bus.dropBay, Bus.refill_waiting, Bus.waiting, ← List.filter_append, List.mem_filter]
  simp only [Bool.not_eq_true', decide_eq_false_iff_not, ne_eq]
  rfl

/-- On an idle bus placing and withdrawing a command leave the bus idle. -/
theorem Bus.place_idle {u : Bus} (h : u.flight = none) (b : BayNo) (c : BusCmd) : (u.place b c).flight = none := by
  rw [Bus.place, Bus.release_idle (u := u.drop b c.group) h, Bus.append]
  split <;> exact h

theorem Bus.withdraw_idle {u : Bus} (h : u.flight = none) (b : BayNo) (g : CmdGroup) :
    (u.withdraw b g).flight = none := by
  rw [Bus.withdraw, Bus.release_idle (u := u.drop b g) h]
  exact h

/-! ### Queuing a command -/

@[simp] theorem State.queueCmd_bay (s : State) (b : BayNo) (c : BusCmd) (n : BayNo) :
    (s.queueCmd b c).bay n = s.bay n := by
  unfold State.queueCmd
  split <;> rfl

theorem State.queueCmd_eq {s : State} {b : BayNo} (h : (s.bay b).link ≠ .lost) (c : BusCmd) :
    s.queueCmd b c = s.modBus (fun u => u.place b c) := if_neg h

/-- A queued command writes the bus alone. -/
theorem State.queueCmd_bus_only (s : State) (b : BayNo) (c : BusCmd) :
    s.queueCmd b c = { s with bus := (s.queueCmd b c).bus } := by
  unfold State.queueCmd
  split <;> rfl

theorem State.queued_queueCmd_self {s : State} {b : BayNo} (h : (s.bay b).link ≠ .lost) (c : BusCmd) :
    (s.queueCmd b c).queued b c := s.queueCmd_mem b c h

theorem State.mem_queueCmd (s : State) (b : BayNo) (c : BusCmd) (k : Entry) :
    k ∈ (s.queueCmd b c).bus.waiting ↔
      if (s.bay b).link = .lost then k ∈ s.bus.waiting
      else (k ∈ s.bus.waiting ∧ ¬(k.bay = b ∧ k.cmd.group = c.group)) ∨ k = { bay := b, cmd := c, attempts := 0 } := by
  unfold State.queueCmd
  split
  · rfl
  · exact Bus.mem_place s.bus b c k

/-- A waiting command outlasts the queuing of one for another bay or of another group. -/
theorem State.queued_queueCmd {s : State} {b : BayNo} {c : BusCmd} (h : s.queued b c) (n : BayNo) (d : BusCmd)
    (hd : ¬(b = n ∧ c.group = d.group)) : (s.queueCmd n d).queued b c := by
  obtain ⟨k, hk, rfl, rfl⟩ := h
  refine ⟨k, (s.mem_queueCmd n d k).mpr ?_, rfl, rfl⟩
  split
  · exact hk
  · exact .inl ⟨hk, hd⟩

theorem State.queueCmd_idle {s : State} (h : s.bus.flight = none) (b : BayNo) (c : BusCmd) :
    (s.queueCmd b c).bus.flight = none := by
  unfold State.queueCmd
  split
  · exact h
  · exact Bus.place_idle h b c

/-! ### What an operation on a bay record leaves in it -/

@[simp] theorem State.cutGrant_bay (s : State) (b c : BayNo) :
    (s.cutGrant b).bay c = if c = b then { s.bay b with grant := 0 } else s.bay c := by
  unfold State.cutGrant
  split
  · next h =>
    split
    · next e => rw [e, ← h]
    · rfl
  · rw [State.notify_bay, State.modBay_bay]

/-- The end of a bay's eligibility, or its beginning: the grant is cut at its end (R17, R101). -/
theorem State.eligibilityEdge_bay (s : State) (b : BayNo) (was : Bool) (c : BayNo) :
    (s.eligibilityEdge b was).bay c =
      if c = b ∧ was = true ∧ s.eligible b = false then { s.bay b with grant := 0 } else s.bay c := by
  unfold State.eligibilityEdge
  split
  · next h => simp only [State.wantReplan_bay, State.cutGrant_bay, h, and_true]
  · next h => simp [h]
  · next h1 h2 =>
    rw [if_neg]
    · rintro ⟨-, hw, he⟩
      exact h1 hw he

/-- A changed bay record: the change, and a grant cut when the change ends eligibility. -/
theorem State.edit_bay (s : State) (b : BayNo) (f : Bay → Bay) (c : BayNo) :
    (s.edit b f).bay c =
      if c = b then
        { f (s.bay b) with
          grant := if s.eligible b = true ∧ (s.modBay b f).eligible b = false then 0 else (f (s.bay b)).grant }
      else s.bay c := by
  have key : (s.edit b f).bay c = if c = b ∧ s.eligible b = true ∧ (s.modBay b f).eligible b = false
      then { f (s.bay b) with grant := 0 } else (s.modBay b f).bay c := by
    rw [State.edit]
    dsimp only
    split
    · rw [State.eligibilityEdge_bay, State.wantPass_bay, State.wantPass_bay, State.modBay_bay_self]
      rfl
    · rw [State.eligibilityEdge_bay, State.modBay_bay_self]
  rw [key, State.modBay_bay]
  by_cases hc : c = b
  · simp only [hc, true_and, if_true]
    split <;> rfl
  · simp only [hc, false_and, if_false]

theorem State.edit_bay_self (s : State) (b : BayNo) (f : Bay → Bay) :
    ∃ g ≤ (f (s.bay b)).grant, (s.edit b f).bay b = { f (s.bay b) with grant := g } := by
  refine ⟨_, ?_, (s.edit_bay b f b).trans (if_pos rfl)⟩
  split
  · exact Nat.zero_le _
  · exact Nat.le_refl _

theorem State.edit_bay_other (s : State) {b c : BayNo} (f : Bay → Bay) (h : c ≠ b) : (s.edit b f).bay c = s.bay c := by
  rw [State.edit_bay, if_neg h]

/-- A change that ends eligibility leaves no grant (R101). -/
theorem State.edit_grant_zero (s : State) (b : BayNo) (f : Bay → Bay) (h : s.eligible b = true)
    (hf : (f (s.bay b)).ownEligible = false) : ((s.edit b f).bay b).grant = 0 := by
  have he : (s.modBay b f).eligible b = false := by
    simp only [State.eligible, State.modBay_bay_self, hf, Bool.false_and]
  rw [State.edit_bay, if_pos rfl]
  exact if_pos ⟨h, he⟩

/-- A recomputed cap and the grant cut to it (R102). -/
theorem State.recap_bay (s : State) (b c : BayNo) :
    (s.recap b).bay c =
      if c = b then
        { s.bay b with
          cap := s.capOf b
          grant := if s.capOf b < (s.bay b).grant then grantFloor (floor50 (s.capOf b)) else (s.bay b).grant }
      else s.bay c := by
  unfold State.recap
  dsimp only
  split
  · simp only [State.notify_bay, State.modBay_bay, State.wantReplan_bay, if_true]
    split <;> rfl
  · simp only [State.wantReplan_bay, State.modBay_bay]

/-! ### The fill test (R9) -/

theorem State.fillTest_absent {s : State} {b : BayNo} (h : (s.bay b).pack = none) : s.fillTest b = s := by
  simp only [State.fillTest, h]

theorem State.fillTest_full {s : State} {b : BayNo} {p : Pack} (hp : (s.bay b).pack = some p)
    (hs : (s.bay b).state = .charging) (h : s.fillTarget b ≤ p.soc) :
    s.fillTest b = (s.edit b (fun r => { r with state := .topped })).queueCmd b (.chargeStop false) := by
  simp only [State.fillTest, hp, hs, h, if_true]

theorem State.fillTest_low {s : State} {b : BayNo} {p : Pack} (hp : (s.bay b).pack = some p)
    (hs : (s.bay b).state = .topped) (h : p.soc + 30 < s.fillTarget b) :
    s.fillTest b = (s.edit b (fun r => { r with state := .charging })).queueCmd b (.chargeStart p.profile) := by
  simp only [State.fillTest, hp, hs, h, if_true]

theorem State.fillTest_else {s : State} {b : BayNo}
    (hc : ∀ p, (s.bay b).pack = some p → (s.bay b).state = .charging → ¬ s.fillTarget b ≤ p.soc)
    (ht : ∀ p, (s.bay b).pack = some p → (s.bay b).state = .topped → ¬ p.soc + 30 < s.fillTarget b) :
    s.fillTest b = s := by
  unfold State.fillTest
  split
  · rfl
  · next p hp =>
    split
    · next hs => exact if_neg (hc p hp hs)
    · next hs => exact if_neg (ht p hp hs)
    · rfl

/-- The three things a fill test can do: nothing, a move to TOPPED, a move back to CHARGING (R9). -/
theorem State.fillTest_cases (s : State) (b : BayNo) :
    s.fillTest b = s
      ∨ (∃ p, (s.bay b).pack = some p ∧ (s.bay b).state = .charging ∧ s.fillTarget b ≤ p.soc
          ∧ s.fillTest b = (s.edit b (fun r => { r with state := .topped })).queueCmd b (.chargeStop false))
      ∨ ∃ p, (s.bay b).pack = some p ∧ (s.bay b).state = .topped ∧ p.soc + 30 < s.fillTarget b
          ∧ s.fillTest b = (s.edit b (fun r => { r with state := .charging })).queueCmd b (.chargeStart p.profile) := by
  by_cases hc : ∃ p, (s.bay b).pack = some p ∧ (s.bay b).state = .charging ∧ s.fillTarget b ≤ p.soc
  · obtain ⟨p, hp, hs, hf⟩ := hc
    exact .inr (.inl ⟨p, hp, hs, hf, State.fillTest_full hp hs hf⟩)
  by_cases ht : ∃ p, (s.bay b).pack = some p ∧ (s.bay b).state = .topped ∧ p.soc + 30 < s.fillTarget b
  · obtain ⟨p, hp, hs, hf⟩ := ht
    exact .inr (.inr ⟨p, hp, hs, hf, State.fillTest_low hp hs hf⟩)
  · exact .inl (State.fillTest_else (fun p hp hs hf => hc ⟨p, hp, hs, hf⟩) fun p hp hs hf => ht ⟨p, hp, hs, hf⟩)

theorem State.fillTest_bay_other (s : State) {b c : BayNo} (h : c ≠ b) : (s.fillTest b).bay c = s.bay c := by
  rcases s.fillTest_cases b with e | ⟨_, -, -, -, e⟩ | ⟨_, -, -, -, e⟩ <;> rw [e]
  · rw [State.queueCmd_bay, State.edit_bay_other _ _ h]
  · rw [State.queueCmd_bay, State.edit_bay_other _ _ h]

/-- A move of the fill test: the state it gives, and its command on a bay that is not LOST (R28). -/
theorem State.fillMove (s : State) (b : BayNo) (st : BayState) (c : BusCmd) :
    let t := (s.edit b (fun r => { r with state := st })).queueCmd b c
    (t.bay b).state = st ∧ ((s.bay b).link ≠ .lost → t.queued b c) := by
  obtain ⟨g, -, hg⟩ := s.edit_bay_self b (fun r => { r with state := st })
  refine ⟨by rw [State.queueCmd_bay, hg], fun hl => State.queued_queueCmd_self ?_ c⟩
  rw [hg]
  exact hl

/-- Settles O26. -/
theorem fillHysteresis : Obligations.FillHysteresis := by
  intro s b q hq
  dsimp only
  refine and_assoc.mp ⟨?_, State.same_fillTest s.sameButMatches_refl b, fun c hc => s.fillTest_bay_other hc⟩
  by_cases hc : (s.bay b).state = .charging ∧ s.fillTarget b ≤ q.soc
  · obtain ⟨st, cmd⟩ := s.fillMove b .topped (.chargeStop false)
    rw [State.fillTest_full hq hc.1 hc.2, st, if_pos hc, if_pos rfl]
    exact ⟨rfl, fun _ => cmd⟩
  rw [if_neg hc]
  by_cases ht : (s.bay b).state = .topped ∧ q.soc + 30 < s.fillTarget b
  · obtain ⟨st, cmd⟩ := s.fillMove b .charging (.chargeStart q.profile)
    rw [State.fillTest_low hq ht.1 ht.2, st, if_pos ht, if_neg (by decide)]
    exact ⟨rfl, fun _ => cmd⟩
  · have stay : s.fillTest b = s := State.fillTest_else
      (fun p hp hs hf => hc ⟨hs, Option.some.inj (hq.symm.trans hp) ▸ hf⟩)
      (fun p hp hs hf => ht ⟨hs, Option.some.inj (hq.symm.trans hp) ▸ hf⟩)
    rw [stay, if_neg ht]
    exact ⟨rfl, fun h => absurd rfl h⟩

end Sys2Proof.Machine
end

section
/-! What outlasts the operations of an arrival. A condition that every single write of a family of operations keeps is
kept by the operations: three families, the operations on one bay's own record, those of matching and of the exchanges,
and all of them. Each operation is gone through once, and a proof gives the single writes. -/

namespace Sys2Proof.Machine

/-! ### The families, by their single writes -/

/-- Bays, book and waiting commands are the same, and a plan that was wanted is wanted. -/
structure State.aside (t u : State) : Prop where
  bays : u.bays = t.bays
  book : u.book = t.book
  queue : u.bus.queue = t.bus.queue
  overflow : u.bus.overflow = t.bus.overflow
  flight : u.bus.flight = t.bus.flight
  replan : t.grants.replan = true → u.grants.replan = true

/-- What the operations on a bay's own record leave to the matching and the exchanges. -/
def Bay.bond (r : Bay) : Role × Option ClaimId × Bool := (r.role, r.matched, r.relock)

/-- A bay record but for what matching and the exchanges write beside a fill test. -/
def Bay.core (r : Bay) : Bay :=
  { r with grant := 0, matched := none, role := .none, relock := false, watch := none }

/-- A condition that the operations on bay `b`'s own record keep. -/
structure KeptByBay (b : BayNo) (P : State → Prop) : Prop where
  aside : ∀ {t u : State}, P t → t.aside u → u.exchanges = t.exchanges → P u
  record : ∀ {t : State} {f : Bay → Bay}, (∀ r, (f r).bond = r.bond) → P t → P (t.modBay b f)
  queue : ∀ {t : State} {c : BusCmd}, c.group ≠ .door → P t → P (t.queueCmd b c)
  identify : ∀ {t : State} {n : Nat}, P t → P (t.modBus (fun u => u.place b (.identify n)))
  withdraw : ∀ {t : State}, P t → P (t.withdrawIdentify b)

/-- A change of a claim that a match, its loss or its hand-back may bring: the terms stand, and no claim becomes
SWAPPING. -/
def Trading (f : Claim → Claim) : Prop :=
  ∀ c, (f c).terms = c.terms ∧ ((f c).state = .swapping → c.state = .swapping)

/-- A change made to the claims that are not SWAPPING. -/
theorem trading_unless {f : Claim → Claim} (hf : ∀ c, (f c).terms = c.terms ∧ (f c).state ≠ .swapping) :
    Trading (fun c => if c.state = .swapping then c else f c) := by
  intro c
  dsimp only
  split
  · exact ⟨rfl, fun h => h⟩
  · exact ⟨(hf c).1, fun h => absurd h (hf c).2⟩

/-- A condition that the operations of matching keep. -/
structure KeptByMatch (P : State → Prop) : Prop where
  aside : ∀ {t u : State}, P t → t.aside u → u.exchanges = t.exchanges → u.admissions = t.admissions → P u
  claim : ∀ {t : State} {id : ClaimId} {f : Claim → Claim}, Trading f → P t → P (t.modClaim id f)
  close : ∀ {t : State} {id : ClaimId},
    P t → P (t.setClaims (t.book.claims.filter (fun d => !decide (d.id = id))))
  matched : ∀ {t : State} {c : BayNo} {m : Option ClaimId}, P t → P (t.modBay c (fun r => { r with matched := m }))
  fill : ∀ {t : State} {c : BayNo}, P t → P (t.fillTest c)

/-- A condition that the operations of matching and of the exchanges keep. -/
structure KeptByTrade (P : State → Prop) : Prop where
  aside : ∀ {t u : State}, P t → t.aside u → u.admissions = t.admissions → P u
  claim : ∀ {t : State} {id : ClaimId} {f : Claim → Claim}, Trading f → P t → P (t.modClaim id f)
  close : ∀ {t : State} {id : ClaimId},
    P t → P (t.setClaims (t.book.claims.filter (fun d => !decide (d.id = id))))
  record : ∀ {t : State} {c : BayNo} {f : Bay → Bay}, (∀ r, (f r).core = r.core) → P t → P (t.modBay c f)
  door : ∀ {t : State} {c : BayNo} {k : BusCmd}, k.group = .door → P t → P (t.queueCmd c k)
  fill : ∀ {t : State} {c : BayNo}, P t → P (t.fillTest c)

/-- A condition that all operations of an arrival keep. -/
structure KeptByArrival (P : State → Prop) : Prop where
  aside : ∀ {t u : State}, P t → t.aside u → P u
  claim : ∀ {t : State} {id : ClaimId} {f : Claim → Claim}, Trading f → P t → P (t.modClaim id f)
  close : ∀ {t : State} {id : ClaimId},
    P t → P (t.setClaims (t.book.claims.filter (fun d => !decide (d.id = id))))
  record : ∀ {t : State} {c : BayNo} {f : Bay → Bay}, P t → P (t.modBay c f)
  queue : ∀ {t : State} {b : BayNo} {c : BusCmd}, P t → P (t.queueCmd b c)
  identify : ∀ {t : State} {b : BayNo} {n : Nat}, P t → P (t.modBus (fun u => u.place b (.identify n)))
  withdraw : ∀ {t : State} {b : BayNo}, P t → P (t.withdrawIdentify b)

variable {P : State → Prop} {t : State}

/-- One operation taken or not. -/
theorem kept_ite {c : Prop} [Decidable c] {u v : State} (hu : P u) (hv : P v) : P (if c then u else v) := by
  split
  · exact hu
  · exact hv

/-- A fold of an operation that keeps a condition. -/
theorem kept_foldl {α : Type} {f : State → α → State} (hf : ∀ (u : State) (a : α), P u → P (f u a)) (l : List α)
    {t : State} (h : P t) : P (l.foldl f t) := by
  induction l generalizing t with
  | nil => exact h
  | cons a l ih => exact ih (hf t a h)

/-! ### The operations on one bay's own record -/

namespace KeptByBay

variable {b : BayNo} (K : KeptByBay b P)
include K

theorem notify (h : P t) (k : NoticeKind) (u : Subject) (d v : Nat) : P (t.notify k u d v) :=
  K.aside h ⟨rfl, rfl, rfl, rfl, rfl, id⟩ rfl

theorem wantPass (h : P t) : P t.wantPass := K.aside h ⟨rfl, rfl, rfl, rfl, rfl, id⟩ rfl

theorem wantReplan (h : P t) : P t.wantReplan := K.aside h ⟨rfl, rfl, rfl, rfl, rfl, fun _ => rfl⟩ rfl

theorem cutGrant (h : P t) : P (t.cutGrant b) := by
  unfold State.cutGrant
  split
  · exact h
  · exact K.notify (K.record (by exact fun _ => rfl) h) _ _ _ _

theorem eligibilityEdge (h : P t) (was : Bool) : P (t.eligibilityEdge b was) := by
  unfold State.eligibilityEdge
  split
  · exact K.wantReplan (K.cutGrant h)
  · exact K.wantReplan h
  · exact h

/-- The hand-ons of a changed record. -/
theorem handOn {f : Bay → Bay} (h : P (t.modBay b f)) : P (t.edit b f) :=
  K.eligibilityEdge (kept_ite (K.wantPass h) h) _

theorem edit {f : Bay → Bay} (hf : ∀ r, (f r).bond = r.bond) (h : P t) : P (t.edit b f) :=
  K.handOn (K.record hf h)

theorem recap (h : P t) : P (t.recap b) := by
  have k : P ((t.modBay b (fun r => { r with cap := t.capOf b })).wantReplan) :=
    K.wantReplan (K.record (by exact fun _ => rfl) h)
  exact kept_ite (K.notify (K.record (by exact fun _ => rfl) k) _ _ _ _) k

theorem withoutPack (h : P t) : P (t.modBay b Bay.withoutPack) := by
  refine K.record (fun r => ?_) h
  unfold Bay.withoutPack
  split <;> rfl

theorem clearPack (h : P t) : P (t.clearPack b) := by
  unfold State.clearPack
  split
  · exact h
  · exact K.recap (K.withoutPack h)

theorem fillTest (h : P t) : P (t.fillTest b) := by
  rcases t.fillTest_cases b with e | ⟨_, -, -, -, e⟩ | ⟨_, -, -, -, e⟩ <;> rw [e]
  · exact h
  · exact K.queue (by decide) (K.edit (by exact fun _ => rfl) h)
  · exact K.queue (by simp [BusCmd.group]) (K.edit (by exact fun _ => rfl) h)

theorem rebandBay (h : P t) : P (t.rebandBay b) := by
  unfold State.rebandBay
  split
  · exact h
  · exact kept_ite h (K.recap (K.wantPass (K.record (by exact fun _ => rfl) h)))

theorem queueIdentify (h : P t) : P (t.queueIdentify b) := by
  unfold State.queueIdentify
  split
  · exact h
  · exact kept_ite (K.record (by exact fun _ => rfl) h) (K.identify (K.record (by exact fun _ => rfl) h))

theorem startAdmission (h : P t) (k : AdmissionCause) : P (t.startAdmission b k) := by
  have h1 : P { t.withdrawIdentify b with admissions := t.admissions + 1 } :=
    K.aside (K.withdraw h) ⟨rfl, rfl, rfl, rfl, rfl, id⟩ rfl
  have h2 := K.edit (f := fun r =>
    { r.admitAs k with
      state := .admitting, cause := none,
      admission := some { cause := k, attempts := 0, held := false, number := t.admissions + 1 } })
    (by intro r; cases k <;> rfl) h1
  exact K.queueIdentify (kept_ite (K.recap h2) h2)

theorem setRefusals (h : P t) (n : Nat) : P (t.setRefusals b n) := K.record (by exact fun _ => rfl) h

theorem resumeAdmission (h : P t) : P (t.resumeAdmission b) :=
  K.queueIdentify (K.record (by exact fun _ => rfl) h)

theorem holdAdmission (h : P t) : P (t.holdAdmission b) := K.record (by exact fun _ => rfl) h

theorem restoreLink (h : P t) : P (t.restoreLink b) := by
  unfold State.restoreLink
  dsimp only
  split
  · split
    · exact h
    · exact kept_ite (K.resumeAdmission h) h
  · exact K.queue (by simp [BusCmd.group]) h
  · exact K.queue (by decide) h
  · exact h

theorem insertPack (h : P t) : P (t.insertPack b) := kept_ite (K.startAdmission h _) h

theorem emptyBay (h : P t) : P (t.emptyBay b) := by
  have h1 := kept_ite (c := (t.bay b).admission.isSome = true) (K.withdraw h) h
  have h2 := K.edit (f := fun r => { r.withoutPack with state := .vacant, cause := none, admission := none })
    (by intro r; unfold Bay.withoutPack; split <;> rfl) h1
  have h3 := kept_ite (c := (t.bay b).pack.isSome = true) (K.recap h2) h2
  unfold State.emptyBay
  dsimp only
  split
  · exact h3
  · exact K.notify h3 _ _ _ _

theorem socChanged (h : P t) (old : Pack) : P (t.socChanged b old) := by
  unfold State.socChanged
  dsimp only
  split
  · exact h
  · have k := kept_ite (c := overDeadband t.params.socBand old.socUsed (t.bay b).soc = true) (K.wantReplan h) h
    exact kept_ite (K.wantPass k) k

/-- The hand-ons of a report's fields. -/
theorem takeFields {rep : ShortReport} (h : P (t.modBay b (fun r => r.report rep))) : P (t.takeFields b rep) := by
  have k := K.handOn h
  unfold State.takeFields
  dsimp only
  split
  · exact k
  · exact kept_ite (K.socChanged k _) k

theorem admitTo (h : P t) (st : BayState) : P (t.admitTo b st) := K.edit (by exact fun _ => rfl) h

theorem writePack (h : P t) (p : Pack) : P (t.writePack b p) :=
  K.recap (K.wantPass (K.record (by exact fun _ => rfl) h))

theorem changeLink (h : P t) (l : Link) : P (t.changeLink b l) :=
  K.notify (K.edit (by exact fun _ => rfl) h) _ _ _ _

theorem answerLink (h : P t) : P (t.answerLink b) := by
  have k : P (t.modBay b (fun r => { r with misses := 0 })) := K.record (by exact fun _ => rfl) h
  exact kept_ite k (K.changeLink k _)

theorem dropWatch (h : P t) : P (t.dropWatch b) := kept_ite (K.record (by exact fun _ => rfl) h) h

theorem watchResult (h : P t) : P (t.watchResult b) := by
  unfold State.watchResult
  split
  · exact h
  · exact K.notify (K.record (by exact fun _ => rfl) h) _ _ _ _

end KeptByBay

/-! ### The operations of matching -/

namespace KeptByMatch

variable (K : KeptByMatch P)
include K

theorem post (h : P t) (n : Notice) : P (t.post n) := K.aside h ⟨rfl, rfl, rfl, rfl, rfl, id⟩ rfl rfl

theorem notify (h : P t) (k : NoticeKind) (u : Subject) (d v : Nat) : P (t.notify k u d v) := K.post h _

theorem wantPass (h : P t) : P t.wantPass := K.aside h ⟨rfl, rfl, rfl, rfl, rfl, id⟩ rfl rfl

theorem wantReplan (h : P t) : P t.wantReplan := K.aside h ⟨rfl, rfl, rfl, rfl, rfl, fun _ => rfl⟩ rfl rfl

theorem countTime (h : P t) (n : Nat) : P (t.countTime n) :=
  kept_ite h (K.aside h ⟨rfl, rfl, rfl, rfl, rfl, id⟩ rfl rfl)

theorem enterReady (h : P t) (id : ClaimId) (b : BayNo) : P (t.enterReady id b) := by
  unfold State.enterReady
  split
  · exact h
  · refine K.notify ?_ _ _ _ _
    split
    · exact K.claim (by exact fun _ => ⟨rfl, nofun⟩) h
    · split
      · exact K.claim (by exact fun _ => ⟨rfl, nofun⟩) h
      · exact K.countTime (K.claim (by exact fun _ => ⟨rfl, nofun⟩) h) _

theorem fallUnready (h : P t) (id : ClaimId) (b : BayNo) (level : Nat) : P (t.fallUnready id b level) :=
  K.notify (K.claim (by exact fun _ => ⟨rfl, nofun⟩) h) _ _ _ _

theorem retest (h : P t) (id : ClaimId) : P (t.retest id) := by
  unfold State.retest
  split
  · exact h
  · split
    · exact kept_ite (K.enterReady h id _) h
    · exact kept_ite h (K.fallUnready h id _ _)
    · exact h

theorem retestAll (h : P t) : P t.retestAll := kept_foldl (P := P) (fun _ a k => K.retest k a) _ h

theorem bindClaim (h : P t) (id : ClaimId) (b : BayNo) (d : MatchDetail) : P (t.bindClaim id b d) := by
  rw [State.bindClaim]
  refine K.retest (K.wantReplan (K.notify (K.claim ?_ (K.fill (K.matched (K.claim ?_ h)))) _ _ _ _)) _
  · exact trading_unless fun _ => ⟨rfl, nofun⟩
  · exact fun _ => ⟨rfl, fun h => h⟩

theorem unmatch (h : P t) (id : ClaimId) (cause : LossCause) : P (t.unmatch id cause) := by
  unfold State.unmatch
  split
  · exact h
  · split
    · exact h
    · refine K.wantPass (K.wantReplan (K.notify (K.claim ?_ (K.fill (K.matched (K.claim ?_ h)))) _ _ _ _))
      · exact trading_unless fun _ => ⟨rfl, nofun⟩
      · exact fun _ => ⟨rfl, fun h => h⟩

theorem takeWaiting (h : P t) (id : ClaimId) : P (t.takeWaiting id) := by
  unfold State.takeWaiting
  split
  · exact h
  · split
    · split
      · exact K.bindClaim h id _ _
      · exact h
    · exact h

theorem runPass (h : P t) : P t.runPass := kept_foldl (P := P) (fun _ a k => K.takeWaiting k a) _ h

theorem settle (h : P t) : P t.settle :=
  K.aside (kept_ite (c := t.retestAll.passDue = true) (K.runPass (K.retestAll h)) (K.retestAll h))
    ⟨rfl, rfl, rfl, rfl, rfl, id⟩ rfl rfl

theorem closeClaim (h : P t) (id : ClaimId) (o : CloseOutcome) : P (t.closeClaim id o) := by
  unfold State.closeClaim
  split
  · exact h
  · refine K.wantPass (K.post (K.close ?_) _)
    split
    · exact h
    · exact K.wantReplan (K.fill (K.matched h))

theorem expireIfDue (h : P t) (id : ClaimId) : P (t.expireIfDue id) := by
  unfold State.expireIfDue
  split
  · exact h
  · exact kept_ite (K.closeClaim h id _) h

theorem handBack (h : P t) (id : ClaimId) : P (t.handBack id) := by
  unfold State.handBack
  split
  · exact h
  · split
    · exact K.claim (by exact fun _ => ⟨rfl, nofun⟩) h
    · split
      · exact K.unmatch (K.claim (by exact fun _ => ⟨rfl, nofun⟩) h) id _
      · exact kept_ite (K.enterReady h id _) (K.fallUnready h id _ _)

end KeptByMatch

/-! ### The operations of the exchanges -/

namespace KeptByTrade

variable (K : KeptByTrade P)
include K

theorem toMatch : KeptByMatch P where
  aside h k _ ha := K.aside h k ha
  claim hf k := K.claim hf k
  close k := K.close k
  matched k := K.record (by exact fun _ => rfl) k
  fill k := K.fill k

theorem setExch (h : P t) (x : ExNo) (e : Option Exchange) : P (t.setExch x e) :=
  K.aside h ⟨rfl, rfl, rfl, rfl, rfl, id⟩ rfl

theorem modExch (h : P t) (x : ExNo) (f : Exchange → Exchange) : P (t.modExch x f) := K.setExch h x _

theorem cutGrant (h : P t) (b : BayNo) : P (t.cutGrant b) := by
  unfold State.cutGrant
  split
  · exact h
  · exact K.toMatch.notify (K.record (by exact fun _ => rfl) h) _ _ _ _

theorem edit (h : P t) {b : BayNo} {f : Bay → Bay} (hf : ∀ r, (f r).core = r.core) : P (t.edit b f) := by
  have k : P (t.modBay b f) := K.record hf h
  have k' := kept_ite (c := (t.bay b).candidacyChanged ((t.modBay b f).bay b) = true) (K.toMatch.wantPass k) k
  unfold State.edit State.eligibilityEdge
  dsimp only
  split
  · exact K.toMatch.wantReplan (K.cutGrant k' b)
  · exact K.toMatch.wantReplan k'
  · exact k'

theorem queueLock (h : P t) (b : BayNo) : P (t.queueLock b) := K.door rfl (K.record (by exact fun _ => rfl) h)

theorem queueUnlock (h : P t) (b : BayNo) : P (t.queueUnlock b) := K.door rfl (K.record (by exact fun _ => rfl) h)

theorem enterPhase (h : P t) (x : ExNo) (ph : Phase) : P (t.enterPhase x ph) := by
  unfold State.enterPhase
  split
  · exact h
  · exact K.toMatch.notify (K.setExch h _ _) _ _ _ _

theorem enterIntakeOpen (h : P t) (x : ExNo) (b : BayNo) (unlock : Bool) : P (t.enterIntakeOpen x b unlock) :=
  K.enterPhase (kept_ite (K.queueUnlock h b) h) x _

theorem setRole (h : P t) (b : BayNo) (role : Role) : P (t.setRole b role) := K.edit h (by exact fun _ => rfl)

theorem releaseTake (h : P t) (x : ExNo) (id : ClaimId) (b : BayNo) (cause : LossCause) :
    P (t.releaseTake x id b cause) := K.modExch (K.setRole (K.toMatch.unmatch h id cause) b _) x _

theorem takeLoss (h : P t) (b : BayNo) (id : ClaimId) (cause : LossCause) : P (t.takeLoss b id cause) := by
  unfold State.takeLoss
  split
  · split
    · exact h
    · exact kept_ite (K.releaseTake h _ id b cause) h
  · exact h

theorem loseMatch (h : P t) (b : BayNo) (cause : LossCause) : P (t.loseMatch b cause) := by
  unfold State.loseMatch
  split
  · exact h
  · split
    · exact h
    · exact kept_ite (K.takeLoss h b _ cause) (K.toMatch.unmatch h _ cause)

theorem holdTest (h : P t) (b : BayNo) : P (t.holdTest b) := by
  unfold State.holdTest
  split
  · exact h
  · split
    · exact h
    · split
      · exact h
      · exact K.loseMatch h b _

theorem rejectIntake (h : P t) (b : BayNo) : P (t.rejectIntake b) := by
  unfold State.rejectIntake
  split
  · split
    · exact h
    · split
      · exact K.enterPhase (K.queueUnlock h b) _ _
      · exact K.enterPhase (K.queueUnlock h b) _ _
      · exact h
  · exact h

theorem clearRole (h : P t) (b : Option BayNo) : P (t.clearRole b) := by
  unfold State.clearRole
  split
  · exact h
  · exact K.setRole h _ _

theorem placeWatch (h : P t) (b : Option BayNo) (w : Watch) : P (t.placeWatch b w) := by
  unfold State.placeWatch
  split
  · exact h
  · exact K.record (by exact fun _ => rfl) h

/-- What follows the door commands and the faults of an exchange's end (R121). -/
theorem finish (h : P t) (x : ExNo) (e : Exchange) (o : Outcome) (watch : Option BayNo) :
    P (let s := (t.clearRole e.intake).clearRole e.take
       let s := s.placeWatch watch { claim := e.claim, outcome := o }
       let s := s.setExch x none
       let s := s.notify .swapEnd (.claim e.claim) o.code (exchangeNumber x)
       if o.handsBack then ((s.handBack e.claim).expireIfDue e.claim).wantPass else s) := by
  have k := K.toMatch.notify (K.setExch (K.placeWatch (K.clearRole (K.clearRole h e.intake) e.take) watch
    { claim := e.claim, outcome := o }) x none) .swapEnd (.claim e.claim) o.code (exchangeNumber x)
  exact kept_ite (c := o.handsBack = true) (K.toMatch.wantPass (K.toMatch.expireIfDue (K.toMatch.handBack k _) _)) k

/-- An exchange that ends without a bay judged for DOOR-AJAR. -/
theorem endExchange (h : P t) (x : ExNo) (o : Outcome) (locks : List BayNo) (watch : Option BayNo) :
    P (t.endExchange x o locks [] watch) := by
  unfold State.endExchange
  split
  · exact h
  · next e _ => exact K.finish (kept_foldl (P := P) (fun _ a k => K.queueLock k a) locks h) x e o watch

theorem seekReplacement (h : P t) (x : ExNo) (id : ClaimId) : P (t.seekReplacement x id) := by
  unfold State.seekReplacement
  split
  · exact h
  · split
    · exact K.endExchange h x _ _ _
    · exact K.enterPhase (K.queueUnlock (K.setRole (K.modExch (K.toMatch.bindClaim h id _ _) x _) _ _) _) x _

theorem takeNeeded (h : P t) (x : ExNo) (e : Exchange) : P (t.takeNeeded x e) := by
  unfold State.takeNeeded
  split
  · exact h
  · split
    · exact kept_ite (K.enterPhase (K.queueUnlock h _) x _) (K.endExchange h x _ _ _)
    · exact K.seekReplacement h x _

theorem takeChanged (h : P t) (x : ExNo) (e : Exchange) (b : BayNo) : P (t.takeChanged x e b) := by
  have k := K.modExch (K.setRole (K.queueLock (K.toMatch.unmatch h e.claim .packChanged) b) b .none) x
    (fun e => { e with take := none })
  exact kept_ite (c := e.abort = true) (K.endExchange k x .aborted [] none) (K.seekReplacement k x e.claim)

theorem dropMatchChanged (h : P t) (b : BayNo) : P (t.dropMatchChanged b) := by
  unfold State.dropMatchChanged
  split
  · split
    · exact h
    · exact kept_ite (K.takeChanged h _ _ b) (K.loseMatch h b _)
  · exact K.loseMatch h b _

theorem packTaken (h : P t) (x : ExNo) (e : Exchange) (b : BayNo) : P (t.packTaken x e b) := by
  have k := K.enterPhase (K.toMatch.closeClaim h e.claim .fulfilled) x .takeClosing
  exact kept_ite (K.endExchange k x .done [b] none) k

theorem exchangeRemoval (h : P t) (b : BayNo) (role : Role) : P (t.exchangeRemoval b role) := by
  unfold State.exchangeRemoval
  split
  · exact h
  · split
    · exact h
    · split
      · exact K.packTaken h _ _ b
      · exact h
      · exact K.releaseTake h _ _ b _
  · split
    · exact h
    · exact kept_ite (K.enterIntakeOpen h _ b _) h

theorem exchangeFollow (h : P t) (x : ExNo) (e : Exchange) (b : BayNo) (back : Bool) :
    P (t.exchangeFollow x e b back) := by
  unfold State.exchangeFollow
  dsimp only
  split
  · exact kept_ite (K.enterPhase (K.queueLock h b) x _) (kept_ite (K.endExchange h x _ _ _) h)
  · exact kept_ite (K.endExchange h x _ _ _) h
  · exact kept_ite (kept_ite (K.endExchange h x _ _ _) h)
      (kept_ite (kept_ite (K.modExch (K.queueUnlock h b) x _) (K.modExch h x _)) h)
  · exact kept_ite (K.endExchange h x _ _ _) h
  · exact h

theorem exchangeReport (h : P t) (b : BayNo) (before : Option Exchange) (back : Bool) :
    P (t.exchangeReport b before back) := by
  unfold State.exchangeReport
  split
  · split
    · exact h
    · exact kept_ite (K.exchangeFollow h _ _ b back) h
  · exact h

theorem relockBack (h : P t) (b : BayNo) (back : Bool) : P (t.relockBack b back) := kept_ite (K.queueLock h b) h

theorem dropWatch (h : P t) (b : BayNo) : P (t.dropWatch b) := kept_ite (K.record (by exact fun _ => rfl) h) h

theorem watchResult (h : P t) (b : BayNo) : P (t.watchResult b) := by
  unfold State.watchResult
  split
  · exact h
  · exact K.toMatch.notify (K.record (by exact fun _ => rfl) h) _ _ _ _

theorem exchangeLinkLost (h : P t) (b : BayNo) : P (t.exchangeLinkLost b) := by
  unfold State.exchangeLinkLost
  split
  · split
    · exact h
    · split
      · exact K.endExchange h _ _ _ _
      · exact K.endExchange h _ _ _ _
      · exact h
  · exact h

theorem raiseLinkDown (h : P t) : P t.raiseLinkDown :=
  kept_ite (K.toMatch.notify (t := t.reportLinkDown) (K.aside h ⟨rfl, rfl, rfl, rfl, rfl, id⟩ rfl) _ _ _ _) h

theorem clearLinkDown (h : P t) (b : BayNo) : P (t.clearLinkDown b) := by
  unfold State.clearLinkDown
  split
  · exact h
  · exact K.aside h ⟨rfl, rfl, rfl, rfl, rfl, id⟩ rfl

end KeptByTrade

/-! ### All operations of an arrival -/

namespace KeptByArrival

variable (K : KeptByArrival P)
include K

theorem toBay (b : BayNo) : KeptByBay b P where
  aside h k _ := K.aside h k
  record _ k := K.record k
  queue _ k := K.queue k
  identify k := K.identify k
  withdraw k := K.withdraw k

theorem toTrade : KeptByTrade P where
  aside h k _ := K.aside h k
  claim hf k := K.claim hf k
  close k := K.close k
  record _ k := K.record k
  door _ k := K.queue k
  fill k := (K.toBay _).fillTest k

theorem becomeFaulted (h : P t) (b : BayNo) (k : FaultCause) (value : Nat) (ending : Bool) :
    P (t.becomeFaulted b k value ending) := by
  have h1 : P (t.edit b (fun r => { r with state := .faulted, cause := some k, admission := none })) :=
    (K.toBay b).handOn (K.record h)
  have h2 := kept_ite (c := (t.bay b).holdsCharged = true) (K.queue (b := b) (c := .chargeStop false) h1) h1
  have h3 := kept_ite (c := (t.bay b).admission.isSome = true) (K.withdraw (b := b) h2) h2
  have h4 := kept_ite (c := ((t.bay b).admission.isSome && decide (k = .packError)) = true)
    ((K.toBay b).clearPack h3) h3
  have h5 := K.toTrade.loseMatch h4 b k.loss
  have h6 := kept_ite (c := (ending || decide (k = .profile)) = true) h5 (K.toTrade.rejectIntake h5 b)
  have h7 := K.toTrade.toMatch.notify h6 .bayFault (.bay b) k.code value
  exact kept_ite (c := ((t.bay b).admission.isSome && decide (k = .packError)) = true) (K.toTrade.watchResult h7 b) h7

theorem raiseFault (h : P t) (b : BayNo) (k : FaultCause) (value : Nat) (ending : Bool) :
    P (t.raiseFault b k value ending) := by
  unfold State.raiseFault
  split
  · exact K.becomeFaulted h b k value ending
  · exact kept_ite (K.toTrade.toMatch.notify ((K.toBay b).handOn (K.record h)) _ _ _ _) h

theorem downshift (h : P t) (b : BayNo) (p : Pack) : P (t.downshift b p) := by
  unfold State.downshift
  split
  · exact K.raiseFault h b _ _ _
  · exact K.queue ((K.toBay b).recap ((K.toBay b).notify (K.record h) _ _ _ _))

theorem countRefusal (h : P t) (b : BayNo) : P (t.countRefusal b) := by
  unfold State.countRefusal
  split
  · exact h
  · next p _ =>
    have k := (K.toBay b).setRefusals h (p.refusals + 1)
    exact kept_ite (K.downshift k b p) k

theorem takeSession (h : P t) (b : BayNo) (x : Session) : P (t.takeSession b x) := by
  unfold State.takeSession
  split
  · split
    · exact K.countRefusal h b
    · exact (K.toBay b).setRefusals h 0
    · exact h
  · exact h

theorem missPack (h : P t) (b : BayNo) : P (t.missPack b) := by
  have k := K.raiseFault ((K.toBay b).withoutPack h) b .packMissing 0 false
  exact kept_ite ((K.toBay b).recap k) k

theorem removePack (h : P t) (b : BayNo) : P (t.removePack b) := by
  unfold State.removePack
  dsimp only
  split
  · exact (K.toBay b).emptyBay h
  · split
    · exact h
    · exact (K.toBay b).emptyBay h
    · exact kept_ite ((K.toBay b).emptyBay h) ((K.toBay b).clearPack h)
    · exact K.missPack h b
  · exact kept_ite h (K.missPack h b)

theorem readmit (h : P t) (b : BayNo) : P (t.readmit b) := by
  unfold State.readmit
  split
  · exact h
  · exact K.toTrade.dropMatchChanged ((K.toBay b).clearPack h) b
  · exact K.toTrade.dropMatchChanged ((K.toBay b).startAdmission h _) b

theorem takeHeat (h : P t) (b : BayNo) (rep : ShortReport) : P (t.takeHeat b rep) := by
  have h1 := kept_ite (c := (rep.sensed && rep.packFault) = true) (K.raiseFault h b .packError 1 false) h
  exact (K.toBay b).rebandBay (kept_ite (c := (rep.sensed && decide (faultLimit ≤ clampTemp rep.temp)) = true)
    (K.raiseFault h1 b .hot (clampTemp rep.temp).toNat false) h1)

theorem takeDoor (h : P t) (b : BayNo) : P (t.takeDoor b) := kept_ite (K.raiseFault h b _ _ _) h

/-- A whole report (R6). -/
theorem applyReport (h : P t) (b : BayNo) (rep : ShortReport) (back : Bool) : P (t.applyReport b rep back) := by
  have h1 : P (t.takeFields b rep) := (K.toBay b).takeFields (K.record h)
  have h2 := (K.toBay b).insertPack (kept_ite (c := ((t.bay b).sensed && !rep.sensed) = true)
    (K.toTrade.exchangeRemoval (K.removePack h1 b) b (t.bay b).role) h1)
  have h3 := kept_ite (c := (decide ((t.bay b).state ≠ .vacant) && rep.sensed
      && (decide (rep.count ≠ (t.bay b).count) || rep.restart)) = true)
    (K.readmit h2 b) (kept_ite (c := back = true) ((K.toBay b).restoreLink h2) h2)
  exact K.toTrade.exchangeReport (K.toTrade.relockBack (K.toTrade.dropWatch (K.takeDoor ((K.toBay b).fillTest
    (K.takeSession (K.takeHeat h3 b rep) b _)) b) b) b back) b _ _

theorem identifyFailed (h : P t) (b : BayNo) : P (t.identifyFailed b) := by
  unfold State.identifyFailed
  split
  · exact h
  · exact kept_ite ((K.toBay b).queueIdentify h) (K.raiseFault h b _ _ _)

theorem chargeFailed (h : P t) (b : BayNo) (c : BusCmd) : P (t.chargeFailed b c) := by
  unfold State.chargeFailed
  dsimp only
  split
  · split
    · split
      · exact h
      · exact kept_ite (K.countRefusal h b) (K.queue (K.countRefusal h b))
    · exact h
  · exact kept_ite (K.queue h) h
  · exact h

theorem doorFailed (h : P t) (b : BayNo) (c : BusCmd) : P (t.doorFailed b c) := by
  unfold State.doorFailed
  split
  · split
    · exact h
    · split
      · exact h
      · split
        · exact K.toTrade.queueUnlock h b
        · exact K.toTrade.queueUnlock h b
        · exact h
    · split
      · exact h
      · exact kept_ite (K.toTrade.queueUnlock h b) h
  · exact kept_ite (K.toTrade.queueLock h b) h
  · exact h

theorem commandFailed (h : P t) (b : BayNo) (c : BusCmd) : P (t.commandFailed b c) := by
  unfold State.commandFailed
  split
  · split
    · exact h
    · exact kept_ite (K.identifyFailed h b) h
  · exact K.doorFailed h b _
  · exact K.doorFailed h b _
  · exact K.chargeFailed h b _
  · exact K.chargeFailed h b _

theorem deliverResult (h : P t) (b : BayNo) (p : Pack) (resolved : Option Profile) :
    P (t.deliverResult b p resolved) := by
  unfold State.deliverResult
  split
  · exact (K.toBay b).admitTo h _
  · split
    · exact K.raiseFault h b _ _ _
    · exact kept_ite (K.queue ((K.toBay b).admitTo h _)) (K.queue ((K.toBay b).admitTo h _))

theorem settleOther (h : P t) (b : BayNo) (a : Admission) (i : Identity) : P (t.settleOther b a i) := by
  unfold State.settleOther
  split
  · split
    · exact K.toTrade.loseMatch h b _
    · exact K.record h
    · exact h
  · exact h

variable (hc : ∀ {t : State} {id : ClaimId} {p : PackId}, P t →
  P (t.modClaim id (fun c => { c with returned := some p })))
include hc

theorem intakeResult (h : P t) (b : BayNo) (pack : PackId) : P (t.intakeResult b pack) := by
  unfold State.intakeResult
  split
  · split
    · exact h
    · next e _ =>
      have k : P (t.modClaim e.claim (fun c => { c with returned := some pack })) := hc h
      exact kept_ite (kept_ite (c := e.abort = true) (K.toTrade.endExchange k _ _ _ _) (K.toTrade.takeNeeded k _ e)) h
  · exact h

/-- The identity part of a reply; the credit it may write is the one change of a claim's terms (R116). -/
theorem takeIdentity (h : P t) (fl : Flight) (b : BayNo) (rep : ShortReport) (ans : Answer) :
    P (t.takeIdentity fl b rep ans) := by
  have accept : ∀ a i, P (t.acceptIdentity b a i rep) := fun a i => by
    unfold State.acceptIdentity
    split
    · exact K.raiseFault h b _ _ _
    · exact K.intakeResult hc (K.toTrade.watchResult (K.toTrade.holdTest (K.deliverResult
        ((K.toBay b).writePack (K.settleOther h b a i) _) b _ _) b) b) b _
  unfold State.takeIdentity
  split
  · split
    · unfold State.takeAnswer
      split
      · exact h
      · split
        · split
          · exact K.identifyFailed h b
          · exact accept _ _
        · exact h
    · exact h
  · exact h

end KeptByArrival

end Sys2Proof.Machine
end

section
/-! The conditions that outlast an arrival's operations, each shown once from the single writes. -/

namespace Sys2Proof.Machine

/-! ### All operations: an idle bus, a wanted plan, the claims' terms -/

theorem keptByArrival_idle : KeptByArrival (fun t => t.bus.flight = none) where
  aside h k := k.flight.trans h
  claim _ h := h
  close h := h
  record h := h
  queue h := State.queueCmd_idle h _ _
  identify h := Bus.place_idle h _ _
  withdraw h := Bus.withdraw_idle h _ _

theorem State.queueCmd_grants (s : State) (b : BayNo) (c : BusCmd) : (s.queueCmd b c).grants = s.grants := by
  rw [State.queueCmd_bus_only]

theorem State.queueCmd_book (s : State) (b : BayNo) (c : BusCmd) : (s.queueCmd b c).book = s.book := by
  rw [State.queueCmd_bus_only]

theorem State.queueCmd_exchanges (s : State) (b : BayNo) (c : BusCmd) :
    (s.queueCmd b c).exchanges = s.exchanges := by
  rw [State.queueCmd_bus_only]

theorem State.queueCmd_admissions (s : State) (b : BayNo) (c : BusCmd) :
    (s.queueCmd b c).admissions = s.admissions := by
  rw [State.queueCmd_bus_only]

theorem keptByArrival_planWanted : KeptByArrival (fun t => t.grants.replan = true) where
  aside h k := k.replan h
  claim _ h := h
  close h := h
  record h := h
  queue h := by rw [State.queueCmd_grants]; exact h
  identify h := h
  withdraw h := h

/-- Every open claim was open before with the same terms, and none has become SWAPPING. -/
def State.termsKept (s t : State) : Prop :=
  ∀ id d, t.claim? id = some d →
    ∃ c, s.claim? id = some c ∧ d.terms = c.terms ∧ (d.state = .swapping → c.state = .swapping)

theorem State.termsKept_refl (s : State) : s.termsKept s := fun _ d h => ⟨d, h, rfl, fun k => k⟩

/-- States of one book hold the same claims. -/
theorem State.claim?_of_book {s t : State} (h : t.book = s.book) (id : ClaimId) : t.claim? id = s.claim? id := by
  rw [State.claim?, h]
  rfl

theorem Trading.keeps_id {f : Claim → Claim} (hf : Trading f) (c : Claim) : (f c).id = c.id :=
  congrArg Prod.fst (hf c).1

/-- The claim of a name after a trading change of the claims of a name. -/
theorem Trading.claim? {f : Claim → Claim} (hf : Trading f) (s : State) (id i : ClaimId) :
    (s.modClaim id f).claim? i = if i = id then (s.claim? id).map f else s.claim? i :=
  s.modClaim_claim? id f (fun c h => (hf.keeps_id c).trans h) i

/-- The claims of one name taken out of the book. -/
theorem State.close_claim? (s : State) (id i : ClaimId) :
    (s.setClaims (s.book.claims.filter (fun d => !decide (d.id = id)))).claim? i
      = if i = id then none else s.claim? i := by
  simp only [State.claim?, State.setClaims_claims, List.find?_filter]
  split
  · next h =>
    rw [List.find?_eq_none]
    intro c _
    simp only [h, Bool.not_eq_true', decide_eq_false_iff_not, decide_eq_true_eq, not_and_self, not_false_eq_true]
  · next h =>
    congr 1
    funext c
    by_cases hc : c.id = i <;> simp [hc, h]

theorem keptByArrival_terms (s : State) : KeptByArrival s.termsKept where
  aside h k id d hd := h id d (by rwa [State.claim?_of_book k.book] at hd)
  claim {t id f} hf h i d hd := by
    rw [hf.claim?] at hd
    split at hd
    · next e =>
      obtain ⟨c, hc, rfl⟩ := Option.map_eq_some_iff.mp hd
      obtain ⟨b, hb, tb, sb⟩ := h id c hc
      exact ⟨b, e ▸ hb, (hf c).1.trans tb, fun k => sb ((hf c).2 k)⟩
    · exact h i d hd
  close {t id} h i d hd := by
    rw [State.close_claim?] at hd
    split at hd
    · cases hd
    · exact h i d hd
  record h := h
  queue {t b c} h id d hd := h id d (by rwa [State.claim?_of_book (t.queueCmd_book b c)] at hd)
  identify h := h
  withdraw h := h

/-- A claim that is not SWAPPING, or no longer open, stays so. -/
theorem keptByArrival_notSwapping (id : ClaimId) :
    KeptByArrival (fun t => ∀ d, t.claim? id = some d → d.state ≠ .swapping) where
  aside h k d hd := h d (by rwa [State.claim?_of_book k.book] at hd)
  claim {t i f} hf h d hd := by
    rw [hf.claim?] at hd
    split at hd
    · next e =>
      obtain ⟨c, hc, rfl⟩ := Option.map_eq_some_iff.mp hd
      exact fun k => h c (e ▸ hc) ((hf c).2 k)
    · exact h d hd
  close {t i} h d hd := by
    rw [State.close_claim?] at hd
    split at hd
    · cases hd
    · exact h d hd
  record h := h
  queue {t b c} h d hd := h d (by rwa [State.claim?_of_book (t.queueCmd_book b c)] at hd)
  identify h := h
  withdraw h := h

/-- A claim no longer open does not come back. -/
theorem keptByArrival_closed (id : ClaimId) : KeptByArrival (fun t => t.claim? id = none) where
  aside h k := (State.claim?_of_book k.book id).trans h
  claim {t i f} hf h := by
    show (t.modClaim i f).claim? id = none
    rw [hf.claim?]
    split
    · next e => rw [← e, h]; rfl
    · exact h
  close {t i} h := by
    show (t.setClaims _).claim? id = none
    rw [State.close_claim?, h, ite_self]
  record h := h
  queue {t b c} h := (State.claim?_of_book (t.queueCmd_book b c) id).trans h
  identify h := h
  withdraw h := h

/-! ### Matching and the exchanges: a bay record but for its match, role and fill -/

/-- A bay record but for what matching and the exchanges may write: the match, the role, the relock mark, the watch,
the grant, and whether a charged pack is CHARGING or TOPPED. -/
def Bay.calm (r : Bay) : Bay := { r.core with state := if r.holdsCharged then .charging else r.state }

theorem Bay.holdsCharged_iff (r : Bay) : r.holdsCharged = true ↔ r.state = .charging ∨ r.state = .topped := by
  simp only [Bay.holdsCharged, Bool.or_eq_true, decide_eq_true_eq]

theorem Bay.calm_eq_of_core {r r' : Bay} (h : r'.core = r.core) : r'.calm = r.calm := by
  have hs : r'.core.state = r.core.state := congrArg (fun k : Bay => k.state) h
  have hs : r'.state = r.state := hs
  rw [Bay.calm, Bay.calm, h, Bay.holdsCharged, Bay.holdsCharged, hs]

/-- Every bay's calm record is as it was, and no admission has started. -/
def State.calmSame (s t : State) : Prop := (∀ c, (t.bay c).calm = (s.bay c).calm) ∧ t.admissions = s.admissions

theorem State.bay_of_bays {t u : State} (h : u.bays = t.bays) (b : BayNo) : u.bay b = t.bay b := by
  rw [State.bay, h]
  rfl

/-- A move of the fill test leaves the calm record. -/
theorem State.fillTest_calm (s : State) (b c : BayNo) : ((s.fillTest b).bay c).calm = (s.bay c).calm := by
  by_cases hc : c = b
  · subst hc
    rcases s.fillTest_cases c with e | ⟨p, -, hs, -, e⟩ | ⟨p, -, hs, -, e⟩ <;> rw [e]
    · obtain ⟨g, -, hg⟩ := s.edit_bay_self c (fun r => { r with state := .topped })
      rw [State.queueCmd_bay, hg]
      simp [Bay.calm, Bay.core, Bay.holdsCharged, hs]
    · obtain ⟨g, -, hg⟩ := s.edit_bay_self c (fun r => { r with state := .charging })
      rw [State.queueCmd_bay, hg]
      simp [Bay.calm, Bay.core, Bay.holdsCharged, hs]
  · rw [s.fillTest_bay_other hc]

theorem State.fillTest_admissions (s : State) (b : BayNo) : (s.fillTest b).admissions = s.admissions :=
  (State.same_fillTest s.sameButMatches_refl b).2.2.2.2.2.1

theorem keptByTrade_calm (s : State) : KeptByTrade s.calmSame where
  aside h k ha := ⟨fun c => by rw [State.bay_of_bays k.bays]; exact h.1 c, ha.trans h.2⟩
  claim _ h := h
  close h := h
  record {t c f} hf h := ⟨fun n => by
    rw [State.modBay_bay]
    split
    · next e => rw [Bay.calm_eq_of_core (hf (t.bay c)), e, h.1 c]
    · exact h.1 n, h.2⟩
  door {t c k} _ h := ⟨fun n => by rw [State.queueCmd_bay]; exact h.1 n, (t.queueCmd_admissions c k).trans h.2⟩
  fill {t c} h := ⟨fun n => (t.fillTest_calm c n).trans (h.1 n), (t.fillTest_admissions c).trans h.2⟩

theorem State.calmSame_refl (s : State) : s.calmSame s := ⟨fun _ => rfl, rfl⟩

/-- What the same calm record says of two bay records. -/
theorem Bay.calm_fields {r r' : Bay} (h : r'.calm = r.calm) :
    r'.pack = r.pack ∧ r'.cause = r.cause ∧ r'.admission = r.admission ∧ r'.ceiling = r.ceiling
      ∧ r'.inForce = r.inForce ∧ r'.cap = r.cap ∧ r'.link = r.link ∧ r'.holdsCharged = r.holdsCharged
      ∧ (r.holdsCharged = false → r'.state = r.state) := by
  have hs : (if r'.holdsCharged then .charging else r'.state) = if r.holdsCharged then .charging else r.state :=
    congrArg (fun k : Bay => k.state) h
  have field {α : Type} (f : Bay → α) : f r'.calm = f r.calm := congrArg f h
  have charged : ∀ x : Bay, x.state = .charging → x.holdsCharged = true := fun x hx =>
    x.holdsCharged_iff.mpr (.inl hx)
  have hh : r'.holdsCharged = r.holdsCharged := by
    cases h1 : r'.holdsCharged <;> cases h2 : r.holdsCharged <;> simp only [h1, h2, if_true] at hs ⊢
    · exact absurd (charged r' hs) (by simp [h1])
    · exact absurd (charged r hs.symm) (by simp [h2])
  refine ⟨field Bay.pack, field Bay.cause, field Bay.admission, field Bay.ceiling, field Bay.inForce, field Bay.cap,
    field Bay.link, hh, fun k => ?_⟩
  rw [hh, k] at hs
  exact hs

/-! ### Waiting commands -/

@[simp] theorem State.cutGrant_bus (s : State) (b : BayNo) : (s.cutGrant b).bus = s.bus := by
  unfold State.cutGrant
  split <;> rfl

@[simp] theorem State.edit_bus (s : State) (b : BayNo) (f : Bay → Bay) : (s.edit b f).bus = s.bus := by
  have edge : ∀ (t : State) (was : Bool), (t.eligibilityEdge b was).bus = t.bus := fun t was => by
    unfold State.eligibilityEdge
    split
    · exact t.cutGrant_bus b
    · rfl
    · rfl
  rw [State.edit, edge]
  split <;> rfl

@[simp] theorem State.recap_bus (s : State) (b : BayNo) : (s.recap b).bus = s.bus := by
  unfold State.recap
  dsimp only
  split <;> rfl

/-- A waiting command that is not a charge command outlasts a fill test. -/
theorem State.queued_fillTest {s : State} {b : BayNo} {c : BusCmd} (h : s.queued b c) (hc : c.group ≠ .charge)
    (n : BayNo) : (s.fillTest n).queued b c := by
  have edited : ∀ f, (s.edit n f).queued b c := fun f => by
    rw [State.queued, State.edit_bus]
    exact h
  rcases s.fillTest_cases n with e | ⟨_, -, -, -, e⟩ | ⟨_, -, -, -, e⟩ <;> rw [e]
  · exact h
  · exact State.queued_queueCmd (edited _) n _ fun k => hc k.2
  · exact State.queued_queueCmd (edited _) n _ fun k => hc k.2

/-- A waiting command outlasts what leaves the bus's commands alone. -/
theorem State.queued_aside {t u : State} {b : BayNo} {c : BusCmd} (h : t.queued b c) (k : t.aside u) :
    u.queued b c := by
  rw [State.queued, k.queue, k.overflow]
  exact h

/-- A waiting IDENTIFY outlasts matching and the exchanges. -/
theorem keptByTrade_identify (b : BayNo) (n : Nat) : KeptByTrade (fun t => t.queued b (.identify n)) where
  aside h k _ := State.queued_aside h k
  claim _ h := h
  close h := h
  record _ h := h
  door {_ c k} hk h := State.queued_queueCmd h c k fun e => by rw [hk] at e; exact absurd e.2 nofun
  fill {_ c} h := State.queued_fillTest h nofun c

/-- A waiting command that is not a charge command outlasts matching. -/
theorem keptByMatch_queued (b : BayNo) (c : BusCmd) (hc : c.group ≠ .charge) :
    KeptByMatch (fun t => t.queued b c) where
  aside h k _ _ := State.queued_aside h k
  claim _ h := h
  close h := h
  matched h := h
  fill {_ n} h := State.queued_fillTest h hc n

end Sys2Proof.Machine
end

section
/-! What a match pass leaves alone: bays that are no candidates, and SWAPPING claims. -/

namespace Sys2Proof.Machine

/-! ### The READY tests write claims alone -/

theorem State.enterReady_bay (s : State) (id : ClaimId) (n b : BayNo) : (s.enterReady id n).bay b = s.bay b := by
  unfold State.enterReady
  split
  · rfl
  · dsimp only
    split
    · rfl
    · split
      · rfl
      · rw [State.notify_bay, State.countTime_bay, State.modClaim_bay]

theorem State.retest_bay (s : State) (id : ClaimId) (b : BayNo) : (s.retest id).bay b = s.bay b := by
  unfold State.retest
  split
  · rfl
  · split
    · split
      · exact s.enterReady_bay id _ b
      · rfl
    · split <;> rfl
    · rfl

theorem State.retestAll_bay (s : State) (b : BayNo) : s.retestAll.bay b = s.bay b :=
  kept_foldl (P := fun t => t.bay b = s.bay b) (fun u a h => (u.retest_bay a b).trans h) _ rfl

/-! ### Claims after a change of the claims of one name -/

/-- The bay a claim has been given is not `b`, for every open claim of a name. -/
def State.notOn (s : State) (id : ClaimId) (b : BayNo) : Prop := ∀ d, s.claim? id = some d → d.takeBay ≠ some b

theorem State.notOn_of_book {s t : State} {id : ClaimId} {b : BayNo} (h : s.notOn id b) (k : t.book = s.book) :
    t.notOn id b := fun d hd => h d (by rwa [State.claim?_of_book k] at hd)

/-- A claim changed so that it gains no bay but perhaps another. -/
theorem State.notOn_modClaim {s : State} {id : ClaimId} {b : BayNo} (h : s.notOn id b) {i : ClaimId}
    {f : Claim → Claim} (hf : Trading f) (hb : ∀ c, (f c).takeBay = some b → c.takeBay = some b) :
    (s.modClaim i f).notOn id b := by
  intro d hd
  rw [hf.claim?] at hd
  split at hd
  · next e =>
    obtain ⟨c, hc, rfl⟩ := Option.map_eq_some_iff.mp hd
    exact fun k => h c (e ▸ hc) (hb c k)
  · exact h d hd

theorem State.fillTest_book (s : State) (b : BayNo) : (s.fillTest b).book = s.book := by
  have K : KeptByBay b (fun t => t.book = s.book) :=
    ⟨fun h k _ => k.book.trans h, fun _ h => h, fun {t c} _ h => (t.queueCmd_book b c).trans h, fun h => h, fun h => h⟩
  exact K.fillTest rfl

/-- What entering READY makes of the claims: one change of those of the name, which gives no bay. -/
theorem State.enterReady_book (s : State) (id : ClaimId) (n : BayNo) :
    s.enterReady id n = s ∨ ∃ f : Claim → Claim,
      (∀ c, (f c).terms = c.terms ∧ (f c).state = .ready ∧ (f c).takeBay = c.takeBay)
        ∧ (s.enterReady id n).book = (s.modClaim id f).book := by
  unfold State.enterReady
  split
  · exact .inl rfl
  · refine .inr ?_
    dsimp only
    split
    · exact ⟨fun c => { c with state := .ready }, fun _ => ⟨rfl, rfl, rfl⟩, rfl⟩
    · split
      · exact ⟨fun c => { c with state := .ready, firstReady := some s.now }, fun _ => ⟨rfl, rfl, rfl⟩, rfl⟩
      · exact ⟨fun c => { c with state := .ready, firstReady := some s.now, expiry := s.storedTime (s.now + walkupHold) },
          fun _ => ⟨rfl, rfl, rfl⟩, State.countTime_book _ _⟩

theorem State.enterReady_notOn {s : State} {id : ClaimId} {b : BayNo} (h : s.notOn id b) (i : ClaimId) (n : BayNo) :
    (s.enterReady i n).notOn id b := by
  rcases s.enterReady_book i n with e | ⟨f, hf, e⟩
  · rw [e]; exact h
  · exact State.notOn_of_book (State.notOn_modClaim h
      (fun c => ⟨(hf c).1, fun k => by rw [(hf c).2.1] at k; cases k⟩) fun c k => (hf c).2.2 ▸ k) e

theorem State.fallUnready_notOn {s : State} {id : ClaimId} {b : BayNo} (h : s.notOn id b) (i : ClaimId) (n : BayNo)
    (level : Nat) : (s.fallUnready i n level).notOn id b :=
  State.notOn_modClaim h (by exact fun _ => ⟨rfl, nofun⟩) fun _ k => k

/-- The READY test gives and takes no bay. -/
theorem State.retest_notOn {s : State} {id : ClaimId} {b : BayNo} (h : s.notOn id b) (i : ClaimId) :
    (s.retest i).notOn id b := by
  unfold State.retest
  split
  · exact h
  · split
    · exact kept_ite (P := fun t => t.notOn id b) (State.enterReady_notOn h i _) h
    · exact kept_ite (P := fun t => t.notOn id b) h (State.fallUnready_notOn h i _ _)
    · exact h

/-! ### A match made and lost, as changes of the claim -/

/-- A claim bound to a bay (R66). -/
def Claim.bound (c : Claim) (b : BayNo) : Claim :=
  { c with takeBay := some b, state := if c.state = .swapping then .swapping else .matched }

/-- A claim unbound from its take bay (R70, R71). -/
def Claim.unbound (c : Claim) : Claim :=
  { c with
    takeBay := none
    state := if c.state = .swapping then .swapping else .waiting
    projected := if c.state = .swapping then c.projected else none }

/-- Binding a claim, but for the READY test at its end. -/
def State.bound (s : State) (id : ClaimId) (b : BayNo) (d : MatchDetail) : State :=
  (((((s.modClaim id (fun c => { c with takeBay := some b })).modBay b (fun r => { r with matched := some id })).fillTest
    b).modClaim id (fun c => if c.state = .swapping then c else { c with state := .matched })).notify .claimMatched
    (.claim id) d.code (bayNumber b)).wantReplan

theorem State.bindClaim_eq (s : State) (id : ClaimId) (b : BayNo) (d : MatchDetail) :
    s.bindClaim id b d = (s.bound id b d).retest id := rfl

/-- Two changes of the claims of a name, with a fill test between them, are one. -/
theorem State.modClaim_twice {s t : State} {id : ClaimId} {f g k : Claim → Claim} (hf : Trading f) (hg : Trading g)
    (hk : ∀ c, g (f c) = k c) (h : t.book = (s.modClaim id f).book) (i : ClaimId) :
    (t.modClaim id g).claim? i = if i = id then (s.claim? id).map k else s.claim? i := by
  rw [hg.claim?, State.claim?_of_book h, State.claim?_of_book h, hf.claim?, hf.claim?, if_pos rfl]
  split
  · rw [Option.map_map]
    congr 1
    exact funext hk
  · rfl

theorem State.bound_claim? (s : State) (id : ClaimId) (b : BayNo) (d : MatchDetail) (i : ClaimId) :
    (s.bound id b d).claim? i = if i = id then (s.claim? id).map (Claim.bound · b) else s.claim? i := by
  rw [State.bound, State.wantReplan_claim?, State.notify_claim?]
  refine State.modClaim_twice (f := fun c => { c with takeBay := some b }) (fun _ => ⟨rfl, fun k => k⟩)
    (trading_unless (f := fun c => { c with state := .matched }) fun _ => ⟨rfl, nofun⟩)
    (fun c => ?_) ?_ i
  · by_cases hc : c.state = .swapping <;> simp [Claim.bound, hc]
  · exact State.fillTest_book _ _

theorem State.unmatch_claim? {s : State} {id : ClaimId} {c : Claim} {b : BayNo} (hc : s.claim? id = some c)
    (hb : c.takeBay = some b) (cause : LossCause) (i : ClaimId) :
    (s.unmatch id cause).claim? i = if i = id then some c.unbound else s.claim? i := by
  simp only [State.unmatch, hc, hb, State.wantPass_claim?, State.wantReplan_claim?, State.notify_claim?]
  refine (State.modClaim_twice (s := s) (f := fun c => { c with takeBay := none }) (k := Claim.unbound)
    (fun _ => ⟨rfl, fun k => k⟩)
    (trading_unless (f := fun c => { c with state := .waiting, projected := none }) fun _ => ⟨rfl, nofun⟩)
    (fun c => ?_) ?_ i).trans ?_
  · by_cases hc : c.state = .swapping <;> simp [Claim.unbound, hc]
  · exact State.fillTest_book _ _
  · rw [hc]
    rfl

theorem State.unmatch_none {s : State} {id : ClaimId} (h : ∀ c, s.claim? id = some c → c.takeBay = none)
    (cause : LossCause) : s.unmatch id cause = s := by
  unfold State.unmatch
  split
  · rfl
  · next c hc => rw [h c hc]

/-! ### The bay a claim chooses is a candidate (R62, R63, R65) -/

theorem State.bestBay_ok {s : State} {ok : Bay → Bool} {b : BayNo} (h : s.bestBay ok = some b) :
    ok (s.bay b) = true := by
  have fold : ∀ (l : List BayNo) (best : Option BayNo), (∀ a ∈ l, ok (s.bay a) = true) →
      (∀ a, best = some a → ok (s.bay a) = true) → ∀ a, l.foldl s.better best = some a → ok (s.bay a) = true := by
    intro l
    induction l with
    | nil => exact fun best _ hb => hb
    | cons c l ih =>
      intro best hl hb
      refine ih _ (fun a ha => hl a (List.mem_cons_of_mem c ha)) fun a ha => ?_
      unfold State.better at ha
      split at ha
      · cases ha; exact hl c List.mem_cons_self
      · next a' =>
        split at ha <;> cases ha
        · exact hl c List.mem_cons_self
        · exact hb a rfl
  exact fold _ none (fun a ha => (List.mem_filter.mp ha).2) nofun b h

theorem Bay.candidate_of_in {r : Bay} {sec : BaySection} {c : Claim} (h : r.candidateIn sec c = true) :
    r.candidate c.cls = true := (Bool.and_eq_true _ _ ▸ h).1

theorem Bay.candidate_of_at {r : Bay} {sec : BaySection} {c : Claim} (h : r.candidateAt sec c = true) :
    r.candidate c.cls = true := Bay.candidate_of_in (Bool.and_eq_true _ _ ▸ h).1

theorem State.chooseBay_candidate {s : State} {c : Claim} {b : BayNo} {d : MatchDetail}
    (h : s.chooseBay c = some (b, d)) : (s.bay b).candidate c.cls = true := by
  unfold State.chooseBay at h
  split at h
  · unfold State.chooseBooking at h
    split at h
    · next hb => cases h; exact Bay.candidate_of_in (State.bestBay_ok hb)
    · split at h
      · split at h
        · next hb => cases h; exact Bay.candidate_of_in (State.bestBay_ok hb)
        · cases h
      · cases h
  · unfold State.chooseWalkup at h
    split at h
    · next hb => cases h; exact Bay.candidate_of_at (State.bestBay_ok hb)
    · split at h
      · next hb =>
        cases h
        split at hb
        · exact Bay.candidate_of_at (State.bestBay_ok hb)
        · cases hb
      · split at h
        · next hb => cases h; exact Bay.candidate_of_in (State.bestBay_ok hb)
        · cases h

/-! ### A bay that is no candidate -/

/-- A bay that no claim of a pass may choose (R62). -/
def Bay.unfit (r : Bay) : Prop := ∀ cls, r.candidate cls = false

theorem Bay.unfit_of_link {r : Bay} (h : r.link ≠ .reachable) : r.unfit := by
  simp [Bay.unfit, Bay.candidate, Bay.serviceable, h]

theorem Bay.unfit_of_service {r : Bay} (h : r.service ≠ .inService) : r.unfit := by
  simp [Bay.unfit, Bay.candidate, Bay.serviceable, h]

theorem Bay.unfit_of_idle {r : Bay} (h : r.holdsCharged = false) : r.unfit := by
  simp [Bay.unfit, Bay.candidate, h]

theorem Bay.unfit_of_role {r : Bay} (h : r.role ≠ .none) : r.unfit := by
  simp [Bay.unfit, Bay.candidate, h]

theorem State.bindClaim_bay_other (s : State) (id : ClaimId) {n b : BayNo} (d : MatchDetail) (h : b ≠ n) :
    (s.bindClaim id n d).bay b = s.bay b := by
  rw [State.bindClaim]
  simp only [State.retest_bay, State.wantReplan_bay, State.notify_bay, State.modClaim_bay,
    State.fillTest_bay_other _ h, State.modBay_bay_other _ _ _ _ h]

theorem State.bindClaim_notOn {s : State} {id : ClaimId} {b : BayNo} (h : s.notOn id b) (i : ClaimId) {n : BayNo}
    (d : MatchDetail) (hn : b ≠ n) : (s.bindClaim i n d).notOn id b := by
  refine State.retest_notOn (s := s.bound i n d) (fun c hc => ?_) i
  rw [State.bound_claim?] at hc
  split at hc
  · obtain ⟨c', -, rfl⟩ := Option.map_eq_some_iff.mp hc
    exact fun k => hn (Option.some.inj k).symm
  · exact h c hc

/-- What a pass leaves to an unfit bay: its record, and the claims that are not on it. -/
def State.passesBy (b : BayNo) (s t : State) : Prop := t.bay b = s.bay b ∧ ∀ id, s.notOn id b → t.notOn id b

theorem State.passesBy_trans {b : BayNo} {s t u : State} (h : s.passesBy b t) (k : t.passesBy b u) : s.passesBy b u :=
  ⟨k.1.trans h.1, fun id n => k.2 id (h.2 id n)⟩

theorem State.takeWaiting_passesBy (s : State) {b : BayNo} (h : (s.bay b).unfit) (id : ClaimId) :
    s.passesBy b (s.takeWaiting id) := by
  unfold State.takeWaiting
  split
  · exact ⟨rfl, fun _ k => k⟩
  · next c _ =>
    split
    · split
      · next n d hn =>
        have other : b ≠ n := by
          rintro rfl
          have := State.chooseBay_candidate hn
          rw [h] at this
          cases this
        exact ⟨s.bindClaim_bay_other id d other, fun _ k => State.bindClaim_notOn k id d other⟩
      · exact ⟨rfl, fun _ k => k⟩
    · exact ⟨rfl, fun _ k => k⟩

theorem State.runPass_passesBy (s : State) {b : BayNo} (h : (s.bay b).unfit) : s.passesBy b s.runPass :=
  kept_foldl (P := s.passesBy b) (fun u a k =>
    State.passesBy_trans k (u.takeWaiting_passesBy (by rw [k.1]; exact h) a)) _ ⟨rfl, fun _ k => k⟩

/-- The end of an arrival passes by a bay that is no candidate. -/
theorem State.settle_passesBy (s : State) {b : BayNo} (h : (s.bay b).unfit) : s.passesBy b s.settle := by
  have tests : s.passesBy b s.retestAll := ⟨s.retestAll_bay b, fun id k =>
    kept_foldl (P := fun t => t.notOn id b) (fun _ a k => State.retest_notOn k a) _ k⟩
  unfold State.settle
  dsimp only
  split
  · exact State.passesBy_trans tests (s.retestAll.runPass_passesBy (by rw [tests.1]; exact h))
  · exact tests

/-! ### SWAPPING claims -/

/-- SWAPPING claims are as they were. -/
def State.swapKept (s t : State) : Prop :=
  ∀ id c, s.claim? id = some c → c.state = .swapping → t.claim? id = some c

theorem State.swapKept_refl (s : State) : s.swapKept s := fun _ _ h _ => h

theorem State.swapKept_trans {s t u : State} (h : s.swapKept t) (k : t.swapKept u) : s.swapKept u :=
  fun id c hc hs => k id c (h id c hc hs) hs

theorem State.swapKept_of_book {s t u : State} (h : s.swapKept t) (k : u.book = t.book) : s.swapKept u :=
  fun id c hc hs => (State.claim?_of_book k id).trans (h id c hc hs)

/-- No claim of a name is SWAPPING. -/
def State.notSwapping (s : State) (id : ClaimId) : Prop := ∀ d, s.claim? id = some d → d.state ≠ .swapping

theorem State.notSwapping_of {s : State} {id : ClaimId} {c : Claim} (h : s.claim? id = some c)
    (hc : c.state ≠ .swapping) : s.notSwapping id := fun _ hd => Option.some.inj (h.symm.trans hd) ▸ hc

/-- A change of claims of a name that is not SWAPPING. -/
theorem State.modClaim_swapKept {s : State} {id : ClaimId} (h : s.notSwapping id) {f : Claim → Claim}
    (hf : Trading f) : s.swapKept (s.modClaim id f) := by
  intro i c hc hs
  rw [hf.claim?, if_neg]
  · exact hc
  · rintro rfl
    exact h c hc hs

theorem State.enterReady_swapKept {s : State} {id : ClaimId} (h : s.notSwapping id) (b : BayNo) :
    s.swapKept (s.enterReady id b) := by
  rcases s.enterReady_book id b with e | ⟨f, hf, e⟩
  · rw [e]; exact s.swapKept_refl
  · exact State.swapKept_of_book (State.modClaim_swapKept h
      (fun c => ⟨(hf c).1, fun k => by rw [(hf c).2.1] at k; cases k⟩)) e

theorem State.retest_swapKept (s : State) (id : ClaimId) : s.swapKept (s.retest id) := by
  unfold State.retest
  split
  · exact s.swapKept_refl
  · next c hc =>
    split
    · next hs =>
      exact kept_ite (P := s.swapKept) (State.enterReady_swapKept (State.notSwapping_of hc (by simp [hs])) _)
        s.swapKept_refl
    · next hs =>
      exact kept_ite (P := s.swapKept) s.swapKept_refl
        (State.modClaim_swapKept (State.notSwapping_of hc (by simp [hs])) (by exact fun _ => ⟨rfl, nofun⟩))
    · exact s.swapKept_refl

theorem State.bindClaim_swapKept {s : State} {id : ClaimId} (h : s.notSwapping id) (b : BayNo) (d : MatchDetail) :
    s.swapKept (s.bindClaim id b d) := by
  refine State.swapKept_trans (t := s.bound id b d) (fun i _ hc hs => ?_) (State.retest_swapKept _ id)
  rw [State.bound_claim?, if_neg]
  · exact hc
  · rintro rfl
    exact h _ hc hs

theorem State.unmatch_swapKept {s : State} {id : ClaimId} (h : s.notSwapping id) (cause : LossCause) :
    s.swapKept (s.unmatch id cause) := by
  by_cases hn : ∃ c b, s.claim? id = some c ∧ c.takeBay = some b
  · obtain ⟨c, b, hc, hb⟩ := hn
    intro i d hd hs
    rw [State.unmatch_claim? hc hb, if_neg]
    · exact hd
    · rintro rfl
      exact h d hd hs
  · rw [State.unmatch_none fun c hc => Option.eq_none_iff_forall_ne_some.mpr fun b hb => hn ⟨c, b, hc, hb⟩]
    exact s.swapKept_refl

theorem State.takeWaiting_swapKept (s : State) (id : ClaimId) : s.swapKept (s.takeWaiting id) := by
  unfold State.takeWaiting
  split
  · exact s.swapKept_refl
  · next c hc =>
    split
    · next hs =>
      split
      · exact State.bindClaim_swapKept (State.notSwapping_of hc (by simp [hs])) _ _
      · exact s.swapKept_refl
    · exact s.swapKept_refl

/-- The end of an arrival leaves SWAPPING claims as they are. -/
theorem State.settle_swapKept (s : State) : s.swapKept s.settle := by
  have tests : s.swapKept s.retestAll := kept_foldl (P := s.swapKept)
    (fun u a k => State.swapKept_trans k (u.retest_swapKept a)) _ s.swapKept_refl
  have pass : s.retestAll.swapKept s.retestAll.runPass := kept_foldl (P := s.retestAll.swapKept)
    (fun u a k => State.swapKept_trans k (u.takeWaiting_swapKept a)) _ (State.swapKept_refl _)
  unfold State.settle
  dsimp only
  split
  · exact State.swapKept_trans tests pass
  · exact tests

end Sys2Proof.Machine
end

section
/-! SET-BAY-SERVICE (R20). -/

open Sys2Proof Sys2Proof.Machine
namespace Sys2Proof.Machine

/-! ### A bay that loses its match -/

/-- A bay after its claim is unbound from it: without a match, and otherwise as a fill test leaves it. -/
theorem State.unmatch_bay_matched {s : State} {id : ClaimId} {c : Claim} {b : BayNo} (hc : s.claim? id = some c)
    (hb : c.takeBay = some b) (cause : LossCause) : ((s.unmatch id cause).bay b).matched = none := by
  have keep : ∀ t : State, (t.bay b).matched = none → ((t.fillTest b).bay b).matched = none := fun t ht => by
    rcases t.fillTest_cases b with e | ⟨_, -, -, -, e⟩ | ⟨_, -, -, -, e⟩ <;> rw [e]
    · exact ht
    · obtain ⟨g, -, hg⟩ := t.edit_bay_self b (fun r => { r with state := .topped })
      rw [State.queueCmd_bay, hg]
      exact ht
    · obtain ⟨g, -, hg⟩ := t.edit_bay_self b (fun r => { r with state := .charging })
      rw [State.queueCmd_bay, hg]
      exact ht
  simp only [State.unmatch, hc, hb, State.wantPass_bay, State.wantReplan_bay, State.notify_bay, State.modClaim_bay]
  exact keep _ (by rw [State.modBay_bay_self])

/-- After its claim is unbound no claim of the name is on the bay. -/
theorem State.unmatch_notOn {s : State} {id : ClaimId} {c : Claim} {b : BayNo} (hc : s.claim? id = some c)
    (hb : c.takeBay = some b) (cause : LossCause) (n : BayNo) : (s.unmatch id cause).notOn id n := by
  intro d hd
  rw [State.unmatch_claim? hc hb, if_pos rfl] at hd
  obtain rfl := Option.some.inj hd
  exact nofun

/-- A MATCHED or READY claim's bay that stops serving unbinds it (R70). -/
theorem State.loseMatch_unmatch {s : State} {b : BayNo} {id : ClaimId} {c : Claim} (hm : (s.bay b).matched = some id)
    (hc : s.claim? id = some c) (hs : c.state ≠ .swapping) (cause : LossCause) :
    s.loseMatch b cause = s.unmatch id cause := by
  simp only [State.loseMatch, hm, hc, if_neg hs]

/-- With role NONE a bay that stops serving writes matches alone. -/
theorem State.same_loseMatch (s : State) {b : BayNo} (h : (s.bay b).role = .none) (cause : LossCause) :
    s.sameButMatches (s.loseMatch b cause) := by
  unfold State.loseMatch
  split
  · exact s.sameButMatches_refl
  · split
    · exact s.sameButMatches_refl
    · split
      · simp only [State.takeLoss, h]
        exact s.sameButMatches_refl
      · exact State.same_unmatch s.sameButMatches_refl _ _

/-! ### SET-BAY-SERVICE -/

theorem exec_setBayService (n v : Byte) (s : State) :
    exec (.setBayService .gateway n v) s = .next (s.takeRequest .gateway (.setBayService n v)) := rfl

theorem serviceOfByte_some {n : Byte} {v : Service} (h : n.toNat = v.code) : serviceOfByte n = some v := by
  rw [serviceOfByte, h]
  cases v <;> rfl

theorem serviceOfByte_none {n : Byte} (h : 1 < n.toNat) : serviceOfByte n = none := by
  unfold serviceOfByte
  split
  · omega
  · omega
  · rfl

theorem State.setBayService_badField (s : State) {n v : Byte} (h : bayOfByte n = none ∨ serviceOfByte v = none) :
    s.setBayService n v = s.refuse .badField := by
  unfold State.setBayService
  split
  · next hb hv => rcases h with e | e <;> simp_all
  · rfl

/-- The checks passed: the service in force, or its change and the end of the arrival, and the reply. -/
theorem State.setBayService_done (s : State) {n v : Byte} {b : BayNo} {x : Service} (hb : n.toNat = bayNumber b)
    (hv : v.toNat = x.code) (hr : x = .outOfService → (s.bay b).role = .none) :
    let t := if (s.bay b).service = x then s else (s.changeService b x).settle
    s.setBayService n v = t.reply ([n] ++ u8 (t.bay b).service.code ++ u8 (t.bay b).state.code) := by
  have ok : ¬(x = .outOfService ∧ (s.bay b).role ≠ .none) := fun h => h.2 (hr h.1)
  simp only [State.setBayService, bayOfByte_some hb, serviceOfByte_some hv, if_neg ok, u8_bayNumber hb]

theorem u8_eq (n : Nat) : u8 n = [BitVec.ofNat 8 n] := by
  simp [u8, beBytes]

/-- A service code sent back is the byte it came as. -/
theorem u8_code {v : Byte} {n : Nat} (h : v.toNat = n) : u8 n = [v] := by
  rw [u8_eq, ← h, BitVec.ofNat_toNat, BitVec.setWidth_eq]

/-- The change of service and the end of its arrival write the service and matches. -/
theorem State.changeService_same (s : State) {b : BayNo} {x : Service} (hr : x = .outOfService → (s.bay b).role = .none) :
    (s.modBay b (fun r => { r with service := x })).sameButMatches (s.changeService b x).settle := by
  have e := s.edit_same b (fun r => { r with service := x })
  refine State.same_settle (State.sameButMatches_trans e ?_)
  cases x with
  | inService => exact State.same_wantReplan (State.sameButMatches_refl _)
  | outOfService =>
    refine State.same_loseMatch _ ?_ _
    obtain ⟨g, -, hg⟩ := s.edit_bay_self b (fun r => { r with service := .outOfService })
    rw [hg]
    exact hr rfl

@[simp] theorem State.edit_book (s : State) (b : BayNo) (f : Bay → Bay) : (s.edit b f).book = s.book := by
  unfold State.edit State.eligibilityEdge State.cutGrant
  dsimp only
  split
  · split
    · split <;> rfl
    · split <;> rfl
  · split <;> rfl
  · split <;> rfl

/-- A bay taken out of service loses its grant and the claim that was matched with it (R14, R70, R101). -/
theorem State.outOfService_spec (s : State) (b : BayNo) :
    let u := (s.changeService b .outOfService).settle
    (s.eligible b = true → (u.bay b).grant = 0)
      ∧ ∀ c, (s.bay b).matched = some c.id → s.claim? c.id = some c → c.takeBay = some b → c.state ≠ .swapping →
          (u.bay b).matched = none ∧ ∀ d, u.claim? c.id = some d → d.takeBay ≠ some b := by
  set e := s.edit b (fun r => { r with service := .outOfService }) with he
  obtain ⟨g, -, hg⟩ := s.edit_bay_self b (fun r => { r with service := .outOfService })
  rw [← he] at hg
  have change : s.changeService b .outOfService = e.loseMatch b .service := rfl
  refine ⟨fun h => ?_, fun c hm hc hb hs => ?_⟩
  · have cut : (e.bay b).grant = 0 := s.edit_grant_zero b _ h (by simp [Bay.ownEligible])
    have fall := State.inner_bay (State.inner_settle (State.inner_loseMatch e.inner_refl b .service)) b
    rw [change]
    omega
  · have hm' : (e.bay b).matched = some c.id := by rw [hg]; exact hm
    have hc' : e.claim? c.id = some c := by rw [State.claim?_of_book (s.edit_book b _)]; exact hc
    have lost : e.loseMatch b .service = e.unmatch c.id .service := State.loseMatch_unmatch hm' hc' hs _
    have out : ((e.unmatch c.id .service).bay b).unfit := Bay.unfit_of_service (by
      rw [(State.inner_bay (State.inner_unmatch e.inner_refl c.id .service) b).2.1, hg]
      exact nofun)
    obtain ⟨bay, claims⟩ := State.settle_passesBy _ out
    rw [change, lost, bay]
    exact ⟨State.unmatch_bay_matched hc' hb _, claims _ (State.unmatch_notOn hc' hb _ b)⟩

/-- Settles O18. -/
theorem setBayService : Obligations.SetBayService := by
  intro n v s hfree
  have refused : ∀ c, s.setBayService n v = s.refuse c →
      exec (.setBayService .gateway n v) s = .next (s.refusal .gateway 0x11 c []) := fun c h => by
    rw [exec_setBayService, s.takeRequest_refused .gateway (.setBayService n v) hfree rfl c [] h]
    rfl
  refine ⟨fun h => refused _ (s.setBayService_badField ?_), fun b hb => ?_⟩
  · rcases h with h | h | h
    · exact .inl (bayOfByte_none (.inl h))
    · exact .inl (bayOfByte_none (.inr h))
    · exact .inr (serviceOfByte_none h)
  have answered : ∀ (x : Service) (t : State), v.toNat = x.code → (x = .outOfService → (s.bay b).role = .none) →
      (if (s.bay b).service = x then s else (s.changeService b x).settle) = t → (t.bay b).service = x →
      exec (.setBayService .gateway n v) s = .next (t.success .gateway (.setBayService n v)
        [n, v, BitVec.ofNat 8 (t.bay b).state.code]) := fun x t hv hr ht hx => by
    rw [exec_setBayService, s.takeRequest_ok .gateway _ hfree rfl t]
    show s.setBayService n v = _
    rw [s.setBayService_done hb hv hr, ht, hx, u8_code hv, u8_eq]
    rfl
  have changed : ∀ x : Service, v.toNat = x.code → (x = .outOfService → (s.bay b).role = .none) →
      (s.bay b).service ≠ x →
      exec (.setBayService .gateway n v) s = .next (((s.changeService b x).settle).success .gateway
        (.setBayService n v) [n, v, BitVec.ofNat 8 (((s.changeService b x).settle).bay b).state.code])
      ∧ (s.modBay b (fun r => { r with service := x })).sameButMatches (s.changeService b x).settle :=
    fun x hv hr hx => by
      have same := s.changeService_same hr
      refine ⟨answered x _ hv hr (if_neg hx) ?_, same⟩
      obtain ⟨-, -, -, -, -, -, -, base, -⟩ := same
      have := congrArg Bay.service (base b)
      rwa [State.modBay_bay_self] at this
  refine ⟨fun hv hr => refused _ ?busy, fun hv hr => ?inForce, fun hv hs hr => ?out, fun hv hs => ?back⟩
  case busy =>
    simp only [State.setBayService, bayOfByte_some hb, serviceOfByte_some (v := .outOfService) (n := v) (by rw [hv]; rfl)]
    exact if_pos ⟨trivial, hr⟩
  case inForce =>
    refine answered (s.bay b).service s hv (fun h => hr ?_) (if_pos rfl) rfl
    rw [h] at hv
    exact BitVec.eq_of_toNat_eq hv
  case out =>
    obtain ⟨reply, same⟩ := changed .outOfService (by rw [hv]; rfl) (fun _ => hr) (by rw [hs]; exact nofun)
    exact ⟨_, reply, same, s.outOfService_spec b⟩
  case back =>
    obtain ⟨reply, same⟩ := changed .inService (by rw [hv]; rfl) nofun (by rw [hs]; exact nofun)
    exact ⟨_, reply, same, keptByArrival_planWanted.toTrade.toMatch.settle rfl⟩

end Sys2Proof.Machine
end

section
/-! A report's stages, and what the operations on the bay's own record make of it. -/

open Sys2Proof Sys2Proof.Machine
namespace Sys2Proof.Machine

/-! ### The stages of an accepted reply -/

/-- The transaction is complete and the link has been answered for (R132, R138). -/
def State.heard (s : State) (b : BayNo) : State := (s.modBus Bus.land).answerLink b

/-- The report's pack may not be the one recorded (R36). -/
def State.moved (s : State) (b : BayNo) (rep : ShortReport) : Bool :=
  decide ((s.bay b).state ≠ .vacant) && rep.sensed && (decide (rep.count ≠ (s.bay b).count) || rep.restart)

/-- The fields and the removal of a report. -/
def State.removed (s : State) (b : BayNo) (rep : ShortReport) : State :=
  if (s.bay b).sensed && !rep.sensed then ((s.takeFields b rep).removePack b).exchangeRemoval b (s.bay b).role
  else s.takeFields b rep

/-- The fields, the removal, and the insertion or re-admission of a report. -/
def State.packed (s : State) (b : BayNo) (rep : ShortReport) (back : Bool) : State :=
  let u := (s.removed b rep).insertPack b
  if s.moved b rep then u.readmit b else if back then u.restoreLink b else u

/-- What a report's heat, session, SoC and door bring, and the lists of the bay. -/
def State.judged (s : State) (b : BayNo) (rep : ShortReport) (back : Bool) : State :=
  (((((s.takeHeat b rep).takeSession b rep.session).fillTest b).takeDoor b).dropWatch b).relockBack b back

/-- The exchange a bay's role names, as a report finds it. -/
def State.exchangeAt (s : State) (b : BayNo) : Option Exchange := (s.bay b).role.exchange?.bind s.exch

theorem State.applyReport_eq (s : State) (b : BayNo) (rep : ShortReport) (back : Bool) :
    s.applyReport b rep back = ((s.packed b rep back).judged b rep back).exchangeReport b (s.exchangeAt b)
      (back && !s.moved b rep) := rfl

/-- A BAY_REPLY that passes the check and carries the address is taken (R132). -/
theorem exec_bayReply {s : State} {fl : Flight} {b : BayNo} (hf : s.bus.flight = some fl) (hb : fl.bay? = some b)
    (rep : ShortReport) (ans : Answer) :
    exec (.bayReply true (BitVec.ofNat 8 (bayNumber b)) rep ans) s = .next (s.answered fl b rep ans).settle := by
  show Host.Outcome.next (s.takeReply true (BitVec.ofNat 8 (bayNumber b)) rep ans) = _
  simp only [State.takeReply, hf, hb, bayNumber_toNat]
  rw [if_neg (by decide), if_neg fun h => h rfl]

/-- The link's return is judged by the link before the reply. -/
def State.back (s : State) (b : BayNo) : Bool := decide ((s.bay b).link = .lost)

theorem State.answered_eq (s : State) (fl : Flight) (b : BayNo) (rep : ShortReport) (ans : Answer) :
    s.answered fl b rep ans
      = (((s.heard b).applyReport b rep (s.back b)).clearLinkDown b).takeIdentity fl b rep ans := rfl

/-- A poll's reply carries no identity (R131). -/
theorem State.answered_poll (s : State) (b : BayNo) (rep : ShortReport) (ans : Answer) :
    s.answered (.poll b) b rep ans = ((s.heard b).applyReport b rep (s.back b)).clearLinkDown b := rfl

/-! ### The link answered for -/

theorem State.heard_bay (s : State) (b c : BayNo) :
    (s.heard b).bay c = if c = b then { s.bay b with misses := 0, link := .reachable } else s.bay c := by
  unfold State.heard State.answerLink
  dsimp only
  split
  · next h =>
    rw [State.modBay_bay_self] at h
    rw [State.modBay_bay]
    split
    · rw [State.modBus_bay, ← show (s.bay b).link = .reachable from h]
    · rfl
  · next h =>
    rw [State.modBay_bay_self] at h
    have dark : ((s.modBus Bus.land).modBay b (fun r => { r with misses := 0 })).eligible b = false := by
      simp only [State.eligible, Bay.ownEligible, State.modBay_bay_self]
      simp [show (s.bay b).link ≠ .reachable from h]
    rw [State.changeLink, State.notify_bay, State.edit_bay, dark]
    split
    · rw [State.modBay_bay_self]
      simp
    · next hc => rw [State.modBay_bay_other _ _ _ _ hc]; rfl

theorem State.heard_bay_self (s : State) (b : BayNo) :
    (s.heard b).bay b = { s.bay b with misses := 0, link := .reachable } := by
  rw [State.heard_bay, if_pos rfl]

/-- A condition on the bus's waiting commands and the rest that the completed transaction and the link keep. -/
theorem State.heard_kept {s : State} {b : BayNo} {P : State → Prop} (K : KeptByBay b P) (h : P (s.modBus Bus.land)) :
    P (s.heard b) := K.answerLink h

/-! ### A report's fields -/

theorem State.socChanged_bay (s : State) (b : BayNo) (p : Pack) (c : BayNo) : (s.socChanged b p).bay c = s.bay c := by
  unfold State.socChanged
  dsimp only
  split
  · rfl
  · split <;> split <;> rfl

theorem State.takeFields_edit_bay (s : State) (b : BayNo) (rep : ShortReport) (c : BayNo) :
    (s.takeFields b rep).bay c = (s.edit b (fun r => r.report rep)).bay c := by
  unfold State.takeFields
  dsimp only
  split
  · rfl
  · split
    · exact State.socChanged_bay _ b _ c
    · rfl

/-- The record with a report's fields, and a grant cut when they end eligibility. -/
theorem State.takeFields_bay (s : State) (b : BayNo) (rep : ShortReport) :
    ∃ g ≤ (s.bay b).grant, (s.takeFields b rep).bay b = { (s.bay b).report rep with grant := g }
      ∧ (s.eligible b = true → g = 0 ∨ (s.takeFields b rep).eligible b = true) := by
  have e : (s.takeFields b rep).bay b = (s.edit b (fun r => r.report rep)).bay b := s.takeFields_edit_bay b rep b
  have hg : (s.takeFields b rep).grants.settings = s.grants.settings := (s.takeFields_inner b rep).2.1
  have halt : (s.takeFields b rep).grants.halt = s.grants.halt :=
    congrArg (a₁ := (s.takeFields b rep).grants.settings) (a₂ := s.grants.settings) Grants.halt hg
  have feed : (s.takeFields b rep).grants.feed = s.grants.feed :=
    congrArg (a₁ := (s.takeFields b rep).grants.settings) (a₂ := s.grants.settings) Grants.feed hg
  rw [State.edit_bay, if_pos rfl] at e
  refine ⟨_, ?_, e, fun h => ?_⟩
  · split
    · exact Nat.zero_le _
    · exact Nat.le_refl _
  · have same : (s.takeFields b rep).eligible b = (s.modBay b (fun r => r.report rep)).eligible b := by
      simp only [State.eligible, e, halt, feed, State.modBay_bay_self]
      rfl
    by_cases k : (s.modBay b (fun r => r.report rep)).eligible b = true
    · exact .inr (same.trans k)
    · exact .inl (if_pos ⟨h, Bool.eq_false_iff.mpr k⟩)

/-! ### The start of an admission (R22) -/

@[simp] theorem State.withdrawIdentify_bay (s : State) (b c : BayNo) : (s.withdrawIdentify b).bay c = s.bay c := rfl

theorem State.queueIdentify_bay {s : State} {b : BayNo} {a : Admission} (ha : (s.bay b).admission = some a)
    (hl : (s.bay b).link ≠ .lost) :
    (s.queueIdentify b).bay b = { s.bay b with admission := some { a with attempts := a.attempts + 1 } }
      ∧ (s.queueIdentify b).queued b (.identify a.number) := by
  simp only [State.queueIdentify, ha, if_neg hl]
  refine ⟨by rw [State.modBus_bay, State.modBay_bay_self], { bay := b, cmd := .identify a.number, attempts := 0 }, ?_, rfl, rfl⟩
  exact (Bus.mem_place s.bus b (.identify a.number) _).mpr (.inr rfl)

/-- A new admission of cause INSERTION on a bay that is not LOST: no record, the staged set in force, IDENTIFY
queued under a new number, and no grant where there was eligibility or a pack. -/
theorem State.startAdmission_insertion {s : State} {b : BayNo} (hl : (s.bay b).link ≠ .lost) :
    let t := s.startAdmission b .insertion
    (∃ g cap, t.bay b = { s.bay b with
        inForce := (s.bay b).staged, ceiling := none, pack := none, band := none, state := .admitting, cause := none,
        admission := some { cause := .insertion, attempts := 1, held := false, number := s.admissions + 1 },
        grant := g, cap := cap }
      ∧ (s.eligible b = true ∨ (s.bay b).pack.isSome = true → g = 0))
      ∧ t.queued b (.identify (s.admissions + 1)) ∧ t.admissions = s.admissions + 1 := by
  set a : Admission := { cause := .insertion, attempts := 0, held := false, number := s.admissions + 1 } with ha
  set f : Bay → Bay := fun r =>
    { r.admitAs .insertion with state := .admitting, cause := none, admission := some a } with hf
  set e := ({ s.withdrawIdentify b with admissions := s.admissions + 1 } : State).edit b f with he
  set w := if (s.bay b).pack.isSome && decide (AdmissionCause.insertion = .insertion) then e.recap b else e with hw
  have start : s.startAdmission b .insertion = w.queueIdentify b := rfl
  have ebay : ∃ g ≤ (s.bay b).grant, e.bay b = { f (s.bay b) with grant := g } ∧ (s.eligible b = true → g = 0) := by
    obtain ⟨g, hle, hg⟩ := ({ s.withdrawIdentify b with admissions := s.admissions + 1 } : State).edit_bay_self b f
    refine ⟨g, hle, hg, fun h => ?_⟩
    have z := ({ s.withdrawIdentify b with admissions := s.admissions + 1 } : State).edit_grant_zero b f h
      (by simp [Bay.ownEligible, hf])
    rw [← he, hg] at z
    exact z
  obtain ⟨g, -, hg, hg0⟩ := ebay
  have wbay : ∃ g cap, w.bay b = { f (s.bay b) with grant := g, cap := cap }
      ∧ (s.eligible b = true ∨ (s.bay b).pack.isSome = true → g = 0) := by
    rw [hw]
    split
    · have nocap : e.capOf b = 0 := by rw [State.capOf, hg]; rfl
      refine ⟨_, _, by rw [State.recap_bay, if_pos rfl, hg], fun _ => ?_⟩
      rw [nocap]
      split
      · rfl
      · omega
    · next hp =>
      refine ⟨g, _, hg, fun h => hg0 (h.resolve_right fun k => hp ?_)⟩
      rw [k]
      rfl
  obtain ⟨g', cap, hwb, hz⟩ := wbay
  obtain ⟨qb, qq⟩ := State.queueIdentify_bay (s := w) (a := a) (by rw [hwb]) (by rw [hwb]; exact hl)
  refine ⟨⟨g', cap, ?_, hz⟩, by rw [start]; exact qq, ?_⟩
  · rw [start, qb, hwb]
    rfl
  · have ea : e.admissions = s.admissions + 1 := (State.edit_same _ b f).2.2.2.2.2.1
    have wa : w.admissions = s.admissions + 1 := by
      rw [hw]
      split
      · rw [← ea, State.recap]
        dsimp only
        split <;> rfl
      · exact ea
    rw [start]
    unfold State.queueIdentify
    split
    · exact wa
    · split <;> exact wa

end Sys2Proof.Machine
end

section
/-! Notices that have been sent, and operations that move no exchange: they leave the exchange table, the roles, the
relock list, the door commands and the SWAPPING claims. -/

open Sys2Proof Sys2Proof.Machine
namespace Sys2Proof.Machine

/-! ### Notices sent (R171) -/

/-- A notice has been placed in a queue, or the queue has overflowed. -/
def PortState.holds (q : PortState) (n : Notice) : Prop := n ∈ q.notices ∨ q.overflow = true

theorem PortState.push_holds (q : PortState) (n : Notice) : (q.push n).holds n := by
  unfold PortState.push
  dsimp only
  split
  · exact .inl (List.mem_append_right _ (List.mem_singleton.mpr rfl))
  · exact .inr rfl

theorem PortState.holds_push {q : PortState} {n : Notice} (h : q.holds n) (m : Notice) : (q.push m).holds n := by
  unfold PortState.push
  dsimp only
  split
  · exact h.imp (List.mem_append_left _) id
  · exact .inr rfl

theorem Ports.holds_post {ps : Ports} {p : Port} {n : Notice} (h : (ps.get p).holds n) (m : Notice) :
    ((ps.post m).get p).holds n := by
  rw [Ports.post_get]
  split
  · exact PortState.holds_push h m
  · exact h

theorem Ports.holds_foldl {ps : Ports} {p : Port} {n : Notice} (h : (ps.get p).holds n) (ns : List Notice) :
    ((ns.foldl Ports.post ps).get p).holds n := by
  induction ns generalizing ps with
  | nil => exact h
  | cons m ns ih => exact ih (Ports.holds_post h m)

theorem State.sent_post (s : State) {p : Port} {n : Notice} (h : routed n p = true) : (s.post n).sent p n := by
  show ((s.ports.post n).get p).holds n
  rw [Ports.post_get, if_pos h]
  exact PortState.push_holds _ n

theorem State.sent_notify (s : State) {p : Port} {k : NoticeKind} {u : Subject} {d v : Nat}
    (h : routed (s.notice k u d v) p = true) : (s.notify k u d v).sent p (s.notice k u d v) := s.sent_post h

/-- A notice sent outlasts the operations within an arrival. -/
theorem State.inner_sent {s t : State} (h : s.inner t) {p : Port} {n : Notice} (k : s.sent p n) : t.sent p n := by
  obtain ⟨-, -, -, -, -, -, -, ns, e⟩ := h
  show (t.ports.get p).holds n
  rw [e]
  exact Ports.holds_foldl k ns

/-- A notice of states with one clock is the same notice. -/
theorem State.notice_of_clock {s t : State} (h : t.clock = s.clock) (k : NoticeKind) (u : Subject) (d v : Nat) :
    t.notice k u d v = s.notice k u d v := by
  rw [State.notice, h]
  rfl

theorem State.inner_clock {s t : State} (h : s.inner t) : t.clock = s.clock := congrArg (fun x => x.2.2.1) h.1

theorem State.clearLinkDown_sent {s : State} {p : Port} {n : Notice} (k : s.sent p n) (b : BayNo) :
    (s.clearLinkDown b).sent p n := by
  unfold State.clearLinkDown
  split
  · exact k
  · exact State.inner_sent (s := s.withdrawLinkDown) (State.inner_notify (State.inner_refl _) _ _ _ _) k

@[simp] theorem State.clearLinkDown_bay (s : State) (b c : BayNo) : (s.clearLinkDown b).bay c = s.bay c := by
  unfold State.clearLinkDown
  split <;> rfl

/-! ### Operations that move no exchange -/

/-- The exchange table, the roles, the relock list and the door commands stand. -/
structure State.still (s t : State) : Prop where
  exchanges : t.exchanges = s.exchanges
  roles : ∀ c, (t.bay c).role = (s.bay c).role
  relocks : ∀ c, (t.bay c).relock = (s.bay c).relock
  door : ∀ k : Entry, k.cmd.group = .door → (k ∈ t.bus.waiting ↔ k ∈ s.bus.waiting)

theorem State.still_refl (s : State) : s.still s := ⟨rfl, fun _ => rfl, fun _ => rfl, fun _ _ => Iff.rfl⟩

theorem State.still_trans {s t u : State} (h : s.still t) (k : t.still u) : s.still u :=
  ⟨k.exchanges.trans h.exchanges, fun c => (k.roles c).trans (h.roles c), fun c => (k.relocks c).trans (h.relocks c),
    fun e he => (k.door e he).trans (h.door e he)⟩

theorem State.still_exch {s t : State} (h : s.still t) (x : ExNo) : t.exch x = s.exch x := by
  rw [State.exch, h.exchanges]
  rfl

theorem State.still_aside {s t u : State} (h : s.still t) (k : t.aside u) (e : u.exchanges = t.exchanges) :
    s.still u where
  exchanges := e.trans h.exchanges
  roles c := by rw [State.bay_of_bays k.bays]; exact h.roles c
  relocks c := by rw [State.bay_of_bays k.bays]; exact h.relocks c
  door c hc := by rw [Bus.waiting, k.queue, k.overflow]; exact h.door c hc

theorem State.still_modBay {s t : State} (h : s.still t) (b : BayNo) {f : Bay → Bay}
    (hf : ∀ r, (f r).role = r.role ∧ (f r).relock = r.relock) : s.still (t.modBay b f) where
  exchanges := h.exchanges
  roles c := by
    rw [State.modBay_bay]
    split
    · next e => rw [(hf _).1, h.roles, e]
    · exact h.roles c
  relocks c := by
    rw [State.modBay_bay]
    split
    · next e => rw [(hf _).2, h.relocks, e]
    · exact h.relocks c
  door := h.door

theorem State.still_queueCmd {s t : State} (h : s.still t) (b : BayNo) {c : BusCmd} (hc : c.group ≠ .door) :
    s.still (t.queueCmd b c) where
  exchanges := (t.queueCmd_exchanges b c).trans h.exchanges
  roles n := by rw [State.queueCmd_bay]; exact h.roles n
  relocks n := by rw [State.queueCmd_bay]; exact h.relocks n
  door k hk := by
    rw [State.mem_queueCmd, ← h.door k hk]
    split
    · rfl
    · constructor
      · rintro (⟨m, -⟩ | rfl)
        · exact m
        · exact absurd hk hc
      · exact fun m => .inl ⟨m, fun e => hc (e.2.symm.trans hk)⟩

theorem keptByBay_still (b : BayNo) (s : State) : KeptByBay b s.still where
  aside h k e := State.still_aside h k e
  record hf h := State.still_modBay h b fun r =>
    ⟨congrArg (fun x => x.1) (hf r), congrArg (fun x => x.2.2) (hf r)⟩
  queue hc h := State.still_queueCmd h b hc
  identify {t n} h := ⟨h.exchanges, h.roles, h.relocks, fun k hk => by
    rw [← h.door k hk]
    refine (Bus.mem_place t.bus b (.identify n) k).trans ⟨?_, fun m => .inl ⟨m, fun e => ?_⟩⟩
    · rintro (⟨m, -⟩ | rfl)
      · exact m
      · cases hk
    · rw [hk] at e
      cases e.2⟩
  withdraw {t} h := ⟨h.exchanges, h.roles, h.relocks, fun k hk => by
    rw [← h.door k hk]
    refine (Bus.mem_withdraw t.bus b .identify k).trans ⟨fun m => m.1, fun m => ⟨m, fun e => ?_⟩⟩
    rw [hk] at e
    cases e.2⟩

theorem keptByMatch_still (s : State) : KeptByMatch s.still where
  aside h k e _ := State.still_aside h k e
  claim _ h := ⟨h.exchanges, h.roles, h.relocks, h.door⟩
  close h := ⟨h.exchanges, h.roles, h.relocks, h.door⟩
  matched h := State.still_modBay h _ (by exact fun _ => ⟨rfl, rfl⟩)
  fill {t c} h := (keptByBay_still c s).fillTest h

/-- What moves no exchange: the table, the roles, the relock list, the door commands and the SWAPPING claims stand. -/
structure State.quiet (s t : State) : Prop where
  still : s.still t
  swaps : s.swapKept t

theorem State.quiet_refl (s : State) : s.quiet s := ⟨s.still_refl, s.swapKept_refl⟩

theorem State.quiet_trans {s t u : State} (h : s.quiet t) (k : t.quiet u) : s.quiet u :=
  ⟨State.still_trans h.still k.still, State.swapKept_trans h.swaps k.swaps⟩

theorem keptByBay_quiet (b : BayNo) (s : State) : KeptByBay b s.quiet where
  aside h k e := ⟨(keptByBay_still b s).aside h.still k e, State.swapKept_of_book h.swaps k.book⟩
  record hf h := ⟨(keptByBay_still b s).record hf h.still, h.swaps⟩
  queue {t c} hc h := ⟨(keptByBay_still b s).queue hc h.still, State.swapKept_of_book h.swaps (t.queueCmd_book b c)⟩
  identify h := ⟨(keptByBay_still b s).identify h.still, h.swaps⟩
  withdraw h := ⟨(keptByBay_still b s).withdraw h.still, h.swaps⟩

theorem State.settle_quiet (s : State) : s.quiet s.settle :=
  ⟨(keptByMatch_still s).settle s.still_refl, s.settle_swapKept⟩

theorem State.unmatch_quiet {s : State} {id : ClaimId} (h : s.notSwapping id) (cause : LossCause) :
    s.quiet (s.unmatch id cause) :=
  ⟨(keptByMatch_still s).unmatch s.still_refl id cause, State.unmatch_swapKept h cause⟩

/-- No fault and no loss of bay `b` moves an exchange: as intake bay it is past its result, as take bay in the take
(R115, R116, R124). -/
def State.holdsFast (s : State) (b : BayNo) : Prop :=
  (∀ x e, (s.bay b).role = .intake x → s.exch x = some e → e.phase ≠ .intakeOpen ∧ e.phase ≠ .intakeCheck)
    ∧ ∀ x e, (s.bay b).role = .take x → s.exch x = some e → e.phase.beforeTake = false

theorem State.holdsFast_of_still {s t : State} {b : BayNo} (h : s.holdsFast b) (k : s.still t) : t.holdsFast b := by
  unfold State.holdsFast
  rw [k.roles b]
  simp only [State.still_exch k]
  exact h

theorem State.holdsFast_of_none {s : State} {b : BayNo} (h : (s.bay b).role = .none) : s.holdsFast b := by
  unfold State.holdsFast
  rw [h]
  exact ⟨nofun, nofun⟩

/-- A loss of the match of a bay that holds its exchange fast, or is no take bay, moves no exchange. -/
theorem State.loseMatch_quiet {s : State} {b : BayNo}
    (h : ∀ x e, (s.bay b).role = .take x → s.exch x = some e → e.phase.beforeTake = false) (cause : LossCause) :
    s.quiet (s.loseMatch b cause) := by
  unfold State.loseMatch
  split
  · exact s.quiet_refl
  · split
    · exact s.quiet_refl
    · next c hc =>
      split
      · unfold State.takeLoss
        split
        · next x hx =>
          split
          · exact s.quiet_refl
          · next e he => rw [h x e hx he]; exact s.quiet_refl
        · exact s.quiet_refl
      · next hs => exact State.unmatch_quiet (State.notSwapping_of hc hs) cause

/-- A fault sends no exchange to RETURN-REJECTED whose intake bay holds fast. -/
theorem State.rejectIntake_fast {s : State} {b : BayNo}
    (h : ∀ x e, (s.bay b).role = .intake x → s.exch x = some e → e.phase ≠ .intakeOpen ∧ e.phase ≠ .intakeCheck) :
    s.rejectIntake b = s := by
  unfold State.rejectIntake
  split
  · next x hx =>
    split
    · rfl
    · next e he =>
      split
      · next hp => exact absurd hp (h x e hx he).1
      · next hp => exact absurd hp (h x e hx he).2
      · rfl
  · rfl

/-! ### Faults (R148, R151) -/

/-- A bay becoming FAULTED, up to the loss of its match: the record, the charge command, the admission. -/
def State.faultBay (s : State) (b : BayNo) (k : FaultCause) : State :=
  let was := s.bay b
  let s := s.edit b (fun r => { r with state := .faulted, cause := some k, admission := none })
  let s := if was.holdsCharged then s.queueCmd b (.chargeStop false) else s
  let s := if was.admission.isSome then s.withdrawIdentify b else s
  if was.admission.isSome && decide (k = .packError) then s.clearPack b else s

/-- A bay becoming FAULTED: its record, then its match, then its exchange, then the notices. -/
theorem State.becomeFaulted_eq (s : State) (b : BayNo) (k : FaultCause) (value : Nat) (ending : Bool) :
    s.becomeFaulted b k value ending =
      let u := (s.faultBay b k).loseMatch b k.loss
      let u := if ending || decide (k = .profile) then u else u.rejectIntake b
      let u := u.notify .bayFault (.bay b) k.code value
      if (s.bay b).admission.isSome && decide (k = .packError) then u.watchResult b else u := rfl

theorem KeptByBay.faultBay {b : BayNo} {P : State → Prop} (K : KeptByBay b P) {t : State} (h : P t) (k : FaultCause) :
    P (t.faultBay b k) := by
  have h1 : P (t.edit b (fun r => { r with state := .faulted, cause := some k, admission := none })) :=
    K.edit (by exact fun _ => rfl) h
  have h2 := kept_ite (c := (t.bay b).holdsCharged = true) (K.queue (c := .chargeStop false) (by decide) h1) h1
  have h3 := kept_ite (c := (t.bay b).admission.isSome = true) (K.withdraw h2) h2
  exact kept_ite (c := ((t.bay b).admission.isSome && decide (k = .packError)) = true) (K.clearPack h3) h3

theorem State.raiseFault_new {s : State} {b : BayNo} (h : (s.bay b).cause = none) (k : FaultCause) (value : Nat)
    (ending : Bool) : s.raiseFault b k value ending = s.becomeFaulted b k value ending := by
  simp only [State.raiseFault, h]

/-- A cause of no higher precedence than the one that stands changes nothing (R148). -/
theorem State.raiseFault_lower {s : State} {b : BayNo} {old : FaultCause} (h : (s.bay b).cause = some old)
    {k : FaultCause} (hp : ¬ k.precedence < old.precedence) (value : Nat) (ending : Bool) :
    s.raiseFault b k value ending = s := by
  simp only [State.raiseFault, h, if_neg hp]

/-- A cause of higher precedence replaces the one that stands (R148). -/
theorem State.raiseFault_higher {s : State} {b : BayNo} {old : FaultCause} (h : (s.bay b).cause = some old)
    {k : FaultCause} (hp : k.precedence < old.precedence) (value : Nat) (ending : Bool) :
    s.raiseFault b k value ending
      = (s.edit b (fun r => { r with cause := some k })).notify .bayFault (.bay b) k.code value := by
  simp only [State.raiseFault, h, if_pos hp]

theorem State.becomeFaulted_quiet {s : State} {b : BayNo} (h : s.holdsFast b) (k : FaultCause) (value : Nat)
    (ending : Bool) : s.quiet (s.becomeFaulted b k value ending) := by
  have K := keptByBay_quiet b s
  have q1 : s.quiet (s.faultBay b k) := K.faultBay s.quiet_refl k
  have f1 := State.holdsFast_of_still h q1.still
  have q2 := State.loseMatch_quiet f1.2 k.loss
  have f2 := State.holdsFast_of_still f1 q2.still
  have q3 := State.quiet_trans q1 q2
  rw [State.becomeFaulted_eq]
  dsimp only
  rw [State.rejectIntake_fast f2.1, ite_self]
  exact kept_ite (P := s.quiet) (K.watchResult (K.notify q3 _ _ _ _)) (K.notify q3 _ _ _ _)

theorem State.raiseFault_quiet {s : State} {b : BayNo} (h : s.holdsFast b) (k : FaultCause) (value : Nat)
    (ending : Bool) : s.quiet (s.raiseFault b k value ending) := by
  have K := keptByBay_quiet b s
  unfold State.raiseFault
  split
  · exact State.becomeFaulted_quiet h k value ending
  · exact kept_ite (P := s.quiet) (K.notify (K.edit (by exact fun _ => rfl) s.quiet_refl) _ _ _ _) s.quiet_refl

theorem State.missPack_quiet {s : State} {b : BayNo} (h : s.holdsFast b) : s.quiet (s.missPack b) := by
  have K := keptByBay_quiet b s
  have q1 : s.quiet (s.modBay b Bay.withoutPack) := K.withoutPack s.quiet_refl
  have q2 := State.quiet_trans q1 (State.raiseFault_quiet (State.holdsFast_of_still h q1.still) .packMissing 0 false)
  exact kept_ite (P := s.quiet) (K.recap q2) q2

theorem State.takeHeat_quiet {s : State} {b : BayNo} (h : s.holdsFast b) (rep : ShortReport) :
    s.quiet (s.takeHeat b rep) := by
  have K := keptByBay_quiet b s
  have q1 := kept_ite (P := s.quiet) (c := (rep.sensed && rep.packFault) = true)
    (State.raiseFault_quiet h .packError 1 false) s.quiet_refl
  have q2 := State.quiet_trans q1
    (State.raiseFault_quiet (State.holdsFast_of_still h q1.still) .hot (clampTemp rep.temp).toNat false)
  exact K.rebandBay (kept_ite (P := s.quiet) (c := (rep.sensed && decide (faultLimit ≤ clampTemp rep.temp)) = true)
    q2 q1)

theorem State.downshift_quiet {s : State} {b : BayNo} (h : s.holdsFast b) (p : Pack) : s.quiet (s.downshift b p) := by
  have K := keptByBay_quiet b s
  unfold State.downshift
  split
  · exact State.raiseFault_quiet h _ _ _
  · exact K.queue nofun (K.recap (K.notify (K.record (by exact fun _ => rfl) s.quiet_refl) _ _ _ _))

theorem State.takeSession_quiet {s : State} {b : BayNo} (h : s.holdsFast b) (x : Session) :
    s.quiet (s.takeSession b x) := by
  have K := keptByBay_quiet b s
  have count : s.quiet (s.countRefusal b) := by
    unfold State.countRefusal
    split
    · exact s.quiet_refl
    · next p _ =>
      have q : s.quiet (s.setRefusals b (p.refusals + 1)) := K.setRefusals s.quiet_refl _
      exact kept_ite (P := s.quiet)
        (State.quiet_trans q (State.downshift_quiet (State.holdsFast_of_still h q.still) p)) q
  unfold State.takeSession
  split
  · split
    · exact count
    · exact K.setRefusals s.quiet_refl 0
    · exact s.quiet_refl
  · exact s.quiet_refl

theorem State.takeDoor_quiet (s : State) (b : BayNo) : s.quiet (s.takeDoor b) := by
  unfold State.takeDoor
  split
  · next h => exact State.raiseFault_quiet (State.holdsFast_of_none h.2) _ _ _
  · exact s.quiet_refl

end Sys2Proof.Machine
end

section
/-! Faults and removals on the bay's own record, and a report without heat. -/

open Sys2Proof Sys2Proof.Machine
namespace Sys2Proof.Machine

/-! ### The record of a bay that becomes FAULTED -/

theorem State.clearPack_bay (s : State) (b : BayNo) :
    ∃ g cap, (s.clearPack b).bay b = { (s.bay b).withoutPack with grant := g, cap := cap } := by
  unfold State.clearPack
  split
  · next h => exact ⟨(s.bay b).grant, (s.bay b).cap, by rw [Bay.withoutPack, h]⟩
  · exact ⟨_, _, by rw [State.recap_bay, if_pos rfl, State.modBay_bay_self]⟩

/-- A record without its pack is the record but for the pack, its band and its ceiling. -/
theorem Bay.withoutPack_eq (r : Bay) :
    ∃ band ceiling, r.withoutPack = { r with pack := none, band := band, ceiling := ceiling } := by
  unfold Bay.withoutPack
  split
  · next h => exact ⟨r.band, r.ceiling, by rw [← h]⟩
  · exact ⟨none, none, rfl⟩

/-- A fault writes the state, the cause and the admission, and cuts the grant of an eligible bay; PACK-ERROR in an
admission takes the pack record too (R151). -/
theorem State.faultBay_bay (s : State) (b : BayNo) (k : FaultCause) :
    ∃ g p band ceiling cap, (s.faultBay b k).bay b = { s.bay b with
        state := .faulted, cause := some k, admission := none, grant := g, pack := p, band := band, ceiling := ceiling, cap := cap }
      ∧ (k ≠ .packError → p = (s.bay b).pack ∧ ceiling = (s.bay b).ceiling ∧ cap = (s.bay b).cap
          ∧ (s.eligible b = true → g = 0))
      ∧ (p = none ∨ p = (s.bay b).pack) := by
  obtain ⟨g, -, hg⟩ := s.edit_bay_self b (fun r => { r with state := .faulted, cause := some k, admission := none })
  have zero : s.eligible b = true → g = 0 := fun h => by
    have z := s.edit_grant_zero b (fun r => { r with state := .faulted, cause := some k, admission := none }) h
      (by simp [Bay.ownEligible])
    rwa [hg] at z
  set e := s.edit b (fun r => { r with state := .faulted, cause := some k, admission := none }) with he
  set q := if (s.bay b).holdsCharged then e.queueCmd b (.chargeStop false) else e with hq
  set w := if (s.bay b).admission.isSome then q.withdrawIdentify b else q with hw
  have wbay : w.bay b = e.bay b := by
    rw [hw, hq]
    split <;> split <;> simp only [State.withdrawIdentify_bay, State.queueCmd_bay]
  have start : s.faultBay b k
      = if (s.bay b).admission.isSome && decide (k = .packError) then w.clearPack b else w := rfl
  rw [start]
  split
  · next h =>
    obtain ⟨g', cap, hc⟩ := w.clearPack_bay b
    obtain ⟨band, ceiling, hn⟩ := (w.bay b).withoutPack_eq
    refine ⟨g', none, band, ceiling, cap, by rw [hc, hn, wbay, hg], fun hk => ?_, .inl rfl⟩
    simp [hk] at h
  · exact ⟨g, _, _, _, _, by rw [wbay, hg], fun _ => ⟨rfl, rfl, rfl, zero⟩, .inr rfl⟩

/-- After its record, a bay becoming FAULTED goes through matching and the exchanges alone. -/
theorem State.becomeFaulted_kept {P : State → Prop} (K : KeptByTrade P) {s : State} {b : BayNo} {k : FaultCause}
    (h : P (s.faultBay b k)) (value : Nat) (ending : Bool) : P (s.becomeFaulted b k value ending) := by
  have h1 := K.loseMatch h b k.loss
  have h2 := kept_ite (P := P) (c := (ending || decide (k = .profile)) = true) h1 (K.rejectIntake h1 b)
  have h3 := K.toMatch.notify h2 .bayFault (.bay b) k.code value
  rw [State.becomeFaulted_eq]
  exact kept_ite (K.watchResult h3 b) h3

theorem State.becomeFaulted_calm (s : State) (b : BayNo) (k : FaultCause) (value : Nat) (ending : Bool) :
    (s.faultBay b k).calmSame (s.becomeFaulted b k value ending) :=
  State.becomeFaulted_kept (keptByTrade_calm _) (State.calmSame_refl _) value ending

/-- The fault of a bay, up to its notice. -/
theorem State.faulted_inner {s t : State} (h : s.inner t) (b : BayNo) (k : FaultCause) (ending : Bool) :
    s.inner (if ending || decide (k = .profile) then t.loseMatch b k.loss
      else (t.loseMatch b k.loss).rejectIntake b) :=
  State.inner_ite (State.inner_loseMatch h b k.loss) (State.inner_rejectIntake (State.inner_loseMatch h b k.loss) b)

theorem State.becomeFaulted_inner (s : State) (b : BayNo) (k : FaultCause) (value : Nat) (ending : Bool) :
    (s.faultBay b k).inner (s.becomeFaulted b k value ending) := by
  have h := State.inner_notify (State.faulted_inner (s.faultBay b k).inner_refl b k ending) .bayFault (.bay b) k.code value
  rw [State.becomeFaulted_eq]
  exact State.inner_ite (State.inner_watchResult h b) h

theorem State.faultBay_inner (s : State) (b : BayNo) (k : FaultCause) : s.inner (s.faultBay b k) := by
  have h1 : s.inner (s.edit b (fun r => { r with state := .faulted, cause := some k, admission := none })) :=
    State.inner_edit s.inner_refl (by exact fun _ => ⟨rfl, rfl⟩)
  have h2 := State.inner_ite (c := (s.bay b).holdsCharged = true) (State.inner_queueCmd h1 b (.chargeStop false)) h1
  have h3 := State.inner_ite (c := (s.bay b).admission.isSome = true) (State.inner_withdrawIdentify h2 b) h2
  exact State.inner_ite (State.inner_clearPack h3 b) h3

/-- BAY-FAULT is sent (R151). -/
theorem State.becomeFaulted_sent (s : State) (b : BayNo) (k : FaultCause) (value : Nat) (ending : Bool) :
    (s.becomeFaulted b k value ending).sent .gateway (s.notice .bayFault (.bay b) k.code value) := by
  have clock := State.inner_clock (State.faulted_inner (s.faultBay_inner b k) b k ending)
  rw [State.becomeFaulted_eq, ← State.notice_of_clock clock]
  have said := State.sent_notify (p := .gateway) (if ending || decide (k = .profile)
    then (s.faultBay b k).loseMatch b k.loss else ((s.faultBay b k).loseMatch b k.loss).rejectIntake b)
    (k := .bayFault) (u := .bay b) (d := k.code) (v := value) rfl
  dsimp only
  split
  · exact State.inner_sent (State.inner_watchResult (State.inner_refl _) b) said
  · exact said

/-- What outlasts matching and the exchanges of a FAULTED bay. -/
theorem State.calmSame.faulted {s t : State} (h : s.calmSame t) {b : BayNo} (hs : (s.bay b).state = .faulted) :
    (t.bay b).state = .faulted ∧ (t.bay b).pack = (s.bay b).pack ∧ (t.bay b).cause = (s.bay b).cause := by
  obtain ⟨pack, cause, -, -, -, -, -, -, state⟩ := Bay.calm_fields (h.1 b)
  refine ⟨(state ?_).trans hs, pack, cause⟩
  simp [Bay.holdsCharged, hs]

/-- A bay that holds no cause, after a fault is raised on it. -/
theorem State.raiseFault_fresh {s : State} {b : BayNo} (h : (s.bay b).cause = none) (k : FaultCause) (value : Nat)
    (ending : Bool) :
    let t := s.raiseFault b k value ending
    (t.bay b).state = .faulted ∧ (t.bay b).cause = some k
      ∧ ((t.bay b).pack = none ∨ (t.bay b).pack = (s.bay b).pack)
      ∧ (k ≠ .packError → (t.bay b).pack = (s.bay b).pack) := by
  obtain ⟨g, p, band, ceiling, cap, hb, hk, hp⟩ := s.faultBay_bay b k
  obtain ⟨state, pack, cause⟩ := (s.becomeFaulted_calm b k value ending).faulted (b := b) (by rw [hb])
  rw [hb] at pack cause
  dsimp only
  rw [State.raiseFault_new h, state, cause, pack]
  exact ⟨rfl, rfl, hp, fun h => (hk h).1⟩

/-- On a bay that holds a cause, a fault writes the cause alone, or nothing (R148). -/
theorem State.raiseFault_held {s : State} {b : BayNo} {old : FaultCause} (h : (s.bay b).cause = some old)
    (k : FaultCause) (value : Nat) (ending : Bool) :
    ∃ g, (s.raiseFault b k value ending).bay b = { s.bay b with
      cause := some (if k.precedence < old.precedence then k else old), grant := g } := by
  by_cases hp : k.precedence < old.precedence
  · obtain ⟨g, -, hg⟩ := s.edit_bay_self b (fun r => { r with cause := some k })
    exact ⟨g, by rw [State.raiseFault_higher h hp, State.notify_bay, hg, if_pos hp]⟩
  · exact ⟨(s.bay b).grant, by rw [State.raiseFault_lower h hp, if_neg hp, ← h]⟩

/-- The cause of a bay after a removal that was not expected (R12, R148). -/
def causeAfterRemoval : Option FaultCause → Option FaultCause
  | some .hot => some .hot
  | some .packError => some .packError
  | _ => some .packMissing

/-- An unexpected removal leaves a FAULTED bay without a record (R12). -/
theorem State.missPack_bay {s : State} {b : BayNo} (h : (s.bay b).cause ≠ none → (s.bay b).state = .faulted) :
    let r := (s.missPack b).bay b
    r.state = .faulted ∧ r.pack = none ∧ r.cause = causeAfterRemoval (s.bay b).cause := by
  set e := s.modBay b Bay.withoutPack with he
  obtain ⟨band, ceiling, hn⟩ := (s.bay b).withoutPack_eq
  have ebay : e.bay b = { s.bay b with pack := none, band := band, ceiling := ceiling } := by
    rw [he, State.modBay_bay_self, hn]
  have raised : ((e.raiseFault b .packMissing 0 false).bay b).state = .faulted
      ∧ ((e.raiseFault b .packMissing 0 false).bay b).pack = none
      ∧ ((e.raiseFault b .packMissing 0 false).bay b).cause = causeAfterRemoval (s.bay b).cause := by
    cases hc : (s.bay b).cause with
    | none =>
      obtain ⟨state, cause, -, pack⟩ := State.raiseFault_fresh (s := e) (b := b) (by rw [ebay, hc]) .packMissing 0 false
      exact ⟨state, (pack (by decide)).trans (by rw [ebay]), cause⟩
    | some old =>
      obtain ⟨g, hg⟩ := State.raiseFault_held (s := e) (b := b) (old := old) (by rw [ebay, hc]) .packMissing 0 false
      rw [hg, ebay]
      refine ⟨h (by rw [hc]; exact nofun), rfl, ?_⟩
      cases old <;> rfl
  have whole : s.missPack b = if (s.bay b).pack.isSome then (e.raiseFault b .packMissing 0 false).recap b
      else e.raiseFault b .packMissing 0 false := rfl
  dsimp only
  rw [whole]
  split
  · rw [State.recap_bay, if_pos rfl]
    exact raised
  · exact raised

/-! ### A report without heat -/

/-- A report that raises neither PACK-ERROR nor HOT (R147, R150). -/
def coolReport (rep : ShortReport) : Prop := rep.sensed = true → rep.packFault = false ∧ rep.temp < 65

theorem coolReport_limit {rep : ShortReport} (h : rep.temp < 65) : ¬ faultLimit ≤ clampTemp rep.temp := by
  unfold faultLimit clampTemp
  omega

theorem State.takeHeat_cool (s : State) {rep : ShortReport} (h : coolReport rep) (b : BayNo) :
    s.takeHeat b rep = s.rebandBay b := by
  unfold State.takeHeat
  cases hs : rep.sensed with
  | false => simp only [Bool.false_and, Bool.false_eq_true, if_false]
  | true =>
    obtain ⟨hf, ht⟩ := h hs
    simp only [hf, Bool.and_false, Bool.false_eq_true, if_false, coolReport_limit ht, decide_false]

theorem State.rebandBay_none {s : State} {b : BayNo} (h : (s.bay b).pack = none) : s.rebandBay b = s := by
  simp only [State.rebandBay, h]

theorem State.takeSession_idle {s : State} {b : BayNo} (h : (s.bay b).state ≠ .charging) (x : Session) :
    s.takeSession b x = s := if_neg h

theorem State.takeDoor_closed {s : State} {b : BayNo} (h : (s.bay b).door ≠ .opened) : s.takeDoor b = s :=
  if_neg fun k => h k.1

theorem State.takeDoor_role {s : State} {b : BayNo} (h : (s.bay b).role ≠ .none) : s.takeDoor b = s :=
  if_neg fun k => h k.2

/-- DOOR-FORCED does not displace a cause of no lower precedence (R148). -/
theorem State.takeDoor_held {s : State} {b : BayNo} {old : FaultCause} (h : (s.bay b).cause = some old)
    (hp : old.precedence ≤ FaultCause.doorForced.precedence) : s.takeDoor b = s := by
  unfold State.takeDoor
  split
  · exact State.raiseFault_lower h (Nat.not_lt.mpr hp) 0 false
  · rfl

/-- A report without heat on a bay without a pack record that is not CHARGING leaves the judging to the door. -/
theorem State.judged_bare {u : State} {b : BayNo} {rep : ShortReport} (hr : coolReport rep) (hp : (u.bay b).pack = none)
    (hs : (u.bay b).state ≠ .charging) (hd : u.takeDoor b = u) (back : Bool) :
    u.judged b rep back = (u.dropWatch b).relockBack b back := by
  rw [State.judged, State.takeHeat_cool u hr, State.rebandBay_none hp, State.takeSession_idle hs,
    State.fillTest_absent hp, hd]

/-! ### The lists of a bay -/

/-- What the watch and the relock list make of a report: those two fields, and LOCK. -/
theorem State.lists_bay (s : State) (b : BayNo) (back : Bool) (c : BayNo) :
    ∃ w l, (((s.dropWatch b).relockBack b back).bay c) = { s.bay c with watch := w, relock := l } := by
  have drop : ∃ w, (s.dropWatch b).bay c = { s.bay c with watch := w } := by
    unfold State.dropWatch
    split
    · rw [State.modBay_bay]
      split
      · next e => exact ⟨none, by rw [e]⟩
      · exact ⟨_, rfl⟩
    · exact ⟨_, rfl⟩
  obtain ⟨w, hw⟩ := drop
  unfold State.relockBack
  split
  · rw [State.queueLock, State.queueCmd_bay, State.modBay_bay]
    split
    · next e => exact ⟨w, true, by rw [e] at hw ⊢; rw [hw]⟩
    · exact ⟨w, _, by rw [hw]⟩
  · exact ⟨w, _, by rw [hw]⟩

theorem State.lists_book (s : State) (b : BayNo) (back : Bool) :
    ((s.dropWatch b).relockBack b back).book = s.book
      ∧ ((s.dropWatch b).relockBack b back).exchanges = s.exchanges := by
  have drop : (s.dropWatch b).book = s.book ∧ (s.dropWatch b).exchanges = s.exchanges :=
    kept_ite (P := fun t => t.book = s.book ∧ t.exchanges = s.exchanges) ⟨rfl, rfl⟩ ⟨rfl, rfl⟩
  refine kept_ite (P := fun t => t.book = s.book ∧ t.exchanges = s.exchanges) ?_ drop
  rw [State.queueLock, State.queueCmd_book, State.queueCmd_exchanges]
  exact drop

/-- A report of a bay without a role moves no exchange. -/
theorem State.exchangeReport_none {s : State} {b : BayNo} (h : (s.bay b).role = .none) (before : Option Exchange)
    (back : Bool) : s.exchangeReport b before back = s := by
  simp only [State.exchangeReport, h, Role.exchange?]

end Sys2Proof.Machine
end

section
/-! A removal that was not expected (R12). -/

open Sys2Proof Sys2Proof.Machine
namespace Sys2Proof.Machine

theorem State.insertPack_held {s : State} {b : BayNo} (h : (s.bay b).state ≠ .vacant) : s.insertPack b = s := by
  unfold State.insertPack Bay.admits
  rw [if_neg]
  simp [h]

/-- The return of a FAULTED bay's link restores nothing (R24, R28). -/
theorem State.restoreLink_faulted {s : State} {b : BayNo} (h : (s.bay b).state = .faulted) : s.restoreLink b = s := by
  simp only [State.restoreLink, h]

/-- After a report has faulted a bay and taken its pack record, the lists alone are left to judge. -/
theorem State.applyReport_bare {s : State} {b : BayNo} {rep : ShortReport} {back : Bool} {u : State}
    (hu : s.packed b rep back = u) (hr : coolReport rep) (hp : (u.bay b).pack = none) (hs : (u.bay b).state ≠ .charging)
    (hd : u.takeDoor b = u) (hrole : (u.bay b).role = .none) :
    s.applyReport b rep back = (u.dropWatch b).relockBack b back := by
  obtain ⟨w, l, hl⟩ := u.lists_bay b back b
  rw [State.applyReport_eq, hu, State.judged_bare hr hp hs hd, State.exchangeReport_none]
  rw [hl]
  exact hrole

/-- A removal from a bay with role NONE that is not VACANT, up to the lists (R12). -/
theorem State.packed_missing {s : State} {b : BayNo} {rep : ShortReport} (hrole : (s.bay b).role = .none)
    (hsensed : (s.bay b).sensed = true) (hrep : rep.sensed = false) (hv : (s.bay b).state ≠ .vacant)
    (hf : (s.bay b).cause ≠ none → (s.bay b).state = .faulted) (back : Bool) :
    let u := s.packed b rep back
    (u.bay b).state = .faulted ∧ (u.bay b).pack = none ∧ (u.bay b).role = .none
      ∧ (u.bay b).cause = causeAfterRemoval (s.bay b).cause := by
  obtain ⟨g, -, hg, -⟩ := s.takeFields_bay b rep
  set f := s.takeFields b rep with hfields
  have frole : (f.bay b).role = .none := by rw [hg]; exact hrole
  have fstate : (f.bay b).state = (s.bay b).state := by rw [hg]; rfl
  have fcause : (f.bay b).cause = (s.bay b).cause := by rw [hg]; rfl
  have removed : s.removed b rep = f.missPack b := by
    have lost : f.removePack b = f.missPack b := by
      simp only [State.removePack, frole, fstate, if_neg hv]
    simp only [State.removed, hsensed, hrep, Bool.not_false, Bool.true_and, if_true, hrole, ← hfields, lost]
    rfl
  obtain ⟨state, pack, cause⟩ := State.missPack_bay (s := f) (b := b) (by rw [fstate, fcause]; exact hf)
  have role : ((f.missPack b).bay b).role = .none :=
    ((State.missPack_quiet (State.holdsFast_of_none frole)).still.roles b).trans frole
  have whole : s.packed b rep back = f.missPack b := by
    have still : s.moved b rep = false := by simp [State.moved, hrep]
    rw [State.packed, still, removed, State.insertPack_held (by rw [state]; exact nofun),
      State.restoreLink_faulted state, ite_self]
    rfl
  dsimp only
  rw [whole]
  exact ⟨state, pack, role, cause.trans (by rw [fcause])⟩

/-- Settles O22. -/
theorem unexpectedRemovalFaults : Obligations.UnexpectedRemovalFaults := by
  intro s b rep ans hflight hrole hsensed hnew hold hrep
  have heard := s.heard_bay_self b
  have hv : ((s.heard b).bay b).state ≠ .vacant := by
    rw [heard]
    by_cases hc : (s.bay b).cause = none
    · exact hnew hc
    · exact fun k => nomatch (hold hc).symm.trans k
  obtain ⟨state, pack, role, cause⟩ := State.packed_missing (s := s.heard b) (b := b) (rep := rep)
    (by rw [heard]; exact hrole) (by rw [heard]; exact hsensed) hrep hv (by rw [heard]; exact hold) (s.back b)
  set u := (s.heard b).packed b rep (s.back b) with hu
  have hc : (u.bay b).cause = causeAfterRemoval (s.bay b).cause := by rw [cause, heard]
  have door : u.takeDoor b = u := by
    have held : ∃ old, (u.bay b).cause = some old ∧ old.precedence ≤ FaultCause.doorForced.precedence := by
      rw [hc]
      unfold causeAfterRemoval
      split
      · exact ⟨_, rfl, by decide⟩
      · exact ⟨_, rfl, by decide⟩
      · exact ⟨_, rfl, by decide⟩
    obtain ⟨old, ho, hp⟩ := held
    exact State.takeDoor_held ho hp
  have report := State.applyReport_bare hu.symm (rep := rep) (fun h => by rw [hrep] at h; cases h) pack
    (by rw [state]; exact nofun) door role
  refine ⟨_, exec_bayReply hflight rfl rep ans, ?_⟩
  rw [State.answered_poll, report]
  set v := ((u.dropWatch b).relockBack b (s.back b)).clearLinkDown b with hv
  obtain ⟨w, l, hl⟩ := u.lists_bay b (s.back b) b
  have vbay : v.bay b = { u.bay b with watch := w, relock := l } := by rw [hv, State.clearLinkDown_bay, hl]
  have calm := (keptByTrade_calm v).toMatch.settle v.calmSame_refl
  obtain ⟨tstate, tpack, tcause⟩ := calm.faulted (b := b) (by rw [vbay]; exact state)
  have trole : (v.settle.bay b).role = .none := by rw [v.settle_quiet.still.roles b, vbay]; exact role
  refine ⟨tstate, tpack.trans (by rw [vbay]; exact pack), trole, tcause.trans ?_⟩
  rw [vbay]
  exact hc

end Sys2Proof.Machine
end

section
/-! A report as a whole: its own fields and operations within an arrival; and the admission of an inserted or changed
pack (R7, R36). -/

open Sys2Proof Sys2Proof.Machine
namespace Sys2Proof.Machine

/-! ### What a reply writes, and operations within an arrival -/

/-- One change of a bay record on both sides of the relation. -/
theorem State.inner_modBay_both {s t : State} (h : s.inner t) (b : BayNo) {f : Bay → Bay}
    (hf : ∀ r r', r'.kept = r.kept → (f r').kept = (f r).kept) (hg : ∀ r, (f r).grant = r.grant) :
    (s.modBay b f).inner (t.modBay b f) := by
  obtain ⟨settings, grants, bus, faults, seq, bays, keys, ports⟩ := h
  refine ⟨settings, grants, bus, faults, seq, fun c => ?_, keys, ports⟩
  rw [State.modBay_bay, State.modBay_bay]
  split
  · rw [hg, hg]
    exact ⟨hf _ _ (bays b).1, (bays b).2⟩
  · exact bays c

/-- A bay record that has answered (R138). -/
def Bay.answered (r : Bay) : Bay := { r with misses := 0, link := .reachable }

theorem State.modBay_modBay (s : State) (b : BayNo) (f g : Bay → Bay) :
    (s.modBay b f).modBay b g = s.modBay b (fun r => g (f r)) := by
  have same : ((s.modBay b f).modBay b g).bays = (s.modBay b (fun r => g (f r))).bays := by
    simp only [State.modBay, State.setBay, State.bay, Vector.get_eq_getElem, Vector.set_set, Vector.getElem_set_self]
  show ({ s with bays := ((s.modBay b f).modBay b g).bays } : State) = { s with bays := (s.modBay b (fun r => g (f r))).bays }
  rw [same]

theorem State.heard_inner (s : State) (b : BayNo) : (s.modBay b Bay.answered).inner (s.heard b) := by
  unfold State.heard State.answerLink
  dsimp only
  split
  · next h =>
    have reach : (s.bay b).link = .reachable := by
      rwa [State.modBay_bay_self, State.modBus_bay] at h
    have e : s.modBay b Bay.answered = s.modBay b (fun r => { r with misses := 0 }) := by
      have same : (s.bay b).answered = { s.bay b with misses := 0 } := by rw [Bay.answered, ← reach]
      rw [State.modBay, same]
      rfl
    rw [e]
    exact State.inner_modBay_both (State.inner_land (State.inner_refl s)) b
      (fun _ _ k => by simp only [Bay.kept, Bay.reported, Prod.mk.injEq] at k ⊢; simp [k]) fun _ => rfl
  · refine State.inner_trans ?_ (State.changeLink_inner _ b .reachable)
    rw [State.modBay_modBay]
    exact State.inner_modBay_both (State.inner_land (State.inner_refl s)) b
      (fun _ _ k => by simp only [Bay.kept, Bay.reported, Bay.answered, Prod.mk.injEq] at k ⊢; simp [k]) fun _ => rfl

/-- An accepted report: its fields, and operations within an arrival. -/
theorem State.heard_report_inner (s : State) (b : BayNo) (rep : ShortReport) :
    (s.modBay b (fun r => r.answered.report rep)).inner ((s.heard b).applyReport b rep (s.back b)) := by
  refine State.inner_trans ?_ ((s.heard b).applyReport_inner b rep (s.back b))
  rw [← s.modBay_modBay b Bay.answered (fun r => r.report rep)]
  exact State.inner_modBay_both (s.heard_inner b) b
    (fun _ _ k => by simp only [Bay.kept, Bay.reported, Bay.report, Prod.mk.injEq] at k ⊢; simp [k]) fun _ => rfl

theorem State.heard_clock (s : State) (b : BayNo) : (s.heard b).clock = s.clock :=
  (State.inner_clock (s.heard_inner b)).trans rfl

/-- An eligible bay that answers is eligible still. -/
theorem State.heard_eligible {s : State} {b : BayNo} (h : s.eligible b = true) : (s.heard b).eligible b = true := by
  have reach : (s.bay b).link = .reachable := by
    simp only [State.eligible, Bay.ownEligible, Bool.and_eq_true, decide_eq_true_eq] at h
    exact h.1.1.1.1.1.2
  have e : s.heard b = (s.modBus Bus.land).modBay b (fun r => { r with misses := 0 }) := by
    unfold State.heard State.answerLink
    dsimp only
    rw [State.modBay_bay_self, State.modBus_bay]
    exact if_pos reach
  rw [e]
  simp only [State.eligible, State.modBay_bay_self, State.modBus_bay]
  exact h

/-! ### The count of admissions -/

theorem State.edit_admissions (s : State) (b : BayNo) (f : Bay → Bay) : (s.edit b f).admissions = s.admissions :=
  (s.edit_same b f).2.2.2.2.2.1

theorem State.heard_admissions (s : State) (b : BayNo) : (s.heard b).admissions = s.admissions := by
  unfold State.heard State.answerLink
  dsimp only
  split
  · rfl
  · rw [State.changeLink, State.notify_admissions, State.edit_admissions]
    rfl

theorem State.takeFields_admissions (s : State) (b : BayNo) (rep : ShortReport) :
    (s.takeFields b rep).admissions = s.admissions := by
  have soc : ∀ t : State, ∀ p, (t.socChanged b p).admissions = t.admissions := fun t p => by
    unfold State.socChanged
    dsimp only
    split
    · rfl
    · split <;> split <;> rfl
  unfold State.takeFields
  dsimp only
  split
  · exact s.edit_admissions b _
  · split
    · exact (soc _ _).trans (s.edit_admissions b _)
    · exact s.edit_admissions b _

theorem State.clearPack_admissions (s : State) (b : BayNo) : (s.clearPack b).admissions = s.admissions := by
  unfold State.clearPack State.recap
  split
  · rfl
  · dsimp only
    split <;> rfl

/-! ### The end of a report on a bay without a record -/

/-- Once a report has left its bay CLOSED and cool without a pack record, matching and the exchanges alone follow. -/
theorem State.report_trade {P : State → Prop} (K : KeptByTrade P) {s u : State} {b : BayNo} {rep : ShortReport}
    {back : Bool} (hu : s.packed b rep back = u) (hr : coolReport rep) (hp : (u.bay b).pack = none)
    (hs : (u.bay b).state ≠ .charging) (hd : (u.bay b).door = .closed) (h : P u) :
    P ((s.applyReport b rep back).clearLinkDown b).settle := by
  rw [State.applyReport_eq, hu, State.judged_bare hr hp hs (State.takeDoor_closed (by rw [hd]; exact nofun))]
  exact K.toMatch.settle (K.clearLinkDown (K.exchangeReport (K.relockBack (K.dropWatch h b) b back) b _ _) b)

/-- The notice of a claim that loses its bay is sent (R70). -/
theorem State.unmatch_sent {s : State} {id : ClaimId} {c : Claim} {b : BayNo} (hc : s.claim? id = some c)
    (hb : c.takeBay = some b) (cause : LossCause) :
    (s.unmatch id cause).sent .gateway (s.notice .claimUnmatched (.claim id) cause.code (bayNumber b)) := by
  simp only [State.unmatch, hc, hb]
  set u := ((s.modClaim id (fun c => { c with takeBay := none })).modBay b (fun r => { r with matched := none })).fillTest
    b with hu
  set v := u.modClaim id (fun c => if c.state = .swapping then c else { c with state := .waiting, projected := none })
  have unbound : s.inner (s.modClaim id (fun c => { c with takeBay := none })) :=
    State.inner_modClaim (State.inner_refl s) (by exact fun _ => rfl)
  have freed := State.inner_modBay' unbound (b := b) (f := fun r => { r with matched := none })
    (by exact fun _ => ⟨rfl, rfl⟩)
  have clock : v.clock = s.clock := (u.modClaim_clock _ _).trans (State.inner_clock (State.inner_fillTest freed b))
  rw [← State.notice_of_clock clock]
  exact v.sent_notify rfl

/-! ### Fields, admission and re-admission -/

/-- A report without a removal: the fields, then the insertion. -/
theorem State.packed_present {s : State} {b : BayNo} {rep : ShortReport} (hrep : rep.sensed = true) (back : Bool) :
    s.packed b rep back =
      if s.moved b rep then ((s.takeFields b rep).insertPack b).readmit b
      else if back then ((s.takeFields b rep).insertPack b).restoreLink b else (s.takeFields b rep).insertPack b := by
  have kept : s.removed b rep = s.takeFields b rep := by
    rw [State.removed, hrep]
    simp only [Bool.not_true, Bool.and_false, Bool.false_eq_true, if_false]
  rw [State.packed, kept]

theorem State.moved_iff {s : State} {b : BayNo} {rep : ShortReport} (hrep : rep.sensed = true) :
    s.moved b rep = true ↔ (s.bay b).state ≠ .vacant ∧ (rep.count ≠ (s.bay b).count ∨ rep.restart = true) := by
  simp [State.moved, hrep]

/-- The return of the link leaves an admission that is not held (R24). -/
theorem State.restoreLink_unheld {s : State} {b : BayNo} {a : Admission} (h : (s.bay b).state = .admitting)
    (ha : (s.bay b).admission = some a) (hh : a.held = false) : s.restoreLink b = s := by
  simp [State.restoreLink, h, ha, hh]

/-- A bay's record after an answered poll's fields. -/
theorem State.heard_fields (s : State) (b : BayNo) (rep : ShortReport) :
    ∃ g ≤ (s.bay b).grant, ((s.heard b).takeFields b rep).bay b = { (s.bay b).answered.report rep with grant := g }
      ∧ (s.eligible b = true → g = 0 ∨ ((s.heard b).takeFields b rep).eligible b = true) := by
  obtain ⟨g, hle, hg, he⟩ := (s.heard b).takeFields_bay b rep
  rw [s.heard_bay_self] at hle hg
  exact ⟨g, hle, hg, fun h => he (State.heard_eligible h)⟩

/-- A pack admitted anew: what O23 says of the bay (R7, R22). -/
def State.admittedAnew (s : State) (b : BayNo) (t : State) : Prop :=
  (t.bay b).state = .admitting ∧ (t.bay b).pack = none ∧ (t.bay b).ceiling = none
    ∧ (t.bay b).inForce = (s.bay b).staged ∧ t.admissions = s.admissions + 1
    ∧ (t.bay b).admission = some { cause := .insertion, attempts := 1, held := false, number := s.admissions + 1 }
    ∧ t.queued b (.identify (s.admissions + 1))

/-- An admission started with the report's fields. -/
theorem State.heard_admission (s : State) (b : BayNo) (rep : ShortReport) :
    let w := ((s.heard b).takeFields b rep).startAdmission b .insertion
    s.admittedAnew b w ∧ (w.bay b).door = rep.door ∧ (w.bay b).role = (s.bay b).role
      ∧ (w.bay b).matched = (s.bay b).matched ∧ w.book = ((s.heard b).takeFields b rep).book
      ∧ (s.eligible b = true ∨ (s.bay b).pack.isSome = true → (w.bay b).grant = 0) := by
  obtain ⟨g, -, hg, hz⟩ := s.heard_fields b rep
  set f := (s.heard b).takeFields b rep with hf
  have fadm : f.admissions = s.admissions := ((s.heard b).takeFields_admissions b rep).trans (s.heard_admissions b)
  obtain ⟨⟨g', cap, hb, hz'⟩, hq, hn⟩ := State.startAdmission_insertion (s := f) (b := b) (by rw [hg]; exact nofun)
  have book : (f.startAdmission b .insertion).book = f.book := by
    have K : KeptByBay b (fun t => t.book = f.book) :=
      ⟨fun h k _ => k.book.trans h, fun _ h => h, fun {t c} _ h => (t.queueCmd_book b c).trans h, fun h => h, fun h => h⟩
    exact K.startAdmission rfl _
  rw [fadm] at hb hq hn
  have grant : s.eligible b = true ∨ (s.bay b).pack.isSome = true → g' = 0 := by
    rintro (h | h)
    · rcases hz h with e | e
      · by_cases he : f.eligible b = true
        · exact hz' (.inl he)
        · have keep := (State.inner_startAdmission (State.inner_refl f) b .insertion)
          have le := (State.inner_bay keep b).2.2.2.2.2.2
          rw [hb, hg] at le
          exact Nat.le_zero.mp (e ▸ le)
      · exact hz' (.inl e)
    · refine hz' (.inr ?_)
      rw [hg]
      simpa [Bay.report, Bay.answered] using h
  dsimp only
  rw [State.admittedAnew, hb, hg]
  exact ⟨⟨rfl, rfl, rfl, rfl, hn, rfl, hq⟩, rfl, rfl, rfl, book, grant⟩

/-- An admission anew outlasts matching and the exchanges. -/
theorem State.admittedAnew_calm {s w t : State} {b : BayNo} (h : s.admittedAnew b w) (k : w.calmSame t)
    (hq : t.queued b (.identify (s.admissions + 1))) : s.admittedAnew b t := by
  obtain ⟨state, pack, ceiling, inForce, adm, admission, -⟩ := h
  obtain ⟨kpack, -, kadm, kceil, kforce, -, -, -, kstate⟩ := Bay.calm_fields (k.1 b)
  exact ⟨(kstate (by simp [Bay.holdsCharged, state])).trans state, kpack.trans pack, kceil.trans ceiling,
    kforce.trans inForce, k.2.trans adm, kadm.trans admission, hq⟩

end Sys2Proof.Machine
end

section
/-! A pack inserted or changed (R7, R22, R36). -/

open Sys2Proof Sys2Proof.Machine
namespace Sys2Proof.Machine

/-- Operations within an arrival leave what a bay has reported of its door, latch, pack and link. -/
theorem State.inner_reads {s t : State} (h : s.inner t) (b : BayNo) :
    (t.bay b).door = (s.bay b).door ∧ (t.bay b).latch = (s.bay b).latch ∧ (t.bay b).sensed = (s.bay b).sensed
      ∧ (t.bay b).link = (s.bay b).link := by
  have k := (State.inner_bay h b).1
  simp only [Bay.reported, Prod.mk.injEq] at k
  exact ⟨k.1, k.2.1, k.2.2.1, k.2.2.2.2.2.2.1⟩

/-- The state after a poll's accepted reply. -/
def State.polled (s : State) (b : BayNo) (rep : ShortReport) : State :=
  (((s.heard b).applyReport b rep (s.back b)).clearLinkDown b).settle

theorem exec_poll {s : State} {b : BayNo} (hf : s.bus.flight = some (.poll b)) (rep : ShortReport) (ans : Answer) :
    exec (.bayReply true (BitVec.ofNat 8 (bayNumber b)) rep ans) s = .next (s.polled b rep) :=
  exec_bayReply hf rfl rep ans

/-- A CLOSED, cool report that senses a pack (R7). -/
def pluggedReport (rep : ShortReport) : Prop :=
  rep.sensed = true ∧ rep.door = .closed ∧ rep.packFault = false ∧ rep.temp < 65

theorem pluggedReport_cool {rep : ShortReport} (h : pluggedReport rep) : coolReport rep := fun _ => h.2.2

/-- A pack reported in a VACANT bay is admitted (R7). -/
theorem State.packed_inserted {s : State} {b : BayNo} {rep : ShortReport} (hr : pluggedReport rep)
    (hs : (s.bay b).state = .vacant) (back : Bool) :
    (s.heard b).packed b rep back = ((s.heard b).takeFields b rep).startAdmission b .insertion := by
  obtain ⟨hsensed, hdoor, -, -⟩ := hr
  obtain ⟨g, -, hg, -⟩ := s.heard_fields b rep
  obtain ⟨⟨state, -, -, -, -, admission, -⟩, -⟩ := s.heard_admission b rep
  have enters : (((s.heard b).takeFields b rep).bay b).admits = true := by
    rw [hg]
    simp only [Bay.admits, Bay.report, Bay.answered, hs, hsensed, hdoor]
    cases (s.bay b).role <;> rfl
  have still : (s.heard b).moved b rep = false := Bool.eq_false_iff.mpr fun h =>
    ((State.moved_iff hsensed).mp h).1 (by rw [s.heard_bay_self]; exact hs)
  have insert : ((s.heard b).takeFields b rep).insertPack b = ((s.heard b).takeFields b rep).startAdmission b .insertion :=
    if_pos enters
  rw [State.packed_present hsensed, still, insert, State.restoreLink_unheld state admission rfl, ite_self]
  rfl

/-- A pack that may have changed: the bay is admitted anew, or, FAULTED, loses its record; then its match (R36). -/
theorem State.packed_moved {s : State} {b : BayNo} {rep : ShortReport} (hr : rep.sensed = true)
    (hs : (s.bay b).state ≠ .vacant) (hm : rep.count ≠ (s.bay b).count ∨ rep.restart = true) (back : Bool) :
    (s.heard b).packed b rep back = ((s.heard b).takeFields b rep).readmit b := by
  obtain ⟨g, -, hg, -⟩ := s.heard_fields b rep
  have moved : (s.heard b).moved b rep = true := (State.moved_iff hr).mpr (by rw [s.heard_bay_self]; exact ⟨hs, hm⟩)
  rw [State.packed_present hr, moved, State.insertPack_held (by rw [hg]; exact hs)]
  rfl

theorem State.readmit_eq {s : State} {b : BayNo} (hv : (s.bay b).state ≠ .vacant) (hf : (s.bay b).state ≠ .faulted) :
    s.readmit b = (s.startAdmission b .insertion).dropMatchChanged b := by
  unfold State.readmit
  split
  · next h => exact absurd h hv
  · next h => exact absurd h hf
  · rfl

theorem State.readmit_faulted {s : State} {b : BayNo} (h : (s.bay b).state = .faulted) :
    s.readmit b = (s.clearPack b).dropMatchChanged b := by
  simp only [State.readmit, h]

/-- A bay's end of a report that admits its pack: the rest of the report and of the arrival keeps the admission. -/
theorem State.polled_admitted {s u : State} {b : BayNo} {rep : ShortReport} (hr : pluggedReport rep)
    (hu : (s.heard b).packed b rep (s.back b) = u) (ha : s.admittedAnew b u) (hd : (u.bay b).door = .closed) :
    s.admittedAnew b (s.polled b rep) ∧ u.calmSame (s.polled b rep) := by
  obtain ⟨state, pack, -, -, -, -, waits⟩ := id ha
  have idle : (u.bay b).state ≠ .charging := by rw [state]; exact nofun
  have calm := State.report_trade (keptByTrade_calm u) hu (pluggedReport_cool hr) pack idle hd u.calmSame_refl
  have q := State.report_trade (keptByTrade_identify b (s.admissions + 1)) hu (pluggedReport_cool hr) pack idle hd waits
  exact ⟨State.admittedAnew_calm ha calm q, calm⟩

theorem State.dropMatchChanged_none {s : State} {b : BayNo} (h : (s.bay b).role = .none) :
    s.dropMatchChanged b = s.loseMatch b .packChanged := by
  simp only [State.dropMatchChanged, h]

theorem State.inner_applied {s u : State} {b : BayNo} {rep : ShortReport} {back : Bool}
    (hu : s.packed b rep back = u) : u.inner (s.applyReport b rep back) := by
  rw [State.applyReport_eq, hu]
  exact State.inner_exchangeReport (State.inner_relockBack (State.inner_dropWatch (State.inner_takeDoor
    (State.inner_fillTest (State.inner_takeSession (State.inner_takeHeat u.inner_refl b rep) b _) b) b) b) b back) b _ _

/-- A notice sent by the re-admission stays sent to the arrival's end. -/
theorem State.polled_sent {s u : State} {b : BayNo} {rep : ShortReport}
    (hu : (s.heard b).packed b rep (s.back b) = u) {p : Port} {n : Notice} (h : u.sent p n) :
    (s.polled b rep).sent p n :=
  State.inner_sent (State.inner_settle (State.inner_refl _))
    (State.clearLinkDown_sent (State.inner_sent (State.inner_applied hu) h) b)

theorem State.polled_grant {s u : State} {b : BayNo} {rep : ShortReport}
    (hu : (s.heard b).packed b rep (s.back b) = u) : ((s.polled b rep).bay b).grant ≤ (u.bay b).grant := by
  have h1 := (State.inner_bay (State.inner_applied hu) b).2.2.2.2.2.2
  have h2 := (State.inner_bay (State.inner_settle
    (((s.heard b).applyReport b rep (s.back b)).clearLinkDown b).inner_refl) b).2.2.2.2.2.2
  rw [State.clearLinkDown_bay] at h2
  exact h2.trans h1

theorem State.clearLinkDown_book (s : State) (b : BayNo) : (s.clearLinkDown b).book = s.book := by
  unfold State.clearLinkDown
  split <;> rfl

/-- The claims, the matches and the roles of a report without a record or a role, up to the arrival's end. -/
theorem State.polled_passesBy {s u : State} {b : BayNo} {rep : ShortReport} (hr : pluggedReport rep)
    (hu : (s.heard b).packed b rep (s.back b) = u) (hp : (u.bay b).pack = none) (hs : (u.bay b).state = .admitting)
    (hd : (u.bay b).door = .closed) (hrole : (u.bay b).role = .none) :
    ((s.polled b rep).bay b).matched = (u.bay b).matched ∧ ∀ id, u.notOn id b → (s.polled b rep).notOn id b := by
  have closed : u.takeDoor b = u := State.takeDoor_closed (by rw [hd]; exact nofun)
  have idle : (u.bay b).state ≠ .charging := by rw [hs]; exact nofun
  set v := ((u.dropWatch b).relockBack b (s.back b)).clearLinkDown b with hv
  have report : s.polled b rep = v.settle := by
    rw [State.polled, State.applyReport_bare hu (pluggedReport_cool hr) hp idle closed hrole]
  obtain ⟨w, l, hl⟩ := u.lists_bay b (s.back b) b
  have vbay : v.bay b = { u.bay b with watch := w, relock := l } := by rw [hv, State.clearLinkDown_bay, hl]
  have vbook : v.book = u.book := (State.clearLinkDown_book _ b).trans (u.lists_book b (s.back b)).1
  obtain ⟨bay, claims⟩ := v.settle_passesBy (b := b)
    (Bay.unfit_of_idle (by rw [vbay]; simp [Bay.holdsCharged, hs]))
  rw [report]
  exact ⟨by rw [bay, vbay], fun id h => claims id (State.notOn_of_book h vbook)⟩

/-- Re-admission of a pack that may have changed (R36). -/
theorem State.polled_readmitted {s : State} {b : BayNo} {rep : ShortReport} (hr : pluggedReport rep)
    (hv : (s.bay b).state ≠ .vacant) (hf : (s.bay b).state ≠ .faulted)
    (hm : rep.count ≠ (s.bay b).count ∨ rep.restart = true) :
    let t := s.polled b rep
    s.admittedAnew b t ∧ (s.eligible b = true ∨ (s.bay b).pack.isSome = true → (t.bay b).grant = 0)
      ∧ ∀ c, (s.bay b).matched = some c.id → s.claim? c.id = some c → c.takeBay = some b →
          c.state ≠ .swapping → (s.bay b).role = .none →
          (t.bay b).matched = none ∧ t.notOn c.id b
          ∧ t.sent .gateway (s.notice .claimUnmatched (.claim c.id) 5 (bayNumber b)) := by
  obtain ⟨g, -, hg, -⟩ := s.heard_fields b rep
  obtain ⟨anew, wdoor, wrole, wmatched, wbook, wgrant⟩ := s.heard_admission b rep
  set f := (s.heard b).takeFields b rep with hfields
  set w := f.startAdmission b .insertion with hw
  have hu : (s.heard b).packed b rep (s.back b) = w.dropMatchChanged b := by
    rw [State.packed_moved hr.1 hv hm, State.readmit_eq (by rw [hg]; exact hv) (by rw [hg]; exact hf)]
  have inner := State.inner_dropMatchChanged w.inner_refl b
  have calm := (keptByTrade_calm w).dropMatchChanged w.calmSame_refl b
  have waits := (keptByTrade_identify b (s.admissions + 1)).dropMatchChanged anew.2.2.2.2.2.2 b
  have kept := State.admittedAnew_calm anew calm waits
  have door : ((w.dropMatchChanged b).bay b).door = .closed :=
    ((State.inner_reads inner b).1.trans wdoor).trans hr.2.1
  refine ⟨(State.polled_admitted hr hu kept door).1, fun h => ?_, fun c hmat hc hb hs hrole => ?_⟩
  · have le := (State.polled_grant hu).trans (State.inner_bay inner b).2.2.2.2.2.2
    rw [wgrant h] at le
    exact Nat.le_zero.mp le
  · have book : w.book = s.book := wbook.trans (by
      rw [hfields]
      have K : KeptByBay b (fun t => t.book = s.book) := ⟨fun h k _ => k.book.trans h, fun _ h => h,
        fun {t c} _ h => (t.queueCmd_book b c).trans h, fun h => h, fun h => h⟩
      exact K.takeFields (State.heard_kept K rfl))
    have hc' : w.claim? c.id = some c := (State.claim?_of_book book c.id).trans hc
    have lost : w.dropMatchChanged b = w.unmatch c.id .packChanged := by
      rw [State.dropMatchChanged_none (wrole.trans hrole),
        State.loseMatch_unmatch (wmatched.trans hmat) hc' hs]
    obtain ⟨state, pack, -⟩ := kept
    rw [lost] at hu door state pack
    have urole : ((w.unmatch c.id .packChanged).bay b).role = .none :=
      (((keptByMatch_still w).unmatch w.still_refl c.id _).roles b).trans (wrole.trans hrole)
    obtain ⟨matched, claims⟩ := State.polled_passesBy hr hu pack state door urole
    refine ⟨matched.trans (State.unmatch_bay_matched hc' hb _), claims _ (State.unmatch_notOn hc' hb _ b),
      State.polled_sent hu ?_⟩
    have clock : w.clock = s.clock := (State.inner_clock (State.inner_startAdmission
      ((s.heard b).takeFields_inner b rep) b .insertion)).trans (s.heard_clock b)
    rw [← State.notice_of_clock clock]
    exact State.unmatch_sent hc' hb _

/-- A FAULTED bay whose pack may have changed keeps its cause and loses its record (R36). -/
theorem State.polled_faulted {s : State} {b : BayNo} {rep : ShortReport} (hr : pluggedReport rep)
    (hs : (s.bay b).state = .faulted) (hm : rep.count ≠ (s.bay b).count ∨ rep.restart = true) :
    let t := s.polled b rep
    (t.bay b).state = .faulted ∧ (t.bay b).cause = (s.bay b).cause ∧ (t.bay b).pack = none
      ∧ t.admissions = s.admissions := by
  obtain ⟨g, -, hg, -⟩ := s.heard_fields b rep
  set f := (s.heard b).takeFields b rep with hf
  have fstate : (f.bay b).state = .faulted := by rw [hg]; exact hs
  obtain ⟨g', cap, hc⟩ := f.clearPack_bay b
  obtain ⟨band, ceiling, hn⟩ := (f.bay b).withoutPack_eq
  have cleared : (f.clearPack b).bay b = { (f.bay b) with
      pack := none, band := band, ceiling := ceiling, grant := g', cap := cap } := by rw [hc, hn]
  have hu : (s.heard b).packed b rep (s.back b) = (f.clearPack b).dropMatchChanged b := by
    rw [State.packed_moved hr.1 (by rw [hs]; exact nofun) hm, State.readmit_faulted fstate]
  have inner := State.inner_dropMatchChanged (f.clearPack b).inner_refl b
  have calm := (keptByTrade_calm (f.clearPack b)).dropMatchChanged (State.calmSame_refl _) b
  obtain ⟨state, pack, cause⟩ := calm.faulted (b := b) (by rw [cleared]; exact fstate)
  rw [cleared] at pack cause
  have door : (((f.clearPack b).dropMatchChanged b).bay b).door = .closed := by
    rw [(State.inner_reads inner b).1, cleared, hg]
    exact hr.2.1
  have rest := State.report_trade (keptByTrade_calm ((f.clearPack b).dropMatchChanged b)) hu (pluggedReport_cool hr)
    pack (by rw [state]; exact nofun) door (State.calmSame_refl _)
  obtain ⟨tstate, tpack, tcause⟩ := rest.faulted state
  refine ⟨tstate, tcause.trans (cause.trans (by rw [hg]; rfl)), tpack.trans pack, rest.2.trans (calm.2.trans ?_)⟩
  rw [State.clearPack_admissions, hf, State.takeFields_admissions, State.heard_admissions]

/-- Settles O23. -/
theorem insertionAdmits : Obligations.InsertionAdmits := by
  intro s b rep ans hflight hsensed hdoor hfault htemp
  have hr : pluggedReport rep := ⟨hsensed, hdoor, hfault, htemp⟩
  refine ⟨_, exec_poll hflight rep ans, fun hs _ => ?vacant, fun hs hm => ?changed, fun k hs hk hm => ?faulted⟩
  case vacant =>
    obtain ⟨anew, door, -⟩ := s.heard_admission b rep
    exact (State.polled_admitted hr (State.packed_inserted hr hs _) anew (door.trans hdoor)).1
  case changed =>
    have hv : (s.bay b).state ≠ .vacant := fun e => by rw [e] at hs; revert hs; decide
    have hf : (s.bay b).state ≠ .faulted := fun e => by rw [e] at hs; revert hs; decide
    obtain ⟨anew, grant, claims⟩ := State.polled_readmitted hr hv hf hm
    refine ⟨anew, grant, fun c hmat hc hb hst hrole => claims c hmat hc hb (fun e => ?_) hrole⟩
    rw [e] at hst
    rcases hst with h | h <;> cases h
  case faulted =>
    obtain ⟨state, cause, pack, adm⟩ := State.polled_faulted hr hs hm
    exact ⟨state, cause.trans hk, pack, adm⟩

end Sys2Proof.Machine
end

section
/-! The session state of a report, refusals and the downshift (R30 to R32). -/

open Sys2Proof Sys2Proof.Machine
namespace Sys2Proof.Machine

/-! ### The next lower profile (R31) -/

theorem profilesDown_find_max {P : Profile → Bool} {j k : Profile} (h : profilesDown.find? P = some j) (hk : P k = true) :
    k.index ≤ j.index := by
  obtain ⟨-, above, below, e, hn⟩ := List.find?_eq_some_iff_append.mp h
  have down : profilesDown.Pairwise (fun a b => b.index < a.index) := by decide
  have mem : k ∈ profilesDown := by cases k <;> decide
  rw [e] at down mem
  rcases List.mem_append.mp mem with m | m
  · exact absurd (hn k m) (by rw [hk]; decide)
  · rcases List.mem_cons.mp m with rfl | m
    · exact Nat.le_refl _
    · exact Nat.le_of_lt (List.rel_of_pairwise_cons (List.pairwise_append.mp down).2.1 m)

theorem Profile.index_inj {j k : Profile} (h : j.index = k.index) : j = k := by
  cases j <;> cases k <;> simp_all [Profile.index]

/-- A profile a pack may be shifted down to: a shared one, lower than the present (R31). -/
def lowerShared (a v : AbilitySet) (health : Health) (now k : Profile) : Prop :=
  k.index < now.index ∧ a.getLsbD k.index = true ∧ v.getLsbD k.index = true ∧ ¬(health = .worn ∧ k = .p3)

theorem lowerShared_iff (a v : AbilitySet) (health : Health) (now k : Profile) :
    (profileShared a v health k && decide (k.index < now.index)) = true ↔ lowerShared a v health now k := by
  simp only [profileShared, AbilitySet.holds, lowerShared, Bool.and_eq_true, decide_eq_true_eq, Bool.not_eq_true',
    Bool.and_eq_false_iff, decide_eq_false_iff_not]
  tauto

/-- The highest of them is the one the pack falls to. -/
theorem lowerProfile_some {a v : AbilitySet} {health : Health} {now k : Profile} (h : lowerShared a v health now k)
    (hmax : ∀ j, lowerShared a v health now j → j.index ≤ k.index) : lowerProfile a v health now = some k := by
  have hk := (lowerShared_iff a v health now k).mpr h
  cases hj : lowerProfile a v health now with
  | none =>
    have none := List.find?_eq_none.mp hj k (by cases k <;> decide)
    exact absurd hk none
  | some j =>
    have low := hmax j ((lowerShared_iff a v health now j).mp (List.find?_some
      (p := fun p => profileShared a v health p && decide (p.index < now.index)) hj))
    exact congrArg some (Profile.index_inj (Nat.le_antisymm low (profilesDown_find_max hj hk)))

theorem lowerProfile_none {a v : AbilitySet} {health : Health} {now : Profile}
    (h : ∀ k, ¬ lowerShared a v health now k) : lowerProfile a v health now = none :=
  List.find?_eq_none.mpr fun k _ hk => h k ((lowerShared_iff a v health now k).mp hk)

/-! ### The end of a report from its fill test on -/

/-- A report's steps from the fill test on (R6). -/
def State.concluded (s : State) (b : BayNo) (before : Option Exchange) (back follow : Bool) : State :=
  (((((s.fillTest b).takeDoor b).dropWatch b).relockBack b back).exchangeReport b before follow).clearLinkDown b

theorem State.concluded_kept {P : State → Prop} (K : KeptByTrade P) {b : BayNo} (hd : ∀ t, P t → P (t.takeDoor b))
    {s : State} (h : P s) (before : Option Exchange) (back follow : Bool) : P (s.concluded b before back follow) :=
  K.clearLinkDown (K.exchangeReport (K.relockBack (K.dropWatch (hd _ (K.fill h)) b) b back) b _ _) b

/-- The door rule, by the record a fault leaves and by a cause it replaces. -/
theorem State.takeDoor_kept {P : State → Prop} (K : KeptByTrade P) {b : BayNo}
    (hb : ∀ t, P t → (t.bay b).cause = none → P (t.faultBay b .doorForced))
    (he : ∀ t, P t → P (t.edit b (fun r => { r with cause := some .doorForced }))) {t : State} (h : P t) :
    P (t.takeDoor b) := by
  refine kept_ite ?_ h
  cases hc : (t.bay b).cause with
  | none =>
    rw [State.raiseFault_new hc]
    exact State.becomeFaulted_kept K (hb t h hc) 0 false
  | some old =>
    by_cases hp : FaultCause.doorForced.precedence < old.precedence
    · rw [State.raiseFault_higher hc hp]
      exact K.toMatch.notify (he t h) _ _ _ _
    · rw [State.raiseFault_lower hc hp]
      exact h

theorem Bay.core_fields {r r' : Bay} (h : r'.core = r.core) : r'.pack = r.pack ∧ r'.ceiling = r.ceiling
    ∧ r'.cap = r.cap ∧ r'.state = r.state ∧ r'.cause = r.cause ∧ r'.link = r.link := by
  have field {α : Type} (f : Bay → α) : f r'.core = f r.core := congrArg f h
  exact ⟨field Bay.pack, field Bay.ceiling, field Bay.cap, field Bay.state, field Bay.cause, field Bay.link⟩

/-- A condition on one bay's record that matching and the exchanges may not change. -/
theorem keptByTrade_record (b : BayNo) {Q : Bay → Prop} (hcore : ∀ r r', r'.core = r.core → Q r → Q r')
    (hfill : ∀ t : State, Q (t.bay b) → Q ((t.fillTest b).bay b)) : KeptByTrade (fun t => Q (t.bay b)) where
  aside {t u} h k _ := by rw [State.bay_of_bays k.bays]; exact h
  claim _ h := h
  close h := h
  record {t c f} hf h := by
    show Q ((t.modBay c f).bay b)
    rw [State.modBay_bay]
    split
    · next e => rw [← e]; exact hcore _ _ (hf _) h
    · exact h
  door {t c k} _ h := by rw [State.queueCmd_bay]; exact h
  fill {t c} h := by
    by_cases e : b = c
    · rw [← e]; exact hfill t h
    · rw [State.fillTest_bay_other _ e]; exact h

/-! ### What outlasts the rest of a report -/

/-- A bay's waiting command outlasts a fill test of another. -/
theorem State.queued_fillTest_other {s : State} {b n : BayNo} {c : BusCmd} (h : s.queued b c) (hn : b ≠ n) :
    (s.fillTest n).queued b c := by
  have edited : ∀ f, (s.edit n f).queued b c := fun f => by
    rw [State.queued, State.edit_bus]
    exact h
  rcases s.fillTest_cases n with e | ⟨_, -, -, -, e⟩ | ⟨_, -, -, -, e⟩ <;> rw [e]
  · exact h
  · exact State.queued_queueCmd (edited _) n _ fun k => hn k.1
  · exact State.queued_queueCmd (edited _) n _ fun k => hn k.1

/-- The pack record with its ceiling and cap. -/
def Bay.charge (r : Bay) : Option Pack × Option Profile × Nat := (r.pack, r.ceiling, r.cap)

theorem Bay.charge_iff (r : Bay) (p : Option Pack) (c : Option Profile) (n : Nat) :
    r.charge = (p, c, n) ↔ r.pack = p ∧ r.ceiling = c ∧ r.cap = n := by
  simp only [Bay.charge, Prod.mk.injEq]

theorem keptByTrade_charge (b : BayNo) (v : Option Pack × Option Profile × Nat) :
    KeptByTrade (fun t => (t.bay b).charge = v) :=
  keptByTrade_record b (Q := fun r => r.charge = v)
    (fun r r' h k => by
      obtain ⟨pack, ceiling, cap, -⟩ := Bay.core_fields h
      rw [Bay.charge, pack, ceiling, cap]
      exact k)
    (fun t k => by
      obtain ⟨pack, -, -, ceiling, -, cap, -⟩ := Bay.calm_fields (t.fillTest_calm b b)
      rw [Bay.charge, pack, ceiling, cap]
      exact k)

theorem State.takeDoor_charge {b : BayNo} {v : Option Pack × Option Profile × Nat} {t : State}
    (h : (t.bay b).charge = v) : ((t.takeDoor b).bay b).charge = v := by
  refine State.takeDoor_kept (keptByTrade_charge b v) (fun t h _ => ?_) (fun t h => ?_) h
  · obtain ⟨g, p, band, ceiling, cap, hb, hk, -⟩ := t.faultBay_bay b .doorForced
    obtain ⟨rfl, rfl, rfl, -⟩ := hk (by decide)
    rw [hb]
    exact h
  · obtain ⟨g, -, hg⟩ := t.edit_bay_self b (fun r => { r with cause := some .doorForced })
    rw [hg]
    exact h

/-- A bay that is not ADMITTING. -/
theorem keptByTrade_unadmitting (b : BayNo) : KeptByTrade (fun t => (t.bay b).state ≠ .admitting) :=
  keptByTrade_record b (Q := fun r => r.state ≠ .admitting)
    (fun r r' h k => by obtain ⟨-, -, -, state, -⟩ := Bay.core_fields h; rw [state]; exact k)
    (fun t k => by
      rcases t.fillTest_cases b with e | ⟨p, -, -, -, e⟩ | ⟨p, -, -, -, e⟩ <;> rw [e]
      · exact k
      · rw [(t.fillMove b .topped (.chargeStop false)).1]; exact nofun
      · rw [(t.fillMove b .charging (.chargeStart p.profile)).1]; exact nofun)

theorem State.takeDoor_unadmitting {b : BayNo} {t : State} (h : (t.bay b).state ≠ .admitting) :
    ((t.takeDoor b).bay b).state ≠ .admitting := by
  refine State.takeDoor_kept (keptByTrade_unadmitting b) (fun t _ _ => ?_) (fun t h => ?_) h
  · obtain ⟨g, p, band, ceiling, cap, hb, -⟩ := t.faultBay_bay b .doorForced
    rw [hb]
    exact nofun
  · obtain ⟨g, -, hg⟩ := t.edit_bay_self b (fun r => { r with cause := some .doorForced })
    rw [hg]
    exact h

/-- A CHARGING bay's waiting command gives the profile of its record. -/
def State.startQueued (t : State) (b : BayNo) (k : Profile) : Prop :=
  (∀ p, (t.bay b).pack = some p → p.profile = k) ∧ (t.bay b).link ≠ .lost
    ∧ ((t.bay b).state = .charging → t.queued b (.chargeStart k))

theorem keptByTrade_startQueued (b : BayNo) (k : Profile) : KeptByTrade (fun t => t.startQueued b k) where
  aside {t u} h a _ := by
    unfold State.startQueued
    rw [State.bay_of_bays a.bays]
    exact ⟨h.1, h.2.1, fun c => State.queued_aside (h.2.2 c) a⟩
  claim _ h := h
  close h := h
  record {t c f} hf h := by
    unfold State.startQueued
    rw [State.modBay_bay]
    split
    · next e =>
      obtain ⟨pack, -, -, state, -, link⟩ := Bay.core_fields (hf (t.bay c))
      rw [pack, state, link, ← e]
      exact h
    · exact h
  door {t c d} hd h := by
    unfold State.startQueued
    rw [State.queueCmd_bay]
    exact ⟨h.1, h.2.1, fun a => State.queued_queueCmd (h.2.2 a) c d fun e => by rw [hd] at e; exact nomatch e.2⟩
  fill {t c} h := by
    obtain ⟨pack, link, queued⟩ := h
    by_cases e : b = c
    · subst e
      obtain ⟨cpack, -, -, -, -, -, clink, -⟩ := Bay.calm_fields (t.fillTest_calm b b)
      unfold State.startQueued
      rw [cpack, clink]
      refine ⟨pack, link, fun a => ?_⟩
      rcases t.fillTest_cases b with e | ⟨p, -, -, -, e⟩ | ⟨p, hp, -, -, e⟩ <;> rw [e] at a ⊢
      · exact queued a
      · rw [(t.fillMove b .topped (.chargeStop false)).1] at a
        cases a
      · rw [← pack p hp]
        exact (t.fillMove b .charging (.chargeStart p.profile)).2 link
    · unfold State.startQueued
      rw [State.fillTest_bay_other _ e]
      exact ⟨pack, link, fun a => State.queued_fillTest_other (queued a) e⟩

theorem State.takeDoor_startQueued {b : BayNo} {k : Profile} {t : State} (h : t.startQueued b k) :
    (t.takeDoor b).startQueued b k := by
  refine State.takeDoor_kept (keptByTrade_startQueued b k) (fun t h _ => ?_) (fun t h => ?_) h
  · obtain ⟨g, p, band, ceiling, cap, hb, hk, -⟩ := t.faultBay_bay b .doorForced
    obtain ⟨rfl, -⟩ := hk (by decide)
    unfold State.startQueued
    rw [hb]
    exact ⟨h.1, h.2.1, nofun⟩
  · obtain ⟨g, -, hg⟩ := t.edit_bay_self b (fun r => { r with cause := some .doorForced })
    unfold State.startQueued
    rw [hg, State.queued, State.edit_bus]
    exact h

/-- A FAULTED bay with a cause and its waiting CHARGE-STOP (R32). -/
def State.stopQueued (t : State) (b : BayNo) : Prop :=
  (t.bay b).state = .faulted ∧ (t.bay b).cause ≠ none ∧ t.queued b (.chargeStop false)

theorem keptByTrade_stopQueued (b : BayNo) : KeptByTrade (fun t => t.stopQueued b) where
  aside {t u} h a _ := by
    unfold State.stopQueued
    rw [State.bay_of_bays a.bays]
    exact ⟨h.1, h.2.1, State.queued_aside h.2.2 a⟩
  claim _ h := h
  close h := h
  record {t c f} hf h := by
    unfold State.stopQueued
    rw [State.modBay_bay]
    split
    · next e =>
      obtain ⟨-, -, -, state, cause, -⟩ := Bay.core_fields (hf (t.bay c))
      rw [state, cause, ← e]
      exact h
    · exact h
  door {t c d} hd h := by
    unfold State.stopQueued
    rw [State.queueCmd_bay]
    exact ⟨h.1, h.2.1, State.queued_queueCmd h.2.2 c d fun e => by rw [hd] at e; exact nomatch e.2⟩
  fill {t c} h := by
    obtain ⟨state, cause, queued⟩ := h
    by_cases e : b = c
    · subst e
      have stay : t.fillTest b = t := State.fillTest_else (fun _ _ k _ => by rw [state] at k; cases k)
        (fun _ _ k _ => by rw [state] at k; cases k)
      rw [stay]
      exact ⟨state, cause, queued⟩
    · unfold State.stopQueued
      rw [State.fillTest_bay_other _ e]
      exact ⟨state, cause, State.queued_fillTest_other queued e⟩

theorem State.takeDoor_stopQueued {b : BayNo} {t : State} (h : t.stopQueued b) : (t.takeDoor b).stopQueued b := by
  refine State.takeDoor_kept (keptByTrade_stopQueued b) (fun t h hc => absurd hc h.2.1) (fun t h => ?_) h
  obtain ⟨g, -, hg⟩ := t.edit_bay_self b (fun r => { r with cause := some .doorForced })
  unfold State.stopQueued
  rw [hg, State.queued, State.edit_bus]
  exact ⟨h.1, nofun, h.2.2⟩

end Sys2Proof.Machine
end

section
/-! An accepted reply (R30 to R32, R131, R138, R140, R141). -/

open Sys2Proof Sys2Proof.Machine
namespace Sys2Proof.Machine

/-! ### Refusals and the downshift -/

/-- The cap follows from the pack record, the modules and the derate table. -/
theorem State.capOf_of {s t : State} {b : BayNo} (hp : (t.bay b).pack = (s.bay b).pack)
    (hm : t.grants.modules = s.grants.modules) (hd : t.derate = s.derate) : t.capOf b = s.capOf b := by
  simp only [State.capOf, State.derate?, hp, hm, hd]

theorem State.capOf_inner {s t : State} (h : s.inner t) {b : BayNo} (hp : (t.bay b).pack = (s.bay b).pack) :
    t.capOf b = s.capOf b :=
  State.capOf_of hp (congrArg (a₁ := t.grants.settings) (a₂ := s.grants.settings) Grants.modules h.2.1)
    (congrArg (fun x => x.2.1) h.1)

theorem State.recap_replan (s : State) (b : BayNo) : (s.recap b).grants.replan = true := by
  unfold State.recap
  dsimp only
  split <;> rfl

theorem grantFloor_le (n : Nat) : grantFloor (floor50 n) ≤ n := by
  unfold grantFloor floor50 minGrant
  split <;> omega

/-- A downshift to a lower profile (R31). -/
theorem State.downshift_some {s : State} {b : BayNo} {p r : Pack} {k : Profile} (hr : (s.bay b).pack = some r)
    (hl : (s.bay b).link ≠ .lost) (hk : lowerProfile p.abilities (s.bay b).inForce p.health p.profile = some k) :
    let t := s.downshift b p
    ((t.bay b).pack = some { r with profile := k, refusals := 0 } ∧ (t.bay b).ceiling = some k
        ∧ (t.bay b).cap = t.capOf b) ∧ (t.bay b).grant ≤ t.capOf b ∧ (t.bay b).state = (s.bay b).state ∧ (t.bay b).link = (s.bay b).link
      ∧ t.queued b (.chargeStart k) ∧ t.grants.replan = true
      ∧ t.sent .gateway (s.notice .downshift (.bay b) (k.index + 1) k.rate) := by
  set m := s.modBay b (fun r => { r with
      pack := r.pack.map (fun p => { p with profile := k, refusals := 0 }), ceiling := some k }) with hm
  set n := m.notify .downshift (.bay b) (profileDetail k) k.rate with hn
  have whole : s.downshift b p = (n.recap b).queueCmd b (.chargeStart k) := by
    simp only [State.downshift, hk]
    rfl
  have nbay : n.bay b = { s.bay b with pack := some { r with profile := k, refusals := 0 }, ceiling := some k } := by
    rw [hn, State.notify_bay, hm, State.modBay_bay_self, hr]
    rfl
  have inner : n.inner ((n.recap b).queueCmd b (.chargeStart k)) :=
    State.inner_queueCmd (State.inner_recap n.inner_refl b) b _
  have rbay : (n.recap b).bay b = { n.bay b with
      cap := n.capOf b
      grant := if n.capOf b < (n.bay b).grant then grantFloor (floor50 (n.capOf b)) else (n.bay b).grant } := by
    rw [State.recap_bay, if_pos rfl]
  have cap : ((n.recap b).queueCmd b (.chargeStart k)).capOf b = n.capOf b :=
    State.capOf_inner inner (by rw [State.queueCmd_bay, rbay])
  dsimp only
  rw [whole, cap, State.queueCmd_bay, rbay, nbay, State.queueCmd_grants]
  refine ⟨⟨rfl, rfl, rfl⟩, ?_, rfl, rfl, State.queued_queueCmd_self (by rw [rbay, nbay]; exact hl) _, n.recap_replan b,
    State.inner_sent inner (m.sent_notify rfl)⟩
  dsimp only
  split
  · exact grantFloor_le _
  · next h => exact Nat.not_lt.mp h

theorem State.setRefusals_bay {s : State} {b : BayNo} {p : Pack} (hp : (s.bay b).pack = some p) (n : Nat) :
    (s.setRefusals b n).bay b = { s.bay b with pack := some { p with refusals := n } } := by
  rw [State.setRefusals, State.modBay_bay_self, hp]
  rfl

/-- A refusal count written into a pack record, field by field. -/
theorem State.setRefusals_fields {s : State} {b : BayNo} {p : Pack} (hp : (s.bay b).pack = some p) (n : Nat) :
    let r := (s.setRefusals b n).bay b
    r.pack = some { p with refusals := n } ∧ r.state = (s.bay b).state ∧ r.cause = (s.bay b).cause
      ∧ r.inForce = (s.bay b).inForce ∧ r.ceiling = (s.bay b).ceiling ∧ r.link = (s.bay b).link
      ∧ r.door = (s.bay b).door ∧ r.grant = (s.bay b).grant := by
  dsimp only
  rw [State.setRefusals_bay hp]
  exact ⟨rfl, rfl, rfl, rfl, rfl, rfl, rfl, rfl⟩

theorem State.setRefusals_clock (s : State) (b : BayNo) (n : Nat) : (s.setRefusals b n).clock = s.clock := rfl

theorem State.setRefusals_eligible {s : State} {b : BayNo} {p : Pack} (hp : (s.bay b).pack = some p) (n : Nat) :
    (s.setRefusals b n).eligible b = s.eligible b := by
  simp only [State.eligible, State.setRefusals_bay hp]
  rfl

theorem State.takeSession_active {s : State} {b : BayNo} (h : (s.bay b).state = .charging) :
    s.takeSession b .active = s.setRefusals b 0 := if_pos h

theorem State.takeSession_quiet_idle {s : State} {b : BayNo} : s.takeSession b .idle = s := by
  unfold State.takeSession
  split <;> rfl

theorem State.takeSession_refused {s : State} {b : BayNo} {p : Pack} (h : (s.bay b).state = .charging)
    (hp : (s.bay b).pack = some p) :
    s.takeSession b .refused =
      if s.params.downshift ≤ p.refusals + 1 then (s.setRefusals b (p.refusals + 1)).downshift b p
      else s.setRefusals b (p.refusals + 1) := by
  simp only [State.takeSession, h, if_true, State.countRefusal, hp]
  rfl

/-- CHARGE, where no lower profile is shared (R32). -/
theorem State.downshift_none {s : State} {b : BayNo} {p : Pack} (hc : (s.bay b).cause = none)
    (hs : (s.bay b).state = .charging) (hl : (s.bay b).link ≠ .lost)
    (hk : lowerProfile p.abilities (s.bay b).inForce p.health p.profile = none) :
    let t := s.downshift b p
    t.stopQueued b ∧ (t.bay b).cause = some .charge ∧ (t.bay b).pack = (s.bay b).pack
      ∧ (t.bay b).ceiling = (s.bay b).ceiling ∧ (s.eligible b = true → (t.bay b).grant = 0)
      ∧ t.sent .gateway (s.notice .bayFault (.bay b) 2 p.profile.rate) := by
  have whole : s.downshift b p = s.becomeFaulted b .charge p.profile.rate false := by
    simp only [State.downshift, hk]
    exact State.raiseFault_new hc _ _ _
  obtain ⟨g, q, band, ceiling, cap, hb, hkeep, -⟩ := s.faultBay_bay b .charge
  obtain ⟨rfl, rfl, -, hg⟩ := hkeep (by decide)
  obtain ⟨state, pack, cause⟩ := (s.becomeFaulted_calm b .charge p.profile.rate false).faulted (b := b) (by rw [hb])
  obtain ⟨-, -, -, ceil, -⟩ := Bay.calm_fields ((s.becomeFaulted_calm b .charge p.profile.rate false).1 b)
  have queued : (s.faultBay b .charge).queued b (.chargeStop false) := by
    have placed : ((s.edit b (fun r => { r with state := .faulted, cause := some .charge, admission := none })).queueCmd
        b (.chargeStop false)).queued b (.chargeStop false) := by
      refine State.queued_queueCmd_self ?_ _
      obtain ⟨g, -, hg⟩ := s.edit_bay_self b
        (fun r => { r with state := .faulted, cause := some .charge, admission := none })
      rw [hg]
      exact hl
    have charged : (s.bay b).holdsCharged = true := (Bay.holdsCharged_iff _).mpr (.inl hs)
    have notError : ((s.bay b).admission.isSome && decide (FaultCause.charge = .packError)) = false := by simp
    simp only [State.faultBay, charged, if_true, notError, Bool.false_eq_true, if_false]
    split
    · obtain ⟨k, hk, rfl, hkc⟩ := placed
      refine ⟨k, (Bus.mem_withdraw _ _ .identify k).mpr ⟨hk, fun e => ?_⟩, rfl, hkc⟩
      rw [hkc] at e
      cases e.2
    · exact placed
  have start : (s.faultBay b .charge).stopQueued b := ⟨by rw [hb], by rw [hb]; exact nofun, queued⟩
  have finish := State.becomeFaulted_kept (keptByTrade_stopQueued b) start p.profile.rate false
  have fall := (State.inner_bay (s.becomeFaulted_inner b .charge p.profile.rate false) b).2.2.2.2.2.2
  rw [hb] at fall
  dsimp only
  rw [whole]
  rw [hb] at pack cause ceil
  exact ⟨finish, cause, pack, ceil, fun h => Nat.le_zero.mp (hg h ▸ fall), s.becomeFaulted_sent b .charge _ false⟩

end Sys2Proof.Machine
end

section
/-! An accepted reply as a whole (R131, R138, R140, R141), and the session state it brings (R30 to R32). -/

open Sys2Proof Sys2Proof.Machine
namespace Sys2Proof.Machine

/-! ### Every accepted reply -/

/-- The state after an accepted reply and its arrival. -/
def State.replied (s : State) (fl : Flight) (b : BayNo) (rep : ShortReport) (ans : Answer) : State :=
  (s.answered fl b rep ans).settle

/-- What follows a reply's report but for LINK-DOWN is an operation within an arrival. -/
theorem State.replied_inner (s : State) (fl : Flight) (b : BayNo) (rep : ShortReport) (ans : Answer) :
    (((s.heard b).applyReport b rep (s.back b)).clearLinkDown b).inner (s.replied fl b rep ans) :=
  State.inner_settle (State.inner_takeIdentity (State.inner_refl _) fl b rep ans)

theorem State.replied_bay (s : State) (fl : Flight) (b : BayNo) (rep : ShortReport) (ans : Answer) (c : BayNo) :
    let v := s.modBay b (fun r => r.answered.report rep)
    ((s.replied fl b rep ans).bay c).reported = (v.bay c).reported
      ∧ ((s.replied fl b rep ans).bay c).service = (v.bay c).service
      ∧ ((s.replied fl b rep ans).bay c).staged = (v.bay c).staged
      ∧ ((s.replied fl b rep ans).bay c).bsection = (v.bay c).bsection := by
  obtain ⟨r1, s1, g1, b1, -⟩ := State.inner_bay (s.replied_inner fl b rep ans) c
  obtain ⟨r2, s2, g2, b2, -⟩ := State.inner_bay (s.heard_report_inner b rep) c
  rw [State.clearLinkDown_bay] at r1 s1 g1 b1
  exact ⟨r1.trans r2, s1.trans s2, g1.trans g2, b1.trans b2⟩

/-- LINK-DOWN clears, and LOCK-ALL is owed where it stood (R140, R141). -/
theorem State.clearLinkDown_spec (s : State) (b : BayNo) :
    (s.clearLinkDown b).settings = s.settings ∧ (s.clearLinkDown b).grants = s.grants
      ∧ (s.clearLinkDown b).faults = { s.faults with linkDown := none }
      ∧ (s.clearLinkDown b).bus.settings = (s.bus.sent, s.bus.nextPoll,
          (s.bus.lockAllPending || s.faults.linkDown.isSome), s.bus.addrErrors) := by
  cases h : s.faults.linkDown with
  | none =>
    have stay : s.clearLinkDown b = s := by simp only [State.clearLinkDown, h]
    rw [stay]
    exact ⟨rfl, rfl, by rw [← h], by simp only [Bus.settings, Option.isSome_none, Bool.or_false]⟩
  | some n =>
    simp only [State.clearLinkDown, h, Option.isSome_some, Bool.or_true]
    exact ⟨rfl, rfl, rfl, rfl⟩

theorem State.replied_settings (s : State) (fl : Flight) (b : BayNo) (rep : ShortReport) (ans : Answer) :
    let t := s.replied fl b rep ans
    t.settings = s.settings ∧ t.grants.settings = s.grants.settings
      ∧ t.faults = { s.faults with linkDown := none }
      ∧ t.bus.settings = (s.bus.sent, s.bus.nextPoll,
          (s.bus.lockAllPending || s.faults.linkDown.isSome), s.bus.addrErrors) := by
  obtain ⟨set1, gr1, bus1, f1, -⟩ := s.replied_inner fl b rep ans
  obtain ⟨set2, gr2, bus2, f2, -⟩ := s.heard_report_inner b rep
  obtain ⟨set3, gr3, f3, bus3⟩ := ((s.heard b).applyReport b rep (s.back b)).clearLinkDown_spec b
  simp only [Bus.settings, State.modBay_bus, Prod.mk.injEq] at bus2
  obtain ⟨sent, next, pending, errors⟩ := bus2
  refine ⟨set1.trans (set3.trans set2), gr1.trans ((congrArg Grants.settings gr3).trans gr2), f1.trans (f3.trans ?_),
    bus1.trans (bus3.trans ?_)⟩
  · rw [f2]
    rfl
  · rw [f2, sent, next, pending, errors]
    rfl

/-- The bus is idle after a reply. -/
theorem State.replied_idle (s : State) (fl : Flight) (b : BayNo) (rep : ShortReport) (ans : Answer) :
    (s.replied fl b rep ans).bus.flight = none := by
  have K := keptByArrival_idle
  have heard : (s.heard b).bus.flight = none := State.heard_kept (K.toBay b) rfl
  exact K.toTrade.toMatch.settle (K.takeIdentity (fun h => h) (K.toTrade.clearLinkDown (K.applyReport heard b rep _) b)
    fl b rep ans)

/-! ### The report of a CHARGING bay without a change of pack -/

/-- No identity is awaited for a bay that is not ADMITTING (R23). -/
theorem State.takeIdentity_other {s : State} {b : BayNo} (h : (s.bay b).state ≠ .admitting) (fl : Flight)
    (rep : ShortReport) (ans : Answer) : s.takeIdentity fl b rep ans = s := by
  unfold State.takeIdentity
  split
  · split
    · unfold State.takeAnswer
      split
      · rfl
      · exact if_neg fun k => h k.1
    · rfl
  · rfl

/-- A report's state before its session state is taken: the fields, the return of the link, the band. -/
def State.steady (s : State) (b : BayNo) (rep : ShortReport) : State :=
  ((s.heard b).packed b rep (s.back b)).rebandBay b

theorem State.rebandBay_bay (s : State) (b : BayNo) :
    ∃ band cap, ∃ g ≤ (s.bay b).grant, (s.rebandBay b).bay b = { s.bay b with band := band, cap := cap, grant := g } := by
  unfold State.rebandBay
  split
  · exact ⟨_, _, _, Nat.le_refl _, rfl⟩
  · dsimp only
    split
    · exact ⟨_, _, _, Nat.le_refl _, rfl⟩
    · rw [State.recap_bay, if_pos rfl]
      refine ⟨_, _, _, ?_, by rw [State.wantPass_bay, State.modBay_bay_self]⟩
      split
      · next h => exact (grantFloor_le _).trans (by simpa using Nat.le_of_lt h)
      · simp

theorem State.eligible_inner {s t : State} (h : s.inner t) {b : BayNo}
    (hb : (t.bay b).ownEligible = (s.bay b).ownEligible) : t.eligible b = s.eligible b := by
  have halt : t.grants.halt = s.grants.halt :=
    congrArg (a₁ := t.grants.settings) (a₂ := s.grants.settings) Grants.halt h.2.1
  have feed : t.grants.feed = s.grants.feed :=
    congrArg (a₁ := t.grants.settings) (a₂ := s.grants.settings) Grants.feed h.2.1
  rw [State.eligible, State.eligible, hb, halt, feed]

/-- The steady part of a report leaves the fields, and the grant of an eligible bay that it keeps eligible. -/
theorem State.steady_spec {s : State} {b : BayNo} {rep : ShortReport} {q : Pack} (hs : (s.bay b).state = .charging)
    (hq : (s.bay b).pack = some q) (hsensed : rep.sensed = true) (hcount : rep.count = (s.bay b).count)
    (hrestart : rep.restart = false) :
    (∃ band cap g, (s.steady b rep).bay b = { (s.bay b).answered.report rep with band := band, cap := cap, grant := g }
      ∧ (s.eligible b = true → g = 0 ∨ (s.steady b rep).eligible b = true))
      ∧ (s.modBay b (fun r => r.answered.report rep)).inner (s.steady b rep) := by
  obtain ⟨g, -, hg, hz⟩ := s.heard_fields b rep
  set f := (s.heard b).takeFields b rep with hf
  have still : (s.heard b).moved b rep = false := by
    simp [State.moved, State.heard_bay_self, hcount, hrestart]
  have restore : f.restoreLink b = f.queueCmd b (.chargeStart q.profile) := by
    simp only [State.restoreLink, hg, Bay.report, Bay.answered, hs, hq, Option.map_some]
  have packed : (s.heard b).packed b rep (s.back b)
      = if s.back b then f.queueCmd b (.chargeStart q.profile) else f := by
    rw [State.packed_present hsensed, still, State.insertPack_held (by rw [hg]; exact fun k => nomatch hs.symm.trans k),
      restore]
    rfl
  have pbay : ((s.heard b).packed b rep (s.back b)).bay b = f.bay b := by
    rw [packed]
    split
    · exact State.queueCmd_bay _ _ _ _
    · rfl
  have inner : f.inner (s.steady b rep) := State.inner_rebandBay (by
    rw [packed]
    exact State.inner_ite (State.inner_queueCmd f.inner_refl b _) f.inner_refl) b
  obtain ⟨band, cap, g', hle, hb⟩ := ((s.heard b).packed b rep (s.back b)).rebandBay_bay b
  rw [pbay, hg] at hb hle
  have first : (s.modBay b (fun r => r.answered.report rep)).inner f := by
    refine State.inner_trans ?_ ((s.heard b).takeFields_inner b rep)
    rw [← s.modBay_modBay b Bay.answered (fun r => r.report rep)]
    exact State.inner_modBay_both (s.heard_inner b) b
      (fun _ _ k => by simp only [Bay.kept, Bay.reported, Bay.report, Prod.mk.injEq] at k ⊢; simp [k]) fun _ => rfl
  refine ⟨⟨band, cap, g', hb, fun h => ?_⟩, State.inner_trans first inner⟩
  have same : (s.steady b rep).eligible b = f.eligible b :=
    State.eligible_inner inner (by rw [State.steady, hb, hg]; rfl)
  rw [same]
  exact (hz h).imp (fun e : g = 0 => Nat.le_zero.mp (e ▸ hle)) id

/-- The end of a cool report's reply from the session state on. -/
theorem State.replied_concluded {s : State} {b : BayNo} {rep : ShortReport} (hr : coolReport rep) (fl : Flight)
    (ans : Answer) (hs : (((s.steady b rep).takeSession b rep.session).bay b).state ≠ .admitting) :
    s.replied fl b rep ans = (((s.steady b rep).takeSession b rep.session).concluded b ((s.heard b).exchangeAt b)
      (s.back b) (s.back b && !(s.heard b).moved b rep)).settle := by
  have report : ((s.heard b).applyReport b rep (s.back b)).clearLinkDown b
      = ((s.steady b rep).takeSession b rep.session).concluded b ((s.heard b).exchangeAt b)
        (s.back b) (s.back b && !(s.heard b).moved b rep) := by
    rw [State.applyReport_eq, State.judged, State.takeHeat_cool _ hr]
    rfl
  rw [State.replied, State.answered_eq, report, State.takeIdentity_other]
  exact State.concluded_kept (keptByTrade_unadmitting b) (fun _ => State.takeDoor_unadmitting) hs _ _ _

theorem State.replied_kept {P : State → Prop} (K : KeptByTrade P) {s : State} {b : BayNo} {rep : ShortReport}
    (hr : coolReport rep) (fl : Flight) (ans : Answer)
    (hs : (((s.steady b rep).takeSession b rep.session).bay b).state ≠ .admitting)
    (hd : ∀ t, P t → P (t.takeDoor b)) (h : P ((s.steady b rep).takeSession b rep.session)) :
    P (s.replied fl b rep ans) := by
  rw [State.replied_concluded hr fl ans hs]
  exact K.toMatch.settle (State.concluded_kept K hd h _ _ _)

/-- The pack record that a reply's session state leaves. -/
theorem State.replied_charge {s : State} {b : BayNo} {rep : ShortReport} (hr : coolReport rep) (fl : Flight)
    (ans : Answer) (hs : (((s.steady b rep).takeSession b rep.session).bay b).state ≠ .admitting) :
    let y := (s.steady b rep).takeSession b rep.session
    ((s.replied fl b rep ans).bay b).pack = (y.bay b).pack
      ∧ ((s.replied fl b rep ans).bay b).ceiling = (y.bay b).ceiling
      ∧ ((s.replied fl b rep ans).bay b).cap = (y.bay b).cap :=
  (Bay.charge_iff _ _ _ _).mp
    (State.replied_kept (keptByTrade_charge b _) hr fl ans hs (fun _ => State.takeDoor_charge) rfl)

/-- Grants, notices and settings from the session state on. -/
theorem State.replied_rest {s : State} {b : BayNo} {rep : ShortReport} (hr : coolReport rep) (fl : Flight)
    (ans : Answer) (hs : (((s.steady b rep).takeSession b rep.session).bay b).state ≠ .admitting) :
    let y := (s.steady b rep).takeSession b rep.session
    ((s.replied fl b rep ans).bay b).grant ≤ (y.bay b).grant
      ∧ (∀ p n, y.sent p n → (s.replied fl b rep ans).sent p n)
      ∧ (s.replied fl b rep ans).grants.modules = y.grants.modules ∧ (s.replied fl b rep ans).derate = y.derate := by
  set y := (s.steady b rep).takeSession b rep.session with hy
  have report : y.inner (((((y.fillTest b).takeDoor b).dropWatch b).relockBack b (s.back b)).exchangeReport b
      ((s.heard b).exchangeAt b) (s.back b && !(s.heard b).moved b rep)) :=
    State.inner_exchangeReport (State.inner_relockBack (State.inner_dropWatch (State.inner_takeDoor
      (State.inner_fillTest y.inner_refl b) b) b) b _) b _ _
  have settle : (y.concluded b ((s.heard b).exchangeAt b) (s.back b) (s.back b && !(s.heard b).moved b rep)).inner
      (s.replied fl b rep ans) := by
    rw [State.replied_concluded hr fl ans hs]
    exact State.inner_settle (State.inner_refl _)
  obtain ⟨set1, gr1, -, -⟩ := (((((y.fillTest b).takeDoor b).dropWatch b).relockBack b (s.back b)).exchangeReport b
      ((s.heard b).exchangeAt b) (s.back b && !(s.heard b).moved b rep)).clearLinkDown_spec b
  have modules : ∀ {g h : Grants}, g.settings = h.settings → g.modules = h.modules := fun {g h} e =>
    congrArg (a₁ := g.settings) (a₂ := h.settings) Grants.modules e
  have derate : ∀ {u v : State}, u.settings = v.settings → u.derate = v.derate := fun e => congrArg (fun x => x.2.1) e
  have fall1 := (State.inner_bay report b).2.2.2.2.2.2
  have fall2 := (State.inner_bay settle b).2.2.2.2.2.2
  rw [State.concluded, State.clearLinkDown_bay] at fall2
  refine ⟨fall2.trans fall1, fun p n h => State.inner_sent settle (State.clearLinkDown_sent
    (State.inner_sent report h) b), ?_, ?_⟩
  · exact (modules settle.2.1).trans ((congrArg Grants.modules gr1).trans (modules report.2.1))
  · exact (derate settle.1).trans ((derate set1).trans (derate report.1))

end Sys2Proof.Machine
end

section
/-! The session state of a CHARGING bay's report (R30 to R32), and O21. -/

open Sys2Proof Sys2Proof.Machine
namespace Sys2Proof.Machine

/-- A report that brings a CHARGING bay of a pack no change of pack and no heat. -/
structure SteadyReport (s : State) (b : BayNo) (rep : ShortReport) (q : Pack) : Prop where
  state : (s.bay b).state = .charging
  cause : (s.bay b).cause = none
  pack : (s.bay b).pack = some q
  sensed : rep.sensed = true
  count : rep.count = (s.bay b).count
  restart : rep.restart = false
  fault : rep.packFault = false
  temp : rep.temp < 65

/-- The pack record with a report's SoC and temperature. -/
def Pack.seen (q : Pack) (rep : ShortReport) : Pack := { q with soc := min 1000 rep.soc, temp := max (-40) rep.temp }

theorem clampTemp_cool {t : Int} (h : t < 65) : clampTemp t = max (-40) t := by
  unfold clampTemp
  omega

/-- With the door CLOSED the cause of a FAULTED bay outlasts matching and the exchanges. -/
theorem keptByTrade_charged (b : BayNo) : KeptByTrade (fun t => (t.bay b).state = .faulted
    ∧ (t.bay b).cause = some .charge ∧ (t.bay b).door = .closed) :=
  keptByTrade_record b (Q := fun r => r.state = .faulted ∧ r.cause = some .charge ∧ r.door = .closed)
    (fun r r' k p => by
      obtain ⟨-, -, -, state, cause, -⟩ := Bay.core_fields k
      exact ⟨state.trans p.1, cause.trans p.2.1, (congrArg Bay.door k).trans p.2.2⟩)
    (fun t p => by
      have stay : t.fillTest b = t := State.fillTest_else (fun _ _ k _ => by rw [p.1] at k; cases k)
        (fun _ _ k _ => by rw [p.1] at k; cases k)
      rw [stay]
      exact p)

section
variable {s : State} {b : BayNo} {rep : ShortReport} {q : Pack} (h : SteadyReport s b rep q)
include h

theorem SteadyReport.cool : coolReport rep := fun _ => ⟨h.fault, h.temp⟩

/-- The bay as its session state finds it. -/
theorem SteadyReport.steady :
    let r := (s.steady b rep).bay b
    (r.state = .charging ∧ r.cause = none ∧ r.pack = some (q.seen rep) ∧ r.inForce = (s.bay b).inForce
      ∧ r.ceiling = (s.bay b).ceiling ∧ r.link = .reachable ∧ r.door = rep.door)
      ∧ (s.eligible b = true → r.grant = 0 ∨ (s.steady b rep).eligible b = true) := by
  obtain ⟨⟨band, cap, g, hb, hz⟩, -⟩ := State.steady_spec h.state h.pack h.sensed h.count h.restart
  have seen : ((s.bay b).answered.report rep).pack = some (q.seen rep) := by
    simp only [Bay.report, Bay.answered, h.pack, Option.map_some, Pack.seen, clampTemp_cool h.temp]
    rfl
  dsimp only
  rw [hb]
  exact ⟨⟨h.state, h.cause, seen, rfl, rfl, rfl, rfl⟩, hz⟩

theorem SteadyReport.params : (s.steady b rep).params = s.params ∧ (s.steady b rep).clock = s.clock := by
  obtain ⟨-, inner⟩ := State.steady_spec h.state h.pack h.sensed h.count h.restart
  exact ⟨congrArg (fun x => x.2.2.2.1) inner.1, (State.inner_clock inner).trans rfl⟩

/-- A session state that leaves the bay CHARGING: the pack record it leaves stands (R30). -/
theorem SteadyReport.keeps (fl : Flight) (ans : Answer) {n : Nat}
    (hy : (s.steady b rep).takeSession b rep.session = (s.steady b rep).setRefusals b n) :
    ((s.replied fl b rep ans).bay b).pack = some { q.seen rep with refusals := n } := by
  obtain ⟨⟨state, -, pack, -⟩, -⟩ := h.steady
  obtain ⟨ypack, ystate, -⟩ := State.setRefusals_fields pack n
  rw [← hy] at ypack ystate
  obtain ⟨tpack, -⟩ := State.replied_charge h.cool fl ans (by rw [ystate, state]; exact nofun)
  exact tpack.trans ypack

/-- An idle session leaves the refusal count (R30). -/
theorem SteadyReport.idle (fl : Flight) (ans : Answer) (hs : rep.session = .idle) :
    ((s.replied fl b rep ans).bay b).pack = some (q.seen rep) := by
  obtain ⟨⟨state, -, pack, -⟩, -⟩ := h.steady
  have same : (s.steady b rep).takeSession b rep.session = s.steady b rep := by rw [hs, State.takeSession_quiet_idle]
  obtain ⟨tpack, -⟩ := State.replied_charge h.cool fl ans (by rw [same, state]; exact nofun)
  rw [tpack, same, pack]

/-- A refusal is counted and compared with the downshift count (R30). -/
theorem SteadyReport.refused (hs : rep.session = .refused) :
    (s.steady b rep).takeSession b rep.session =
      if s.params.downshift ≤ q.refusals + 1 then ((s.steady b rep).setRefusals b (q.refusals + 1)).downshift b (q.seen rep)
      else (s.steady b rep).setRefusals b (q.refusals + 1) := by
  obtain ⟨⟨state, -, pack, -⟩, -⟩ := h.steady
  rw [hs, State.takeSession_refused state pack, h.params.1]
  rfl

/-- The record that the downshift finds: the steady one with its refusal counted. -/
theorem SteadyReport.counted :
    let e := (s.steady b rep).setRefusals b (q.refusals + 1)
    ((e.bay b).state = .charging ∧ (e.bay b).cause = none
      ∧ (e.bay b).pack = some { q.seen rep with refusals := q.refusals + 1 } ∧ (e.bay b).inForce = (s.bay b).inForce
      ∧ (e.bay b).ceiling = (s.bay b).ceiling ∧ (e.bay b).link = .reachable ∧ (e.bay b).door = rep.door)
      ∧ (s.eligible b = true → (e.bay b).grant = 0 ∨ e.eligible b = true) ∧ e.clock = s.clock := by
  obtain ⟨⟨state, cause, pack, inForce, ceiling, link, door⟩, hz⟩ := h.steady
  obtain ⟨epack, estate, ecause, eforce, eceil, elink, edoor, egrant⟩ := State.setRefusals_fields pack (q.refusals + 1)
  refine ⟨⟨estate.trans state, ecause.trans cause, epack, eforce.trans inForce, eceil.trans ceiling, elink.trans link,
    edoor.trans door⟩, fun he => ?_, (State.setRefusals_clock _ _ _).trans h.params.2⟩
  rw [egrant, State.setRefusals_eligible pack]
  exact hz he

/-- At the downshift count the profile falls to the next lower shared one (R31). -/
theorem SteadyReport.downshifts (fl : Flight) (ans : Answer) (hs : rep.session = .refused)
    (hn : s.params.downshift ≤ q.refusals + 1) {k : Profile}
    (hk : lowerProfile q.abilities (s.bay b).inForce q.health q.profile = some k) :
    let t := s.replied fl b rep ans
    (t.bay b).pack = some { q.seen rep with profile := k, refusals := 0 } ∧ (t.bay b).ceiling = some k
      ∧ (t.bay b).cap = t.capOf b ∧ (t.bay b).grant ≤ t.capOf b ∧ t.grants.replan = true
      ∧ t.sent .gateway (s.notice .downshift (.bay b) (k.index + 1) k.rate)
      ∧ ((t.bay b).state = .charging → t.queued b (.chargeStart k)) := by
  obtain ⟨⟨state, -, pack, inForce, -, link, -⟩, -, clock⟩ := h.counted
  have hy := (h.refused hs).trans (if_pos hn)
  obtain ⟨⟨ypack, yceil, ycap⟩, cut, ystate, ylink, queued, replan, sent⟩ := State.downshift_some
    (s := (s.steady b rep).setRefusals b (q.refusals + 1)) (p := q.seen rep) (k := k) pack
    (by rw [link]; exact nofun) (by rw [inForce]; exact hk)
  rw [← hy] at ypack yceil ycap cut ystate ylink queued replan sent
  rw [State.notice_of_clock clock] at sent
  have charging : (((s.steady b rep).takeSession b rep.session).bay b).state ≠ .admitting := by
    rw [ystate, state]
    exact nofun
  obtain ⟨tpack, tceil, tcap⟩ := State.replied_charge h.cool fl ans charging
  obtain ⟨fall, said, modules, derate⟩ := State.replied_rest h.cool fl ans charging
  have start : ((s.steady b rep).takeSession b rep.session).startQueued b k := by
    refine ⟨fun p hp => ?_, by rw [ylink, link]; exact nofun, fun _ => queued⟩
    exact Option.some.inj (hp.symm.trans ypack) ▸ rfl
  have started := State.replied_kept (keptByTrade_startQueued b k) h.cool fl ans charging
    (fun _ => State.takeDoor_startQueued) start
  have planned := State.replied_kept keptByArrival_planWanted.toTrade h.cool fl ans charging
    (fun _ p => keptByArrival_planWanted.takeDoor p b) replan
  have cap := State.capOf_of tpack modules derate
  exact ⟨tpack.trans ypack, tceil.trans yceil, tcap.trans (ycap.trans cap.symm), fall.trans (cut.trans (Nat.le_of_eq cap.symm)),
    planned, said _ _ sent, started.2.2⟩

/-- With no lower profile shared the bay is FAULTED with CHARGE (R32). -/
theorem SteadyReport.faults (fl : Flight) (ans : Answer) (hs : rep.session = .refused)
    (hn : s.params.downshift ≤ q.refusals + 1)
    (hk : lowerProfile q.abilities (s.bay b).inForce q.health q.profile = none) :
    let t := s.replied fl b rep ans
    (t.bay b).pack = some { q.seen rep with refusals := q.refusals + 1 } ∧ (t.bay b).ceiling = (s.bay b).ceiling
      ∧ (t.bay b).state = .faulted ∧ (s.eligible b = true → (t.bay b).grant = 0)
      ∧ (rep.door = .closed → (t.bay b).cause = some .charge)
      ∧ t.sent .gateway (s.notice .bayFault (.bay b) 2 q.profile.rate) ∧ t.queued b (.chargeStop false) := by
  obtain ⟨⟨estate, ecause, epack, inForce, eceil, link, edoor⟩, hz, clock⟩ := h.counted
  have hy := (h.refused hs).trans (if_pos hn)
  obtain ⟨stop, cause, pack, ceiling, grant, sent⟩ := State.downshift_none
    (s := (s.steady b rep).setRefusals b (q.refusals + 1)) (p := q.seen rep) ecause estate
    (by rw [link]; exact nofun) (by rw [inForce]; exact hk)
  have yinner := State.inner_downshift (State.inner_refl ((s.steady b rep).setRefusals b (q.refusals + 1))) b (q.seen rep)
  rw [← hy] at stop cause pack ceiling grant sent yinner
  rw [State.notice_of_clock clock] at sent
  have faulted : (((s.steady b rep).takeSession b rep.session).bay b).state ≠ .admitting := by
    rw [stop.1]
    exact nofun
  obtain ⟨tpack, tceil, -⟩ := State.replied_charge h.cool fl ans faulted
  obtain ⟨fall, said, -, -⟩ := State.replied_rest h.cool fl ans faulted
  obtain ⟨state, -, waits⟩ := State.replied_kept (keptByTrade_stopQueued b) h.cool fl ans faulted
    (fun _ => State.takeDoor_stopQueued) stop
  refine ⟨tpack.trans (pack.trans epack), tceil.trans (ceiling.trans eceil), state, fun he => ?_, fun hd => ?_,
    said _ _ sent, waits⟩
  · have low := (State.inner_bay yinner b).2.2.2.2.2.2
    rcases hz he with z | z
    · rw [z] at low
      exact Nat.le_zero.mp (fall.trans low)
    · exact Nat.le_zero.mp (fall.trans (Nat.le_of_eq (grant z)))
  · have closed : ∀ t : State, (t.bay b).door = .closed → t.takeDoor b = t := fun t k =>
      State.takeDoor_closed (by rw [k]; exact nofun)
    have start := And.intro stop.1 (And.intro cause (((State.inner_reads yinner b).1.trans edoor).trans hd))
    obtain ⟨-, tcause, -⟩ := State.replied_kept (keptByTrade_charged b) h.cool fl ans faulted
      (fun t p => by rw [closed t p.2.2]; exact p) start
    exact tcause

end

/-- Settles O21. -/
theorem replyTakesReport : Obligations.ReplyTakesReport := by
  intro s fl b rep ans hfl hb
  obtain ⟨settings, grants, faults, bus⟩ := s.replied_settings fl b rep ans
  refine ⟨s.replied fl b rep ans, exec_bayReply hfl hb rep ans, s.replied_idle fl b rep ans, ?_, fun c hc => ?_,
    fun c => ?_, settings, grants, faults, bus, fun q hs hc hq hsensed hcount hrestart hfault htemp => ?_⟩
  · obtain ⟨reported, -⟩ := s.replied_bay fl b rep ans b
    rw [reported, State.modBay_bay_self]
    rfl
  · obtain ⟨reported, -⟩ := s.replied_bay fl b rep ans c
    rw [reported, State.modBay_bay_other _ _ _ _ hc]
  · obtain ⟨-, service, staged, bsection⟩ := s.replied_bay fl b rep ans c
    rw [service, staged, bsection, State.modBay_bay]
    split
    · next e => rw [e]; exact ⟨rfl, rfl, rfl⟩
    · exact ⟨rfl, rfl, rfl⟩
  · have h : SteadyReport s b rep q := ⟨hs, hc, hq, hsensed, hcount, hrestart, hfault, htemp⟩
    refine ⟨h.idle fl ans, fun k => h.keeps fl ans ?_, fun k hn => h.keeps fl ans ?_, fun k hn => ⟨fun p hp hmax => ?_,
      fun none => h.faults fl ans k hn (lowerProfile_none none)⟩⟩
    · obtain ⟨⟨state, -⟩, -⟩ := h.steady
      rw [k, State.takeSession_active state]
    · rw [h.refused k, if_neg (Nat.not_le.mpr hn)]
    · obtain ⟨pack, ceiling, cap, grant, replan, sent, queued⟩ :=
        h.downshifts fl ans k hn (lowerProfile_some hp hmax)
      exact ⟨pack, ceiling, cap, grant.trans (Nat.le_of_eq cap.symm),
        replan, sent, queued⟩

end Sys2Proof.Machine
end

section
/-! The phases and the ends of an exchange: the table, the roles, the notices, and the claim handed back. -/

open Sys2Proof Sys2Proof.Machine
namespace Sys2Proof.Machine

/-! ### Roles, door commands and phases -/

theorem State.edit_exchanges (s : State) (b : BayNo) (f : Bay → Bay) : (s.edit b f).exchanges = s.exchanges :=
  (s.edit_same b f).2.2.2.1

theorem State.exch_of {s t : State} (h : t.exchanges = s.exchanges) (x : ExNo) : t.exch x = s.exch x := by
  rw [State.exch, h]
  rfl

theorem State.setRole_bay (s : State) (b : BayNo) (role : Role) (n : BayNo) :
    ∃ g, (s.setRole b role).bay n = if n = b then { s.bay b with role := role, grant := g } else s.bay n := by
  obtain ⟨g, -, hg⟩ := s.edit_bay_self b (fun r => { r with role := role })
  refine ⟨g, ?_⟩
  rw [State.setRole]
  split
  · next e => rw [e, hg]
  · next e => exact s.edit_bay_other _ e

theorem State.setRole_role (s : State) (b : BayNo) (role : Role) (n : BayNo) :
    ((s.setRole b role).bay n).role = if n = b then role else (s.bay n).role := by
  obtain ⟨g, hg⟩ := s.setRole_bay b role n
  rw [hg]
  split <;> rfl

theorem State.setRole_rest (s : State) (b : BayNo) (role : Role) (n : BayNo) :
    ((s.setRole b role).bay n).relock = (s.bay n).relock ∧ ((s.setRole b role).bay n).matched = (s.bay n).matched
      ∧ ((s.setRole b role).bay n).watch = (s.bay n).watch ∧ ((s.setRole b role).bay n).link = (s.bay n).link
      ∧ ((s.setRole b role).bay n).state = (s.bay n).state := by
  obtain ⟨g, hg⟩ := s.setRole_bay b role n
  rw [hg]
  split
  · next e => rw [e]; exact ⟨rfl, rfl, rfl, rfl, rfl⟩
  · exact ⟨rfl, rfl, rfl, rfl, rfl⟩

theorem State.setRole_exch (s : State) (b : BayNo) (role : Role) (x : ExNo) : (s.setRole b role).exch x = s.exch x :=
  State.exch_of (s.edit_exchanges b _) x

/-- What a door command writes: the relock mark of its bay. -/
theorem State.queueLock_bay (s : State) (b n : BayNo) :
    (s.queueLock b).bay n = if n = b then { s.bay b with relock := true } else s.bay n := by
  rw [State.queueLock, State.queueCmd_bay, State.modBay_bay]

theorem State.queueUnlock_bay (s : State) (b n : BayNo) :
    (s.queueUnlock b).bay n = if n = b then { s.bay b with relock := false } else s.bay n := by
  rw [State.queueUnlock, State.queueCmd_bay, State.modBay_bay]

theorem State.queueLock_exch (s : State) (b : BayNo) (x : ExNo) : (s.queueLock b).exch x = s.exch x :=
  State.exch_of (State.queueCmd_exchanges _ _ _) x

theorem State.queueUnlock_exch (s : State) (b : BayNo) (x : ExNo) : (s.queueUnlock b).exch x = s.exch x :=
  State.exch_of (State.queueCmd_exchanges _ _ _) x

theorem State.queueLock_book (s : State) (b : BayNo) : (s.queueLock b).book = s.book := State.queueCmd_book _ _ _

theorem State.queueUnlock_book (s : State) (b : BayNo) : (s.queueUnlock b).book = s.book := State.queueCmd_book _ _ _

theorem State.queueLock_queued {s : State} {b : BayNo} (h : (s.bay b).link ≠ .lost) : (s.queueLock b).queued b .lock :=
  State.queued_queueCmd_self (by rw [State.modBay_bay_self]; exact h) _

theorem State.queueUnlock_queued {s : State} {b : BayNo} (h : (s.bay b).link ≠ .lost) :
    (s.queueUnlock b).queued b .unlock :=
  State.queued_queueCmd_self (by rw [State.modBay_bay_self]; exact h) _

/-- A phase entered: the record, and SWAP-PHASE to the terminal (R111, R112). -/
theorem State.enterPhase_eq {s : State} {x : ExNo} {e : Exchange} (h : s.exch x = some e) (ph : Phase) :
    s.enterPhase x ph = (s.setExch x (some { e with phase := ph, deadline := ph.length, relink := false })).notify
      .swapPhase (.claim e.claim) (ph.code + 1) (exchangeNumber x) := by
  simp only [State.enterPhase, h]

@[simp] theorem State.enterPhase_bay (s : State) (x : ExNo) (ph : Phase) (n : BayNo) :
    (s.enterPhase x ph).bay n = s.bay n := by
  unfold State.enterPhase
  split <;> rfl

@[simp] theorem State.enterPhase_book (s : State) (x : ExNo) (ph : Phase) : (s.enterPhase x ph).book = s.book := by
  unfold State.enterPhase
  split <;> rfl

@[simp] theorem State.enterPhase_bus (s : State) (x : ExNo) (ph : Phase) : (s.enterPhase x ph).bus = s.bus := by
  unfold State.enterPhase
  split <;> rfl

theorem State.enterPhase_exch {s : State} {x : ExNo} {e : Exchange} (h : s.exch x = some e) (ph : Phase) (y : ExNo) :
    (s.enterPhase x ph).exch y
      = if y = x then some { e with phase := ph, deadline := ph.length, relink := false } else s.exch y := by
  rw [State.enterPhase_eq h, State.notify_exch, State.setExch_exch]

theorem State.enterPhase_sent {s : State} {x : ExNo} {e : Exchange} (h : s.exch x = some e) (ph : Phase) :
    (s.enterPhase x ph).sent .terminal (s.notice .swapPhase (.claim e.claim) (ph.code + 1) (exchangeNumber x)) := by
  rw [State.enterPhase_eq h]
  exact State.sent_notify (s.setExch x _) rfl

/-! ### A claim handed back (R72, R121) -/

theorem State.modClaim_notSwapping {s : State} {id : ClaimId} {f : Claim → Claim} (hf : Trading f)
    (hs : ∀ c, (f c).state ≠ .swapping) : (s.modClaim id f).notSwapping id := by
  intro d hd
  rw [hf.claim?, if_pos rfl] at hd
  obtain ⟨c, -, rfl⟩ := Option.map_eq_some_iff.mp hd
  exact hs c

theorem State.notSwapping_of_book {s t : State} {id : ClaimId} (h : s.notSwapping id) (k : t.book = s.book) :
    t.notSwapping id := fun d hd => h d (by rwa [State.claim?_of_book k] at hd)

theorem State.notSwapping_none {s : State} {id : ClaimId} (h : s.claim? id = none) : s.notSwapping id :=
  fun _ hd => nomatch h.symm.trans hd

theorem State.enterReady_notSwapping (s : State) (id : ClaimId) (b : BayNo) : (s.enterReady id b).notSwapping id := by
  have change : ∀ f : Claim → Claim, (∀ c, (f c).terms = c.terms ∧ (f c).state = .ready) →
      (s.modClaim id f).notSwapping id := fun f hf =>
    State.modClaim_notSwapping (fun c => ⟨(hf c).1, fun k => by rw [(hf c).2] at k; cases k⟩)
      (fun c => by rw [(hf c).2]; exact nofun)
  unfold State.enterReady
  split
  · next h => exact State.notSwapping_none h
  · dsimp only
    split
    · exact change _ fun _ => ⟨rfl, rfl⟩
    · split
      · exact change _ fun _ => ⟨rfl, rfl⟩
      · exact State.notSwapping_of_book (change (fun c => { c with
          state := .ready, firstReady := some s.now, expiry := s.storedTime (s.now + walkupHold) })
          fun _ => ⟨rfl, rfl⟩) (State.countTime_book _ _)

/-- A claim handed back is not SWAPPING (R72). -/
theorem State.handBack_notSwapping (s : State) (id : ClaimId) : (s.handBack id).notSwapping id := by
  unfold State.handBack
  split
  · next h => exact State.notSwapping_none h
  · split
    · exact State.modClaim_notSwapping (by exact fun _ => ⟨rfl, nofun⟩) (by exact fun _ => nofun)
    · split
      · exact (keptByArrival_notSwapping id).toTrade.toMatch.unmatch
          (State.modClaim_notSwapping (by exact fun _ => ⟨rfl, nofun⟩) (by exact fun _ => nofun)) id _
      · split
        · exact s.enterReady_notSwapping id _
        · exact State.modClaim_notSwapping (by exact fun _ => ⟨rfl, nofun⟩) (by exact fun _ => nofun)

/-! ### A bay and a claim apart -/

/-- A bay without a match, that no open claim of a name holds. -/
def State.apart (s : State) (id : ClaimId) (b : BayNo) : Prop := (s.bay b).matched = none ∧ s.notOn id b

theorem State.apart_of {s t : State} {id : ClaimId} {b : BayNo} (h : s.apart id b) (hb : (t.bay b).matched = (s.bay b).matched)
    (hk : t.book = s.book) : t.apart id b := ⟨hb.trans h.1, State.notOn_of_book h.2 hk⟩

theorem State.fillTest_matched (s : State) (b n : BayNo) : ((s.fillTest b).bay n).matched = (s.bay n).matched := by
  by_cases hn : n = b
  · subst hn
    rcases s.fillTest_cases n with e | ⟨_, -, -, -, e⟩ | ⟨_, -, -, -, e⟩ <;> rw [e]
    · obtain ⟨g, -, hg⟩ := s.edit_bay_self n (fun r => { r with state := .topped })
      rw [State.queueCmd_bay, hg]
    · obtain ⟨g, -, hg⟩ := s.edit_bay_self n (fun r => { r with state := .charging })
      rw [State.queueCmd_bay, hg]
  · rw [s.fillTest_bay_other hn]

theorem State.apart_freed {s : State} {id : ClaimId} {b : BayNo} (h : s.apart id b) (n : BayNo) :
    ((s.modBay n (fun r => { r with matched := none })).fillTest n).apart id b := by
  refine State.apart_of (s := s.modBay n (fun r => { r with matched := none })) ⟨?_, h.2⟩ (State.fillTest_matched _ n b)
    (State.fillTest_book _ n)
  rw [State.modBay_bay]
  split
  · rfl
  · exact h.1

theorem State.apart_modClaim {s : State} {id : ClaimId} {b : BayNo} (h : s.apart id b) {i : ClaimId} {f : Claim → Claim}
    (hf : Trading f) (hb : ∀ c, (f c).takeBay = some b → c.takeBay = some b) : (s.modClaim i f).apart id b :=
  ⟨h.1, State.notOn_modClaim h.2 hf hb⟩

theorem State.apart_unmatch {s : State} {id : ClaimId} {b : BayNo} (h : s.apart id b) (i : ClaimId) (cause : LossCause) :
    (s.unmatch i cause).apart id b := by
  by_cases hn : ∃ c n, s.claim? i = some c ∧ c.takeBay = some n
  · obtain ⟨c, n, hc, hn⟩ := hn
    refine ⟨?_, fun d hd => ?_⟩
    · simp only [State.unmatch, hc, hn, State.wantPass_bay, State.wantReplan_bay, State.notify_bay, State.modClaim_bay,
        State.fillTest_matched, State.modBay_bay]
      split
      · rfl
      · exact h.1
    · rw [State.unmatch_claim? hc hn] at hd
      split at hd
      · obtain rfl := Option.some.inj hd
        exact nofun
      · exact h.2 d hd
  · rw [State.unmatch_none fun c hc => Option.eq_none_iff_forall_ne_some.mpr fun n k => hn ⟨c, n, hc, k⟩]
    exact h

theorem State.apart_closeClaim {s : State} {id : ClaimId} {b : BayNo} (h : s.apart id b) (i : ClaimId)
    (o : CloseOutcome) : (s.closeClaim i o).apart id b := by
  have close : ∀ t : State, t.apart id b →
      (t.setClaims (t.book.claims.filter (fun d => !decide (d.id = i)))).apart id b := fun t k =>
    ⟨k.1, fun d hd => by
      rw [State.close_claim?] at hd
      split at hd
      · cases hd
      · exact k.2 d hd⟩
  unfold State.closeClaim
  split
  · exact h
  · dsimp only
    split
    · exact State.apart_of (close s h) rfl rfl
    · exact State.apart_of (close _ (State.apart_of (State.apart_freed h _) rfl rfl)) rfl rfl

theorem State.apart_expireIfDue {s : State} {id : ClaimId} {b : BayNo} (h : s.apart id b) (i : ClaimId) :
    (s.expireIfDue i).apart id b := by
  unfold State.expireIfDue
  split
  · exact h
  · exact kept_ite (P := fun t => t.apart id b) (State.apart_closeClaim h i _) h

theorem State.apart_handBack {s : State} {id : ClaimId} {b : BayNo} (h : s.apart id b) (i : ClaimId) :
    (s.handBack i).apart id b := by
  unfold State.handBack
  split
  · exact h
  · split
    · exact State.apart_modClaim h (by exact fun _ => ⟨rfl, nofun⟩) fun _ k => k
    · split
      · have matched := State.apart_modClaim h (i := i) (f := fun c => { c with state := .matched })
          (by exact fun _ => ⟨rfl, nofun⟩) fun _ k => k
        exact State.apart_unmatch matched i _
      · split
        · exact ⟨(congrArg Bay.matched (State.enterReady_bay _ _ _ _)).trans h.1, State.enterReady_notOn h.2 i _⟩
        · exact ⟨h.1, State.fallUnready_notOn h.2 i _ _⟩

/-! ### The end of an exchange (R121) -/

/-- The part of an exchange's end before the claim is handed back. -/
def State.ending (s : State) (x : ExNo) (e : Exchange) (o : Outcome) (locks : List BayNo) (watch : Option BayNo) :
    State :=
  (((((locks.foldl State.queueLock s).clearRole e.intake).clearRole e.take).placeWatch watch
    { claim := e.claim, outcome := o }).setExch x none).notify .swapEnd (.claim e.claim) o.code (exchangeNumber x)

theorem State.endExchange_eq {s : State} {x : ExNo} {e : Exchange} (h : s.exch x = some e) (o : Outcome)
    (locks : List BayNo) (watch : Option BayNo) :
    s.endExchange x o locks [] watch =
      if o.handsBack then (((s.ending x e o locks watch).handBack e.claim).expireIfDue e.claim).wantPass
      else s.ending x e o locks watch := by
  simp only [State.endExchange, h]
  rfl

theorem State.clearRole_some (s : State) (b : BayNo) : s.clearRole (some b) = s.setRole b .none := rfl

/-- Clearing a role: no role for the bay, every other field but the grant as it was. -/
theorem State.clearRole_spec (s : State) (b : Option BayNo) :
    (∀ n, ((s.clearRole b).bay n).role = if b = some n then .none else (s.bay n).role)
      ∧ (∀ n, ((s.clearRole b).bay n).relock = (s.bay n).relock ∧ ((s.clearRole b).bay n).matched = (s.bay n).matched
          ∧ ((s.clearRole b).bay n).link = (s.bay n).link)
      ∧ (s.clearRole b).exchanges = s.exchanges ∧ (s.clearRole b).book = s.book ∧ (s.clearRole b).bus = s.bus := by
  cases b with
  | none => exact ⟨fun _ => rfl, fun _ => ⟨rfl, rfl, rfl⟩, rfl, rfl, rfl⟩
  | some b =>
    rw [State.clearRole_some]
    refine ⟨fun n => ?_, fun n => ?_, s.edit_exchanges b _, s.edit_book b _, s.edit_bus b _⟩
    · rw [s.setRole_role b .none n]
      by_cases e : n = b
      · rw [if_pos e, if_pos (congrArg some e.symm)]
      · rw [if_neg e, if_neg fun k => e (Option.some.inj k).symm]
    · obtain ⟨relock, matched, -, link, -⟩ := s.setRole_rest b .none n
      exact ⟨relock, matched, link⟩

theorem State.placeWatch_bay (s : State) (b : Option BayNo) (w : Watch) (n : BayNo) :
    (s.placeWatch b w).bay n = if b = some n then { s.bay n with watch := some w } else s.bay n := by
  unfold State.placeWatch
  split
  · rfl
  · next b =>
    rw [State.modBay_bay]
    by_cases e : n = b
    · rw [if_pos e, if_pos (congrArg some e.symm), e]
    · rw [if_neg e, if_neg fun k => e (Option.some.inj k).symm]

theorem State.placeWatch_rest (s : State) (b : Option BayNo) (w : Watch) :
    (s.placeWatch b w).exchanges = s.exchanges ∧ (s.placeWatch b w).book = s.book ∧ (s.placeWatch b w).bus = s.bus := by
  unfold State.placeWatch
  split <;> exact ⟨rfl, rfl, rfl⟩

/-- Locks queued: the relock list, and the commands of bays whose link is not LOST. -/
theorem State.lockAll_spec (s : State) (locks : List BayNo) :
    let t := locks.foldl State.queueLock s
    (∀ n, t.bay n = if n ∈ locks then { s.bay n with relock := true } else s.bay n)
      ∧ t.exchanges = s.exchanges ∧ t.book = s.book := by
  induction locks generalizing s with
  | nil => exact ⟨fun n => (if_neg (List.not_mem_nil)).symm, rfl, rfl⟩
  | cons b l ih =>
    obtain ⟨bays, exchanges, book⟩ := ih (s.queueLock b)
    refine ⟨fun n => ?_, exchanges.trans (State.queueCmd_exchanges _ _ _), book.trans (s.queueLock_book b)⟩
    rw [List.foldl_cons, bays n, State.queueLock_bay]
    by_cases e : n = b
    · simp [e]
    · simp [e]

/-- An exchange's end up to the hand-back. -/
theorem State.ending_spec (s : State) (x : ExNo) (e : Exchange) (o : Outcome) (locks : List BayNo)
    (watch : Option BayNo) :
    let t := s.ending x e o locks watch
    (∀ y, t.exch y = if y = x then none else s.exch y)
      ∧ (∀ n, (t.bay n).role = if e.intake = some n ∨ e.take = some n then .none else (s.bay n).role)
      ∧ (∀ n, (t.bay n).relock = if n ∈ locks then true else (s.bay n).relock)
      ∧ (∀ n, watch = some n → (t.bay n).watch = some { claim := e.claim, outcome := o })
      ∧ (∀ n, (t.bay n).matched = (s.bay n).matched) ∧ t.book = s.book
      ∧ t.bus = (locks.foldl State.queueLock s).bus
      ∧ t.sent .terminal (s.notice .swapEnd (.claim e.claim) o.code (x.val + 1)) := by
  set l := locks.foldl State.queueLock s with hl
  obtain ⟨lbay, lex, lbook⟩ := s.lockAll_spec locks
  rw [← hl] at lbay lex lbook
  obtain ⟨irole, irest, iex, ibook, ibus⟩ := l.clearRole_spec e.intake
  obtain ⟨trole, trest, tex, tbook, tbus⟩ := (l.clearRole e.intake).clearRole_spec e.take
  set r := (l.clearRole e.intake).clearRole e.take with hr
  obtain ⟨wex, wbook, wbus⟩ := r.placeWatch_rest watch { claim := e.claim, outcome := o }
  set w := r.placeWatch watch { claim := e.claim, outcome := o } with hw
  have wbay : ∀ n, (w.bay n).role = (r.bay n).role ∧ (w.bay n).relock = (r.bay n).relock
      ∧ (w.bay n).matched = (r.bay n).matched := fun n => by
    rw [hw, State.placeWatch_bay]
    split <;> exact ⟨rfl, rfl, rfl⟩
  have whole : s.ending x e o locks watch
      = (w.setExch x none).notify .swapEnd (.claim e.claim) o.code (exchangeNumber x) := rfl
  have clock : (w.setExch x none).clock = s.clock := by
    have inner : s.inner w := State.inner_placeWatch (State.inner_clearRole (State.inner_clearRole
      (State.inner_foldl (fun t b => State.inner_queueLock t.inner_refl b) locks s.inner_refl) e.intake) e.take) watch _
    exact (State.setExch_clock _ _ _).trans (State.inner_clock inner)
  dsimp only
  rw [whole]
  refine ⟨fun y => ?_, fun n => ?_, fun n => ?_, fun n hn => ?_, fun n => ?_, ?_, ?_, ?_⟩
  · rw [State.notify_exch, State.setExch_exch, State.exch_of (wex.trans (tex.trans (iex.trans lex)))]
  · rw [State.notify_bay, State.setExch_bay, (wbay n).1, trole, irole, lbay]
    have same : (if n ∈ locks then { s.bay n with relock := true } else s.bay n).role = (s.bay n).role := by
      split <;> rfl
    rw [same]
    split
    · next ht => rw [if_pos (.inr ht)]
    · next ht =>
      split
      · next hi => rw [if_pos (.inl hi)]
      · next hi => rw [if_neg (not_or.mpr ⟨hi, ht⟩)]
  · rw [State.notify_bay, State.setExch_bay, (wbay n).2.1, (trest n).1, (irest n).1, lbay]
    split <;> rfl
  · rw [State.notify_bay, State.setExch_bay, hw, State.placeWatch_bay, if_pos hn]
  · rw [State.notify_bay, State.setExch_bay, (wbay n).2.2, (trest n).2.1, (irest n).2.1, lbay]
    split <;> rfl
  · exact wbook.trans (tbook.trans (ibook.trans lbook))
  · exact wbus.trans (tbus.trans ibus)
  · rw [← State.notice_of_clock clock]
    exact State.sent_notify (w.setExch x none) rfl

/-- A condition of matching that the end of an exchange leaves as it is up to the hand-back. -/
theorem State.endExchange_kept {P : State → Prop} (K : KeptByMatch P) {s : State} {x : ExNo} {e : Exchange}
    (h : s.exch x = some e) {o : Outcome} {locks : List BayNo} {watch : Option BayNo}
    (k : P (s.ending x e o locks watch)) : P (s.endExchange x o locks [] watch) := by
  rw [State.endExchange_eq h]
  exact kept_ite (K.wantPass (K.expireIfDue (K.handBack k _) _)) k

/-- The end of an exchange: the table, the roles, the relock list, SWAP-END, and the claim that is handed back. -/
theorem State.endExchange_spec {s : State} {x : ExNo} {e : Exchange} (h : s.exch x = some e) (o : Outcome)
    (locks : List BayNo) (watch : Option BayNo) :
    let t := s.endExchange x o locks [] watch
    (∀ y, t.exch y = if y = x then none else s.exch y)
      ∧ (∀ n, (t.bay n).role = if e.intake = some n ∨ e.take = some n then .none else (s.bay n).role)
      ∧ (∀ n, (t.bay n).relock = if n ∈ locks then true else (s.bay n).relock)
      ∧ t.sent .terminal (s.notice .swapEnd (.claim e.claim) o.code (x.val + 1))
      ∧ (o.handsBack = true → t.notSwapping e.claim) := by
  obtain ⟨exch, roles, relocks, -, -, -, -, sent⟩ := s.ending_spec x e o locks watch
  set u := s.ending x e o locks watch with hu
  have still : u.still (s.endExchange x o locks [] watch) := State.endExchange_kept (keptByMatch_still u) h u.still_refl
  have inner : u.inner (s.endExchange x o locks [] watch) := by
    rw [State.endExchange_eq h, ← hu]
    exact State.inner_ite (State.inner_wantPass (State.inner_expireIfDue (State.inner_handBack u.inner_refl _) _))
      u.inner_refl
  refine ⟨fun y => (State.still_exch still y).trans (exch y), fun n => (still.roles n).trans (roles n),
    fun n => (still.relocks n).trans (relocks n), State.inner_sent inner sent, fun hb => ?_⟩
  rw [State.endExchange_eq h, if_pos hb]
  exact (keptByArrival_notSwapping e.claim).toTrade.toMatch.wantPass ((keptByArrival_notSwapping e.claim).toTrade.toMatch.expireIfDue
    (State.handBack_notSwapping _ _) _)

/-- The LOCK that an exchange's end queues waits after it. -/
theorem State.endExchange_lock {s : State} {x : ExNo} {e : Exchange} (h : s.exch x = some e) (o : Outcome) {b : BayNo}
    (hl : (s.bay b).link ≠ .lost) (watch : Option BayNo) : (s.endExchange x o [b] [] watch).queued b .lock := by
  obtain ⟨-, -, -, -, -, -, bus, -⟩ := s.ending_spec x e o [b] watch
  refine State.endExchange_kept (keptByMatch_queued b .lock (by decide)) h ?_
  rw [State.queued, bus]
  exact State.queueLock_queued hl

/-- An end of an exchange that only hands a claim back keeps a bay and a claim apart. -/
theorem State.apart_endExchange {s : State} {x : ExNo} {e : Exchange} (h : s.exch x = some e) {id : ClaimId} {b : BayNo}
    (hb : s.apart id b) (o : Outcome) (locks : List BayNo) (watch : Option BayNo) :
    (s.endExchange x o locks [] watch).apart id b := by
  obtain ⟨-, -, -, -, matched, book, -⟩ := s.ending_spec x e o locks watch
  have k := State.apart_of hb (matched b) book
  rw [State.endExchange_eq h]
  exact kept_ite (P := fun t => t.apart id b) (State.apart_expireIfDue (State.apart_handBack k _) _) k

end Sys2Proof.Machine
end

section
/-! A bay whose link becomes LOST (R15, R24, R70, R124, R125, R138 to R140). -/

open Sys2Proof Sys2Proof.Machine
namespace Sys2Proof.Machine

/-! ### Operations on the loss of a match -/

/-- The end of a bay's eligibility wants a plan, and GRANT-CUT for a grant above 0 (R101). -/
theorem State.edit_ends {s : State} {b : BayNo} {f : Bay → Bay} (h : s.eligible b = true)
    (hf : (f (s.bay b)).ownEligible = false) (hg : (f (s.bay b)).grant = (s.bay b).grant) :
    (s.edit b f).grants.replan = true
      ∧ ((s.bay b).grant ≠ 0 → (s.edit b f).sent .cabinet (s.notice .grantCut (.bay b) 1 0)) := by
  set t := if (s.bay b).candidacyChanged ((s.modBay b f).bay b) then (s.modBay b f).wantPass else s.modBay b f with ht
  have tbay : t.bay b = f (s.bay b) := by
    rw [ht]
    split
    · rw [State.wantPass_bay, State.modBay_bay_self]
    · rw [State.modBay_bay_self]
  have tclock : t.clock = s.clock := by
    rw [ht]
    split <;> rfl
  have ended : t.eligible b = false := by simp only [State.eligible, tbay, hf, Bool.false_and]
  have whole : s.edit b f = (t.cutGrant b).wantReplan := by
    have e : s.edit b f = t.eligibilityEdge b (s.eligible b) := rfl
    simp only [e, State.eligibilityEdge, h, ended]
  rw [whole]
  refine ⟨rfl, fun hn => ?_⟩
  have cut : t.cutGrant b = (t.modBay b (fun r => { r with grant := 0 })).notify .grantCut (.bay b)
      CutCause.eligibility.code 0 := if_neg (by rw [tbay, hg]; exact hn)
  rw [cut, ← State.notice_of_clock tclock]
  exact State.sent_notify (t.modBay b _) rfl

/-- The release of a binding before the take (R124). -/
theorem State.releaseTake_exch (s : State) (x : ExNo) (id : ClaimId) (b : BayNo) (cause : LossCause) (y : ExNo) :
    (s.releaseTake x id b cause).exch y = if y = x then (s.exch x).map (fun e => { e with take := none })
      else s.exch y := by
  have same : ∀ z, ((s.unmatch id cause).setRole b .none).exch z = s.exch z := fun z => by
    rw [State.setRole_exch]
    exact State.still_exch ((keptByMatch_still s).unmatch s.still_refl id cause) z
  rw [State.releaseTake, State.modExch_exch, same, same]

theorem State.releaseTake_role (s : State) (x : ExNo) (id : ClaimId) (b : BayNo) (cause : LossCause) :
    ((s.releaseTake x id b cause).bay b).role = .none := by
  rw [State.releaseTake, State.modExch_bay, State.setRole_role, if_pos rfl]

theorem State.releaseTake_book (s : State) (x : ExNo) (id : ClaimId) (b : BayNo) (cause : LossCause) :
    (s.releaseTake x id b cause).book = (s.unmatch id cause).book := by
  rw [State.releaseTake, State.modExch_book, State.setRole, State.edit_book]

/-- A bay that stops serving keeps its role, or has lost a TAKE role with its binding. -/
theorem State.loseMatch_role (s : State) (b : BayNo) (cause : LossCause) :
    ((s.loseMatch b cause).bay b).role = (s.bay b).role ∨ ((s.loseMatch b cause).bay b).role = .none := by
  unfold State.loseMatch
  split
  · exact .inl rfl
  · split
    · exact .inl rfl
    · split
      · unfold State.takeLoss
        split
        · split
          · exact .inl rfl
          · split
            · exact .inr (s.releaseTake_role _ _ b cause)
            · exact .inl rfl
        · exact .inl rfl
      · exact .inl (((keptByMatch_still s).unmatch s.still_refl _ cause).roles b)

/-- It moves no exchange but that of its TAKE role. -/
theorem State.loseMatch_exch {s : State} {b : BayNo} {y : ExNo} (h : (s.bay b).role ≠ .take y) (cause : LossCause) :
    (s.loseMatch b cause).exch y = s.exch y := by
  unfold State.loseMatch
  split
  · rfl
  · split
    · rfl
    · split
      · unfold State.takeLoss
        split
        · next x hx =>
          split
          · rfl
          · split
            · rw [State.releaseTake_exch, if_neg]
              rintro rfl
              exact h hx
            · rfl
        · rfl
      · exact State.still_exch ((keptByMatch_still s).unmatch s.still_refl _ cause) y

theorem State.exchangeLinkLost_exch {s : State} {b : BayNo} {y : ExNo} (h : (s.bay b).role ≠ .intake y) :
    (s.exchangeLinkLost b).exch y = s.exch y := by
  have ended : ∀ x e, (s.bay b).role = .intake x → s.exch x = some e →
      (s.endExchange x .linkLost [b] [] (some b)).exch y = s.exch y := fun x e hx he => by
    rw [(State.endExchange_spec he .linkLost [b] (some b)).1, if_neg]
    rintro rfl
    exact h hx
  unfold State.exchangeLinkLost
  split
  · next x hx =>
    split
    · rfl
    · next e he =>
      split
      · exact ended x e hx he
      · exact ended x e hx he
      · rfl
  · rfl

/-- A bay that is no intake bay before its result loses no exchange by its link. -/
theorem State.exchangeLinkLost_fast {s : State} {b : BayNo}
    (h : ∀ x e, (s.bay b).role = .intake x → s.exch x = some e → e.phase ≠ .intakeOpen ∧ e.phase ≠ .intakeCheck) :
    s.exchangeLinkLost b = s := by
  unfold State.exchangeLinkLost
  split
  · next x hx =>
    split
    · rfl
    · next e he =>
      split
      · next hp => exact absurd hp (h x e hx he).1
      · next hp => exact absurd hp (h x e hx he).2
      · rfl
  · rfl

theorem State.exchangeLinkLost_ends {s : State} {b : BayNo} {x : ExNo} {e : Exchange} (hr : (s.bay b).role = .intake x)
    (he : s.exch x = some e) (hp : e.phase = .intakeOpen ∨ e.phase = .intakeCheck) :
    s.exchangeLinkLost b = s.endExchange x .linkLost [b] [] (some b) := by
  rcases hp with hp | hp <;> simp only [State.exchangeLinkLost, hr, he, hp]

theorem State.apart_exchangeLinkLost {s : State} {id : ClaimId} {b n : BayNo} (h : s.apart id n) :
    (s.exchangeLinkLost b).apart id n := by
  unfold State.exchangeLinkLost
  split
  · split
    · exact h
    · next e he =>
      split
      · exact State.apart_endExchange he h _ _ _
      · exact State.apart_endExchange he h _ _ _
      · exact h
  · exact h

/-! ### LINK-DOWN (R140) -/

/-- LINK-DOWN raised or not: bays, exchanges, book and bus are the same. -/
theorem State.raiseLinkDown_rest (s : State) :
    (∀ n, s.raiseLinkDown.bay n = s.bay n) ∧ s.raiseLinkDown.exchanges = s.exchanges ∧ s.raiseLinkDown.book = s.book
      ∧ s.raiseLinkDown.bus = s.bus ∧ s.raiseLinkDown.settings = s.settings
      ∧ s.raiseLinkDown.grants = s.grants := by
  unfold State.raiseLinkDown
  split
  · exact ⟨fun _ => rfl, rfl, rfl, rfl, rfl, rfl⟩
  · exact ⟨fun _ => rfl, rfl, rfl, rfl, rfl, rfl⟩

theorem State.raiseLinkDown_sent {s : State} {p : Port} {n : Notice} (h : s.sent p n) : s.raiseLinkDown.sent p n := by
  unfold State.raiseLinkDown
  split
  · exact State.inner_sent (s := s.reportLinkDown) (State.inner_notify (State.inner_refl _) _ _ _ _) h
  · exact h

theorem State.allLost_iff (s : State) : s.allLost = true ↔ ∀ c, (s.bay c).link = .lost := by
  simp only [State.allLost, List.all_eq_true, decide_eq_true_eq]
  exact ⟨fun h c => h c (allBays_all.2 c), fun h c _ => h c⟩

/-! ### The stages of the loss -/

/-- The third miss: the link is LOST, with the hand-ons of R15 and BAY-LINK. -/
def State.dark (s : State) (b : BayNo) : State :=
  ((s.modBay b Bay.miss).modBus (fun u => { u with flight := none })).changeLink b .lost

/-- The match lost, the commands dropped, the admission held. -/
def State.silenced (s : State) (b : BayNo) : State :=
  (((s.dark b).loseMatch b .link).modBus (fun u => u.dropBay b)).holdAdmission b

/-- The whole arrival of the third miss. -/
def State.darkened (s : State) (b : BayNo) : State := ((s.silenced b).exchangeLinkLost b).raiseLinkDown.settle

/-- A bay record after its third miss in a row. -/
def Bay.darkened (r : Bay) : Bay := { r.miss with link := .lost }

theorem State.unanswered_lost {s : State} {b : BayNo} (hm : 2 ≤ (s.bay b).misses) (hl : (s.bay b).link ≠ .lost)
    (fl : Flight) : (s.unanswered fl b).settle = s.darkened b := by
  have third : ((s.modBay b Bay.miss).bay b).misses = 3 ∧ ((s.modBay b Bay.miss).bay b).link ≠ .lost := by
    rw [State.modBay_bay_self]
    refine ⟨?_, hl⟩
    show min 3 ((s.bay b).misses + 1) = 3
    omega
  have whole : s.unanswered fl b = ((s.modBay b Bay.miss).modBus (fun u => { u with flight := none })).loseLink b :=
    if_pos third
  rw [whole]
  rfl

theorem State.dark_bay (s : State) (b : BayNo) :
    (∃ g, (s.dark b).bay b = { (s.bay b).darkened with grant := g } ∧ (s.eligible b = true → g = 0))
      ∧ ∀ n, n ≠ b → (s.dark b).bay n = s.bay n := by
  set m := (s.modBay b Bay.miss).modBus (fun u => { u with flight := none }) with hm
  have mbay : m.bay b = (s.bay b).miss := by rw [hm, State.modBus_bay, State.modBay_bay_self]
  have dark : s.dark b = (m.edit b (fun r => { r with link := .lost })).notify .bayLink (.bay b) (Link.lost.code + 1) 0 := rfl
  have same : m.eligible b = s.eligible b := by simp only [State.eligible, mbay]; rfl
  obtain ⟨g, -, hg⟩ := m.edit_bay_self b (fun r => { r with link := .lost })
  refine ⟨⟨g, ?_, fun h => ?_⟩, fun n hn => ?_⟩
  · rw [dark, State.notify_bay, hg, mbay]
    rfl
  · have z := m.edit_grant_zero b (fun r => { r with link := .lost }) (same.trans h) (by simp [Bay.ownEligible])
    rwa [hg] at z
  · rw [dark, State.notify_bay, State.edit_bay_other _ _ hn, hm, State.modBus_bay, State.modBay_bay_other _ _ _ _ hn]

theorem State.dark_rest (s : State) (b : BayNo) :
    (s.dark b).exchanges = s.exchanges ∧ (s.dark b).book = s.book
      ∧ (s.dark b).sent .gateway (s.notice .bayLink (.bay b) 3 0)
      ∧ (s.eligible b = true → (s.dark b).grants.replan = true
          ∧ ((s.bay b).grant ≠ 0 → (s.dark b).sent .cabinet (s.notice .grantCut (.bay b) 1 0))) := by
  set m := (s.modBay b Bay.miss).modBus (fun u => { u with flight := none }) with hm
  have mbay : m.bay b = (s.bay b).miss := by rw [hm, State.modBus_bay, State.modBay_bay_self]
  have dark : s.dark b = (m.edit b (fun r => { r with link := .lost })).notify .bayLink (.bay b) (Link.lost.code + 1) 0 := rfl
  have same : m.eligible b = s.eligible b := by simp only [State.eligible, mbay]; rfl
  have clock : (m.edit b (fun r => { r with link := .lost })).clock = s.clock := by
    obtain ⟨settings, -⟩ := m.edit_same b (fun r => { r with link := .lost })
    exact congrArg (fun x => x.2.2.1) settings
  rw [dark]
  refine ⟨m.edit_exchanges b _, m.edit_book b _, ?_, fun h => ?_⟩
  · rw [← State.notice_of_clock clock]
    exact State.sent_notify _ rfl
  · obtain ⟨replan, cut⟩ := State.edit_ends (f := fun r => { r with link := .lost }) (same.trans h)
      (by simp [Bay.ownEligible]) rfl
    refine ⟨replan, fun hn => State.inner_sent (State.inner_notify (State.inner_refl _) _ _ _ _) (cut ?_)⟩
    rw [mbay]
    exact hn

theorem State.silenced_rest (s : State) (b : BayNo) :
    (∀ n, (s.silenced b).bay n = if n = b then { ((s.dark b).loseMatch b .link).bay b with
        admission := (((s.dark b).loseMatch b .link).bay b).admission.map (fun a => { a with held := true }) }
      else ((s.dark b).loseMatch b .link).bay n)
      ∧ (s.silenced b).exchanges = ((s.dark b).loseMatch b .link).exchanges
      ∧ (s.silenced b).book = ((s.dark b).loseMatch b .link).book := by
  refine ⟨fun n => ?_, rfl, rfl⟩
  rw [State.silenced, State.holdAdmission, State.modBay_bay]
  rfl

theorem State.dark_inner (s : State) (b : BayNo) : (s.modBay b Bay.darkened).inner (s.dark b) := by
  refine State.inner_trans ?_ (State.changeLink_inner _ b .lost)
  have e : s.modBay b Bay.darkened = (s.modBay b Bay.miss).modBay b (fun r => { r with link := .lost }) := by
    rw [State.modBay_modBay]
    rfl
  rw [e]
  exact State.inner_modBay_both (State.inner_modBus (State.inner_refl _) (by exact fun _ => rfl)) b
    (fun _ _ k => by simp only [Bay.kept, Bay.reported, Prod.mk.injEq] at k ⊢; simp [k]) fun _ => rfl

theorem State.silenced_inner (s : State) (b : BayNo) : (s.dark b).inner (s.silenced b) :=
  State.inner_holdAdmission (State.inner_modBus (State.inner_loseMatch (State.inner_refl _) b .link)
    (by exact fun _ => rfl)) b

/-- What is sent or cut by the loss of the link or of the match stays so to the arrival's end. -/
theorem State.darkened_sent {s : State} {b : BayNo} {p : Port} {n : Notice}
    (h : ((s.silenced b).exchangeLinkLost b).sent p n) : (s.darkened b).sent p n :=
  State.inner_sent (State.inner_settle (State.inner_refl _)) (State.raiseLinkDown_sent h)

theorem State.silenced_sent {s : State} {b : BayNo} {p : Port} {n : Notice} (h : (s.silenced b).sent p n) :
    (s.darkened b).sent p n :=
  State.darkened_sent (State.inner_sent (State.inner_exchangeLinkLost (State.inner_refl _) b) h)

theorem State.darkened_kept {P : State → Prop} (K : KeptByTrade P) {s : State} {b : BayNo} (h : P (s.silenced b)) :
    P (s.darkened b) := K.toMatch.settle (K.raiseLinkDown (K.exchangeLinkLost h b))

/-- The records of the arrival, but for LINK-DOWN: the bay's, and operations within an arrival. -/
theorem State.darkened_inner (s : State) (b : BayNo) :
    (s.modBay b Bay.darkened).inner ((s.silenced b).exchangeLinkLost b)
      ∧ ((s.silenced b).exchangeLinkLost b).raiseLinkDown.inner (s.darkened b) :=
  ⟨State.inner_exchangeLinkLost (State.inner_trans (s.dark_inner b) (s.silenced_inner b)) b,
    State.inner_settle (State.inner_refl _)⟩

end Sys2Proof.Machine
end

section
/-! What a bay whose link becomes LOST keeps and loses, its claim and its exchange (R15, R24, R70, R124, R125). -/

open Sys2Proof Sys2Proof.Machine
namespace Sys2Proof.Machine

theorem State.termsKept_of_book {s t u : State} (h : s.termsKept t) (k : u.book = t.book) : s.termsKept u :=
  fun id d hd => h id d (by rwa [State.claim?_of_book k] at hd)

/-- A watch entry outlasts matching. -/
theorem keptByMatch_watch (b : BayNo) (w : Option Watch) : KeptByMatch (fun t => (t.bay b).watch = w) where
  aside {t u} h k _ _ := by rw [State.bay_of_bays k.bays]; exact h
  claim _ h := h
  close h := h
  matched {t c m} h := by
    show ((t.modBay c _).bay b).watch = w
    rw [State.modBay_bay]
    split
    · next e => rw [← e]; exact h
    · exact h
  fill {t c} h := by
    obtain ⟨-, -, -, -, -, -, -, base, -⟩ := State.same_fillTest t.sameButMatches_refl c
    exact (congrArg Bay.watch (base b)).trans h

section
variable (s : State) (b : BayNo)

/-! ### From the loss of the match to the arrival's end -/

theorem State.dark_link : ((s.dark b).bay b).link = .lost := by
  obtain ⟨⟨g, hg, -⟩, -⟩ := s.dark_bay b
  rw [hg]
  rfl

theorem State.dark_clock : (s.dark b).clock = s.clock := (State.inner_clock (s.dark_inner b)).trans rfl

theorem State.dark_claim? (id : ClaimId) : (s.dark b).claim? id = s.claim? id :=
  State.claim?_of_book (s.dark_rest b).2.1 id

theorem State.dark_exch (x : ExNo) : (s.dark b).exch x = s.exch x := State.exch_of (s.dark_rest b).1 x

/-- The end of the arrival leaves the bay's record, which no claim can choose, but for the end of its exchange. -/
theorem State.darkened_passesBy :
    State.passesBy b ((s.silenced b).exchangeLinkLost b).raiseLinkDown (s.darkened b) := by
  refine State.settle_passesBy _ (Bay.unfit_of_link ?_)
  have inner := (s.darkened_inner b).1
  rw [(State.raiseLinkDown_rest _).1, (State.inner_reads inner b).2.2.2, State.modBay_bay_self]
  exact nofun

theorem State.darkened_apart {id : ClaimId} (h : ((s.dark b).loseMatch b .link).apart id b) :
    (s.darkened b).apart id b := by
  obtain ⟨sbay, -, sbook⟩ := s.silenced_rest b
  have held : (s.silenced b).apart id b := State.apart_of h (by rw [sbay, if_pos rfl]) sbook
  have lost := State.apart_exchangeLinkLost (b := b) held
  obtain ⟨rbay, -, rbook, -⟩ := ((s.silenced b).exchangeLinkLost b).raiseLinkDown_rest
  obtain ⟨bay, claims⟩ := s.darkened_passesBy b
  exact ⟨by rw [bay, rbay]; exact lost.1, claims id (State.notOn_of_book lost.2 rbook)⟩

theorem State.lostMatch_sent {p : Port} {n : Notice} (h : ((s.dark b).loseMatch b .link).sent p n) :
    (s.darkened b).sent p n :=
  State.silenced_sent (State.inner_sent (State.inner_holdAdmission (State.inner_modBus (State.inner_refl _)
    (by exact fun _ => rfl)) b) h)

/-- The claims that are open after the loss were open before, with the same terms. -/
theorem State.darkened_terms : s.termsKept (s.darkened b) := by
  have K := (keptByArrival_terms s).toTrade
  have dark := State.termsKept_of_book s.termsKept_refl (s.dark_rest b).2.1
  have silenced := State.termsKept_of_book (K.loseMatch dark b .link) (s.silenced_rest b).2.2
  exact State.darkened_kept K silenced

/-- When the exchange stands, the table and the roles are as the loss of the match has left them. -/
theorem State.darkened_fast (h : (s.silenced b).exchangeLinkLost b = s.silenced b) :
    (s.silenced b).quiet (s.darkened b) := by
  have raised : (s.silenced b).quiet (s.silenced b).raiseLinkDown := by
    obtain ⟨bays, exchanges, book, bus, -⟩ := (s.silenced b).raiseLinkDown_rest
    exact ⟨⟨exchanges, fun c => by rw [bays], fun c => by rw [bays], fun _ _ => by rw [Bus.waiting, bus]; rfl⟩,
      State.swapKept_of_book (State.swapKept_refl _) book⟩
  rw [State.darkened, h]
  exact State.quiet_trans raised (State.settle_quiet _)

/-! ### The record (R15, R24, R101) -/

theorem State.darkened_record :
    let t := s.darkened b
    (t.bay b).pack = (s.bay b).pack
      ∧ (t.bay b).admission = (s.bay b).admission.map (fun a => { a with held := true })
      ∧ ((s.bay b).state = .admitting → (t.bay b).state = .admitting) := by
  obtain ⟨⟨g, hg, -⟩, -⟩ := s.dark_bay b
  obtain ⟨sbay, -, -⟩ := s.silenced_rest b
  obtain ⟨pack, -, admission, -, -, -, -, -, state⟩ := Bay.calm_fields
    (((keptByTrade_calm (s.dark b)).loseMatch (State.calmSame_refl _) b .link).1 b)
  obtain ⟨tpack, -, tadm, -, -, -, -, -, tstate⟩ := Bay.calm_fields
    ((State.darkened_kept (keptByTrade_calm (s.silenced b)) (State.calmSame_refl _)).1 b)
  rw [sbay, if_pos rfl] at tpack tadm tstate
  rw [hg] at pack admission state
  dsimp only at tpack tadm tstate pack admission state
  refine ⟨tpack.trans pack, tadm.trans (by rw [admission]; rfl), fun h => ?_⟩
  have mid : (((s.dark b).loseMatch b .link).bay b).state = .admitting :=
    (state (by simp [Bay.holdsCharged, Bay.darkened, Bay.miss, h])).trans h
  exact (tstate (by simp [Bay.holdsCharged, mid])).trans mid

theorem State.darkened_grant (h : s.eligible b = true) :
    let t := s.darkened b
    (t.bay b).grant = 0 ∧ t.grants.replan = true
      ∧ ((s.bay b).grant ≠ 0 → t.sent .cabinet (s.notice .grantCut (.bay b) 1 0)) := by
  obtain ⟨⟨g, hg, hz⟩, -⟩ := s.dark_bay b
  obtain ⟨-, -, -, ends⟩ := s.dark_rest b
  obtain ⟨replan, sent⟩ := ends h
  have inner := State.inner_exchangeLinkLost (s.silenced_inner b) b
  have le1 := (State.inner_bay inner b).2.2.2.2.2.2
  have le2 := (State.inner_bay (s.darkened_inner b).2 b).2.2.2.2.2.2
  rw [(State.raiseLinkDown_rest _).1] at le2
  rw [hg] at le1
  dsimp only at le1
  have planned : (s.silenced b).grants.replan = true := keptByArrival_planWanted.toTrade.loseMatch replan b .link
  exact ⟨Nat.le_zero.mp (hz h ▸ le2.trans le1), State.darkened_kept keptByArrival_planWanted.toTrade planned,
    fun hn => State.darkened_sent (State.inner_sent inner (sent hn))⟩

/-! ### The claim (R70) -/

/-- A MATCHED or READY claim is unmatched from the bay. -/
theorem State.darkened_claim {c : Claim} (hm : (s.bay b).matched = some c.id) (hc : s.claim? c.id = some c)
    (hb : c.takeBay = some b) (hs : c.state ≠ .swapping) :
    (s.darkened b).apart c.id b
      ∧ (s.darkened b).sent .gateway (s.notice .claimUnmatched (.claim c.id) 3 (bayNumber b)) := by
  obtain ⟨⟨g, hg, -⟩, -⟩ := s.dark_bay b
  have hc' : (s.dark b).claim? c.id = some c := (s.dark_claim? b c.id).trans hc
  have lost : (s.dark b).loseMatch b .link = (s.dark b).unmatch c.id .link :=
    State.loseMatch_unmatch (by rw [hg]; exact hm) hc' hs _
  refine ⟨s.darkened_apart b ?_, s.lostMatch_sent b ?_⟩
  · rw [lost]
    exact ⟨State.unmatch_bay_matched hc' hb _, State.unmatch_notOn hc' hb _ b⟩
  · rw [lost, ← State.notice_of_clock (s.dark_clock b)]
    exact State.unmatch_sent hc' hb _

/-! ### The exchange (R124, R125) -/

theorem State.dark_role : ((s.dark b).bay b).role = (s.bay b).role ∧ ((s.dark b).bay b).matched = (s.bay b).matched := by
  obtain ⟨⟨g, hg, -⟩, -⟩ := s.dark_bay b
  rw [hg]
  exact ⟨rfl, rfl⟩

theorem State.silenced_exch (x : ExNo) : (s.silenced b).exch x = ((s.dark b).loseMatch b .link).exch x :=
  State.exch_of (s.silenced_rest b).2.1 x

theorem State.silenced_role : ((s.silenced b).bay b).role = (((s.dark b).loseMatch b .link).bay b).role := by
  rw [(s.silenced_rest b).1, if_pos rfl]

/-- No other exchange moves. -/
theorem State.darkened_other {y : ExNo} (hi : (s.bay b).role ≠ .intake y) (ht : (s.bay b).role ≠ .take y) :
    (s.darkened b).exch y = s.exch y := by
  have role := (s.dark_role b).1
  have intake : ((s.silenced b).bay b).role ≠ .intake y := by
    rw [s.silenced_role]
    rcases (s.dark b).loseMatch_role b .link with e | e <;> rw [e]
    · rw [role]
      exact hi
    · exact nofun
  have settle := State.still_exch (State.settle_quiet ((s.silenced b).exchangeLinkLost b).raiseLinkDown).still y
  rw [State.darkened, settle, State.exch_of (State.raiseLinkDown_rest _).2.1, State.exchangeLinkLost_exch intake,
    s.silenced_exch, State.loseMatch_exch (by rw [role]; exact ht), s.dark_exch]

/-- A bay that is no take bay loses a match without its exchange. -/
theorem State.silenced_intake {x : ExNo} (hr : (s.bay b).role = .intake x) :
    (∀ y, (s.silenced b).exch y = s.exch y) ∧ ((s.silenced b).bay b).role = .intake x := by
  have role := (s.dark_role b).1
  have quiet := State.loseMatch_quiet (s := s.dark b) (b := b)
    (by rw [role, hr]; exact nofun) .link
  refine ⟨fun y => ?_, ?_⟩
  · rw [s.silenced_exch, State.still_exch quiet.still, s.dark_exch]
  · rw [s.silenced_role, quiet.still.roles, role, hr]

/-- The intake bay in INTAKE-OPEN and INTAKE-CHECK ends its exchange LINK-LOST. -/
theorem State.darkened_ends {x : ExNo} {e : Exchange} (hr : (s.bay b).role = .intake x) (he : s.exch x = some e)
    (hp : e.phase = .intakeOpen ∨ e.phase = .intakeCheck) :
    let t := s.darkened b
    t.exch x = none ∧ (∀ n, e.intake = some n ∨ e.take = some n → (t.bay n).role = .none) ∧ (t.bay b).relock = true
      ∧ (t.bay b).watch = some { claim := e.claim, outcome := .linkLost }
      ∧ t.sent .terminal (s.notice .swapEnd (.claim e.claim) 7 (x.val + 1)) ∧ t.notSwapping e.claim := by
  obtain ⟨exch, role⟩ := s.silenced_intake b hr
  have hx : (s.silenced b).exch x = some e := (exch x).trans he
  have lost := State.exchangeLinkLost_ends role hx hp
  obtain ⟨gone, roles, relocks, sent, free⟩ := State.endExchange_spec hx .linkLost [b] (some b)
  obtain ⟨-, -, -, watched, -⟩ := (s.silenced b).ending_spec x e .linkLost [b] (some b)
  have watch := State.endExchange_kept (keptByMatch_watch b _) hx (watched b rfl)
  rw [← lost] at gone roles relocks sent free watch
  obtain ⟨bays, exchanges, book, -⟩ := ((s.silenced b).exchangeLinkLost b).raiseLinkDown_rest
  have settle := (State.settle_quiet ((s.silenced b).exchangeLinkLost b).raiseLinkDown).still
  have clock : (s.silenced b).clock = s.clock := (State.inner_clock (s.silenced_inner b)).trans (s.dark_clock b)
  refine ⟨?_, fun n hn => ?_, ?_, ?_, ?_, ?_⟩
  · rw [State.darkened, State.still_exch settle, State.exch_of exchanges, gone, if_pos rfl]
  · rw [State.darkened, settle.roles, bays, roles, if_pos hn]
  · rw [State.darkened, settle.relocks, bays, relocks, if_pos (List.mem_singleton.mpr rfl)]
  · exact (keptByMatch_watch b _).settle (by rw [bays]; exact watch)
  · rw [← State.notice_of_clock clock]
    exact State.darkened_sent sent
  · exact (keptByArrival_notSwapping e.claim).toTrade.toMatch.settle
      (State.notSwapping_of_book (free rfl) book)

/-- In the other phases the intake bay's exchange stands. -/
theorem State.darkened_intake_stands {x : ExNo} {e : Exchange} (hr : (s.bay b).role = .intake x)
    (he : s.exch x = some e) (ho : e.phase ≠ .intakeOpen) (hc : e.phase ≠ .intakeCheck) :
    (s.darkened b).exch x = some e ∧ ((s.darkened b).bay b).role = (s.bay b).role := by
  obtain ⟨exch, role⟩ := s.silenced_intake b hr
  have quiet := s.darkened_fast b (State.exchangeLinkLost_fast fun y f hy hf => by
    obtain rfl := Role.intake.inj (role.symm.trans hy)
    obtain rfl := Option.some.inj (((exch x).trans he).symm.trans hf)
    exact ⟨ho, hc⟩)
  exact ⟨(State.still_exch quiet.still x).trans ((exch x).trans he), (quiet.still.roles b).trans (role.trans hr.symm)⟩

/-- Before the take the take bay's binding is released. -/
theorem State.darkened_released {x : ExNo} {e : Exchange} {c : Claim} (hr : (s.bay b).role = .take x)
    (he : s.exch x = some e) (ho : e.phase ≠ .takeOpen) (hp : e.phase ≠ .takeClosing)
    (hm : (s.bay b).matched = some e.claim) (hc : s.claim? e.claim = some c) (hs : c.state = .swapping)
    (hb : c.takeBay = some b) :
    let t := s.darkened b
    t.exch x = some { e with take := none } ∧ (t.bay b).role = .none ∧ t.apart e.claim b
      ∧ t.sent .gateway (s.notice .claimUnmatched (.claim e.claim) 3 (bayNumber b))
      ∧ t.claim? e.claim = some c.unbound := by
  obtain ⟨role, matched⟩ := s.dark_role b
  have hc' : (s.dark b).claim? e.claim = some c := (s.dark_claim? b _).trans hc
  have before : e.phase.beforeTake = true := by cases h : e.phase <;> simp_all [Phase.beforeTake]
  have lost : (s.dark b).loseMatch b .link = (s.dark b).releaseTake x e.claim b .link := by
    simp only [State.loseMatch, matched.trans hm, hc', hs, if_true, State.takeLoss, role.trans hr,
      (s.dark_exch b x).trans he, before]
  have srole : ((s.silenced b).bay b).role = .none := by rw [s.silenced_role, lost, State.releaseTake_role]
  have quiet := s.darkened_fast b (State.exchangeLinkLost_fast fun y f hy _ => by rw [srole] at hy; cases hy)
  have inner : ((s.dark b).unmatch e.claim .link).inner ((s.dark b).releaseTake x e.claim b .link) :=
    State.inner_modExch (State.inner_setRole (State.inner_refl _) b .none) x _
  have book : (s.silenced b).book = ((s.dark b).unmatch e.claim .link).book :=
    (s.silenced_rest b).2.2.trans (by rw [lost, State.releaseTake_book])
  have claim : (s.silenced b).claim? e.claim = some c.unbound := by
    rw [State.claim?_of_book book, State.unmatch_claim? hc' hb, if_pos rfl]
  refine ⟨?_, (quiet.still.roles b).trans srole, s.darkened_apart b ?_, s.lostMatch_sent b ?_,
    quiet.swaps _ _ claim (by simp [Claim.unbound, hs])⟩
  · rw [State.still_exch quiet.still, s.silenced_exch, lost, State.releaseTake_exch, if_pos rfl, s.dark_exch, he]
    rfl
  · rw [lost]
    refine State.apart_of (s := (s.dark b).unmatch e.claim .link)
      ⟨State.unmatch_bay_matched hc' hb _, State.unmatch_notOn hc' hb _ b⟩ ?_ (State.releaseTake_book _ _ _ _ _)
    rw [State.releaseTake, State.modExch_bay]
    exact (State.setRole_rest _ b .none b).2.1
  · rw [lost, ← State.notice_of_clock (s.dark_clock b)]
    exact State.inner_sent inner (State.unmatch_sent hc' hb _)

/-- In the take the exchange, the role and the binding stand. -/
theorem State.darkened_take_stands {x : ExNo} {e : Exchange} (hr : (s.bay b).role = .take x) (he : s.exch x = some e)
    (hp : e.phase = .takeOpen ∨ e.phase = .takeClosing) :
    let t := s.darkened b
    t.exch x = some e ∧ (t.bay b).role = (s.bay b).role
      ∧ ∀ c, s.claim? e.claim = some c → c.state = .swapping → (s.bay b).matched = some e.claim →
          (t.bay b).matched = (s.bay b).matched ∧ t.claim? e.claim = some c := by
  obtain ⟨role, matched⟩ := s.dark_role b
  have hx : (s.dark b).exch x = some e := (s.dark_exch b x).trans he
  have past : e.phase.beforeTake = false := by rcases hp with h | h <;> simp [h, Phase.beforeTake]
  have lose := State.loseMatch_quiet (s := s.dark b) (b := b) (fun y f hy hf => by
    obtain rfl := Role.take.inj ((role.trans hr).symm.trans hy)
    obtain rfl := Option.some.inj (hx.symm.trans hf)
    exact past) .link
  have srole : ((s.silenced b).bay b).role = .take x := by rw [s.silenced_role, lose.still.roles, role, hr]
  have stay : (s.silenced b).exchangeLinkLost b = s.silenced b :=
    State.exchangeLinkLost_fast fun y f hy _ => by rw [srole] at hy; cases hy
  have quiet := s.darkened_fast b stay
  refine ⟨?_, (quiet.still.roles b).trans (srole.trans hr.symm), fun c hc hs hm => ?_⟩
  · rw [State.still_exch quiet.still, s.silenced_exch, State.still_exch lose.still, hx]
  · have hc' : (s.dark b).claim? e.claim = some c := (s.dark_claim? b _).trans hc
    have same : (s.dark b).loseMatch b .link = s.dark b := by
      simp only [State.loseMatch, matched.trans hm, hc', hs, if_true, State.takeLoss, role.trans hr, hx, past,
        Bool.false_eq_true, if_false]
    have held : (s.silenced b).claim? e.claim = some c :=
      (State.claim?_of_book (s.silenced_rest b).2.2 _).trans (by rw [same, hc'])
    obtain ⟨bay, -⟩ := s.darkened_passesBy b
    refine ⟨?_, quiet.swaps _ _ held hs⟩
    rw [bay, (State.raiseLinkDown_rest _).1, stay, (s.silenced_rest b).1, if_pos rfl, same]
    exact matched

/-! ### The commands (R139) -/

/-- A LOST bay for which nothing waits. -/
theorem keptByTrade_emptied : KeptByTrade (fun t => (t.bay b).link = .lost ∧ ∀ k ∈ t.bus.waiting, k.bay ≠ b) where
  aside {t u} h k _ := ⟨by rw [State.bay_of_bays k.bays]; exact h.1, by rw [Bus.waiting, k.queue, k.overflow]; exact h.2⟩
  claim _ h := h
  close h := h
  record {t c f} hf h := by
    refine ⟨?_, h.2⟩
    rw [State.modBay_bay]
    split
    · next e =>
      obtain ⟨-, -, -, -, -, link⟩ := Bay.core_fields (hf (t.bay c))
      rw [link, ← e]
      exact h.1
    · exact h.1
  door {t c k} _ h := by
    refine ⟨by rw [State.queueCmd_bay]; exact h.1, fun e he => ?_⟩
    rw [State.mem_queueCmd] at he
    split at he
    · exact h.2 e he
    · next hl =>
      rcases he with ⟨he, -⟩ | rfl
      · exact h.2 e he
      · rintro rfl
        exact hl h.1
  fill {t c} h := by
    have link : ∀ f : Bay → Bay, (∀ r, (f r).link = r.link) → ((t.edit c f).bay b).link = .lost := fun f hf => by
      rw [State.edit_bay]
      split
      · next e => rw [hf, ← e]; exact h.1
      · exact h.1
    have placed : ∀ (f : Bay → Bay) (d : BusCmd), (∀ r, (f r).link = r.link) →
        (((t.edit c f).queueCmd c d).bay b).link = .lost
          ∧ ∀ k ∈ ((t.edit c f).queueCmd c d).bus.waiting, k.bay ≠ b := fun f d hf => by
      refine ⟨by rw [State.queueCmd_bay]; exact link f hf, fun e he => ?_⟩
      rw [State.mem_queueCmd, State.edit_bus] at he
      split at he
      · exact h.2 e he
      · next hl =>
        rcases he with ⟨he, -⟩ | rfl
        · exact h.2 e he
        · rintro rfl
          exact hl (link f hf)
    rcases t.fillTest_cases c with e | ⟨p, -, -, -, e⟩ | ⟨p, -, -, -, e⟩ <;> rw [e]
    · exact h
    · exact placed _ _ fun _ => rfl
    · exact placed _ _ fun _ => rfl

theorem State.darkened_emptied : ∀ k ∈ (s.darkened b).bus.waiting, k.bay ≠ b := by
  have link : ((s.silenced b).bay b).link = .lost :=
    (State.inner_reads (s.silenced_inner b) b).2.2.2.trans (s.dark_link b)
  have start : ∀ k ∈ (s.silenced b).bus.waiting, k.bay ≠ b := fun k hk =>
    ((Bus.mem_dropBay ((s.dark b).loseMatch b .link).bus b k).mp hk).2
  exact (State.darkened_kept (keptByTrade_emptied b) ⟨link, start⟩).2

end

end Sys2Proof.Machine
end

section
/-! A transaction without an accepted reply (R129, R132, R135, R138). -/

open Sys2Proof Sys2Proof.Machine
namespace Sys2Proof.Machine

/-! ### The READY tests write no command -/

theorem State.retest_bus (s : State) (id : ClaimId) : (s.retest id).bus = s.bus ∧ (s.retest id).passDue = s.passDue := by
  have ready : ∀ n, (s.enterReady id n).bus = s.bus ∧ (s.enterReady id n).passDue = s.passDue := fun n => by
    unfold State.enterReady
    split
    · exact ⟨rfl, rfl⟩
    · dsimp only
      split
      · exact ⟨rfl, rfl⟩
      · split
        · exact ⟨rfl, rfl⟩
        · exact ⟨State.countTime_bus _ _, State.countTime_passDue _ _⟩
  unfold State.retest
  split
  · exact ⟨rfl, rfl⟩
  · split
    · split
      · exact ready _
      · exact ⟨rfl, rfl⟩
    · split <;> exact ⟨rfl, rfl⟩
    · exact ⟨rfl, rfl⟩

/-- An arrival that owes no pass writes no command at its end. -/
theorem State.settle_bus {s : State} (h : s.passDue = false) : s.settle.bus = s.bus := by
  have tests : s.retestAll.bus = s.bus ∧ s.retestAll.passDue = s.passDue :=
    kept_foldl (P := fun t => t.bus = s.bus ∧ t.passDue = s.passDue) (fun u a k =>
      ⟨(u.retest_bus a).1.trans k.1, (u.retest_bus a).2.trans k.2⟩) _ ⟨rfl, rfl⟩
  have whole : s.settle = { s.retestAll with passDue := false } := by
    unfold State.settle
    dsimp only
    rw [tests.2, h]
    rfl
  rw [whole]
  exact tests.1

/-! ### The queue (R133) -/

theorem Bus.append_waiting {u : Bus} (h : u.count < queueRoom → u.overflow = []) (e : Entry) :
    (u.append e).waiting = u.waiting ++ [e] := by
  unfold Bus.append
  split
  · next hc => simp [Bus.waiting, h hc]
  · simp [Bus.waiting]

/-- Once a transaction has ended nothing is in overflow while the queue has room. -/
theorem Bus.land_room (u : Bus) (h : u.land.count < queueRoom) : u.land.overflow = [] := by
  have landed : u.land.queue = u.queue ++ u.overflow.take (queueRoom - u.queue.length)
      ∧ u.land.overflow = u.overflow.drop (queueRoom - u.queue.length) ∧ u.land.count = u.land.queue.length :=
    ⟨rfl, rfl, rfl⟩
  obtain ⟨hq, ho, hc⟩ := landed
  rw [hc, hq, List.length_append, List.length_take] at h
  rw [ho, List.drop_eq_nil_iff]
  omega

/-- A command placed where none of its bay and group waits stands at the tail. -/
theorem Bus.place_tail {u : Bus} (hf : u.flight = none) (hc : u.count < queueRoom → u.overflow = []) {b : BayNo}
    {c : BusCmd} (h : ∀ k ∈ u.waiting, ¬(k.bay = b ∧ k.cmd.group = c.group)) :
    (u.place b c).waiting = u.waiting ++ [{ bay := b, cmd := c, attempts := 0 }] := by
  have all : ∀ k ∈ u.waiting, (!k.isFor b c.group) = true := fun k hk => by
    rw [Bool.not_eq_true', Bool.eq_false_iff, ne_eq, Entry.isFor_iff]
    exact h k hk
  have queue : u.queue.filter (fun e => !e.isFor b c.group) = u.queue :=
    List.filter_eq_self.mpr fun k hk => all k (List.mem_append_left _ hk)
  have overflow : u.overflow.filter (fun e => !e.isFor b c.group) = u.overflow :=
    List.filter_eq_self.mpr fun k hk => all k (List.mem_append_right _ hk)
  have dropped : u.drop b c.group = u := by rw [Bus.drop, queue, overflow]
  rw [Bus.place, dropped, Bus.release_idle hf, Bus.append_waiting hc]

/-- All commands that wait for a bay and group are on their first attempt. -/
theorem keptByArrival_fresh (b : BayNo) (g : CmdGroup) :
    KeptByArrival (fun t => ∀ k ∈ t.bus.waiting, k.bay = b → k.cmd.group = g → k.attempts = 0) where
  aside h k := by rw [Bus.waiting, k.queue, k.overflow]; exact h
  claim _ h := h
  close h := h
  record h := h
  queue {t c d} h k hk hb hg := by
    rw [State.mem_queueCmd] at hk
    split at hk
    · exact h k hk hb hg
    · rcases hk with ⟨hk, -⟩ | rfl
      · exact h k hk hb hg
      · rfl
  identify {t c n} h k hk hb hg := by
    rcases (Bus.mem_place t.bus c (.identify n) k).mp hk with ⟨hk, -⟩ | rfl
    · exact h k hk hb hg
    · rfl
  withdraw {t c} h k hk hb hg := h k ((Bus.mem_withdraw t.bus c .identify k).mp hk).1 hb hg

/-- By the queue's rules nothing waits for the bay and group of the command in flight. -/
theorem Bus.ok_flight {u : Bus} {e : Entry} (h : u.ok) (hf : u.flight = some (.command e true)) :
    ∀ k ∈ u.waiting, ¬(k.bay = e.bay ∧ k.cmd.group = e.cmd.group) := by
  obtain ⟨-, -, pairs⟩ := h
  rw [hf] at pairs
  intro k hk hbad
  exact List.rel_of_pairwise_cons pairs hk ⟨hbad.1.symm, hbad.2.symm⟩

/-! ### A miss that leaves the bay its link -/

section
variable {s : State} {b : BayNo} (h : ¬(2 ≤ (s.bay b).misses ∧ (s.bay b).link ≠ .lost))
include h

theorem State.unanswered_else (fl : Flight) :
    s.unanswered fl b =
      if (s.bay b).link = .lost then (s.modBay b Bay.miss).modBus Bus.land
      else match fl with
        | .command e true => (s.modBay b Bay.miss).retryCommand e
        | _ => (s.modBay b Bay.miss).modBus Bus.land := by
  have early : ¬(((s.modBay b Bay.miss).bay b).misses = 3 ∧ ((s.modBay b Bay.miss).bay b).link ≠ .lost) := by
    rw [State.modBay_bay_self]
    rintro ⟨hm, hl⟩
    have hm : min 3 ((s.bay b).misses + 1) = 3 := hm
    exact h ⟨by omega, hl⟩
  have link : ((s.modBay b Bay.miss).bay b).link = (s.bay b).link := by rw [State.modBay_bay_self]; rfl
  rw [← link]
  exact if_neg early

theorem State.unanswered_inner (fl : Flight) : (s.modBay b Bay.miss).inner (s.unanswered fl b).settle := by
  refine State.inner_settle ?_
  rw [State.unanswered_else h]
  split
  · exact State.inner_land (State.inner_refl _)
  · split
    · exact State.inner_retryCommand (State.inner_refl _) _
    · exact State.inner_land (State.inner_refl _)

theorem State.unanswered_idle (fl : Flight) : (s.unanswered fl b).settle.bus.flight = none := by
  refine keptByArrival_idle.toTrade.toMatch.settle ?_
  rw [State.unanswered_else h]
  split
  · rfl
  · split
    · unfold State.retryCommand
      split
      · rfl
      · exact keptByArrival_idle.commandFailed rfl _ _
    · rfl

end

/-- Before its third attempt a command goes back to the tail (R135). -/
theorem State.unanswered_retry {s : State} {b : BayNo} (hm : (s.bay b).misses < 2) (hl : (s.bay b).link ≠ .lost)
    {e : Entry} (ha : e.attempts < 2) (hp : s.passDue = false) :
    let t := (s.unanswered (.command e true) b).settle
    t.bus.queue = s.bus.queue ++ [{ e with attempts := e.attempts + 1 }] ∧ t.bus.overflow = s.bus.overflow := by
  have retry : s.unanswered (.command e true) b = (s.modBay b Bay.miss).modBus (fun u =>
      { u with flight := none, queue := u.queue ++ [{ e with attempts := e.attempts + 1 }] }) := by
    rw [State.unanswered_else (fun k => by omega), if_neg hl]
    exact if_pos (by omega)
  dsimp only
  rw [retry, State.settle_bus (s := (s.modBay b Bay.miss).modBus _) hp]
  exact ⟨rfl, rfl⟩

/-- On its third attempt it is dropped and its owner told (R135). -/
theorem State.unanswered_dropped {s : State} {b : BayNo} (hm : (s.bay b).misses < 2) (hl : (s.bay b).link ≠ .lost)
    {e : Entry} (ha : 2 ≤ e.attempts) :
    s.unanswered (.command e true) b = ((s.modBay b Bay.miss).modBus Bus.land).commandFailed e.bay e.cmd := by
  rw [State.unanswered_else (fun k => by omega), if_neg hl]
  exact if_neg (by omega)

/-- What waits for its bay and group afterwards is on its first attempt. -/
theorem State.unanswered_fresh {s : State} {b : BayNo} (hm : (s.bay b).misses < 2) (hl : (s.bay b).link ≠ .lost)
    {e : Entry} (ha : 2 ≤ e.attempts) (hf : s.bus.flight = some (.command e true)) (hok : s.bus.ok) :
    ∀ k ∈ (s.unanswered (.command e true) b).settle.bus.waiting, k.bay = e.bay → k.cmd.group = e.cmd.group →
      k.attempts = 0 := by
  have K := keptByArrival_fresh e.bay e.cmd.group
  refine K.toTrade.toMatch.settle ?_
  rw [State.unanswered_dropped hm hl ha]
  refine K.commandFailed (fun k hk hb hg => ?_) _ _
  rw [State.modBus_bus, Bus.land_waiting] at hk
  exact absurd ⟨hb, hg⟩ (Bus.ok_flight hok hf k hk)

/-- A dropped LOCK is queued again exactly when its bay is on the relock list (R122). -/
theorem State.unanswered_lock {s : State} {b : BayNo} (hm : (s.bay b).misses < 2) (hl : (s.bay b).link ≠ .lost)
    {e : Entry} (he : e.bay = b) (ha : 2 ≤ e.attempts) (hf : s.bus.flight = some (.command e true)) (hok : s.bus.ok)
    (hc : e.cmd = .lock) (hp : s.passDue = false) :
    (s.unanswered (.command e true) b).settle.bus.waiting = s.bus.waiting
      ++ (if (s.bay b).relock then [{ e with attempts := 0 }] else []) := by
  set u := (s.modBay b Bay.miss).modBus Bus.land with hu
  have relock : (u.bay b).relock = (s.bay b).relock := by rw [hu, State.modBus_bay, State.modBay_bay_self]; rfl
  have ulink : (u.bay b).link ≠ .lost := by rw [hu, State.modBus_bay, State.modBay_bay_self]; exact hl
  have told : s.unanswered (.command e true) b = if (s.bay b).relock then u.queueLock b else u := by
    rw [State.unanswered_dropped hm hl ha, ← hu, he, hc, ← relock]
    rfl
  have waiting : u.bus.waiting = s.bus.waiting := Bus.land_waiting s.bus
  rw [told]
  by_cases hr : (s.bay b).relock = true
  · have queued : (u.queueLock b).bus = u.bus.place b .lock := by
      rw [State.queueLock, State.queueCmd_eq (by rw [State.modBay_bay_self]; exact ulink)]
      rfl
    have due : (u.queueLock b).passDue = false := by
      rw [State.queueLock, State.queueCmd_bus_only]
      exact hp
    have entry : { bay := b, cmd := .lock, attempts := 0 } = { e with attempts := 0 } := by rw [← he, ← hc]
    rw [if_pos hr, if_pos hr, State.settle_bus due, queued,
      Bus.place_tail (u := u.bus) rfl (Bus.land_room s.bus), waiting, entry]
    intro k hk hbad
    rw [waiting] at hk
    exact Bus.ok_flight hok hf k hk ⟨hbad.1.trans he.symm, by rw [hc]; exact hbad.2⟩
  · rw [if_neg hr, if_neg hr, State.settle_bus (s := u) hp, waiting, List.append_nil]

end Sys2Proof.Machine
end

section
/-! O50: misses, the third of them, and what becomes of the command. -/

open Sys2Proof Sys2Proof.Machine
namespace Sys2Proof.Machine

/-- What every miss leaves: the transaction ended, the miss counted, the settings as they were (R132, R138). -/
theorem State.unanswered_counts (s : State) (fl : Flight) (b : BayNo) :
    let t := (s.unanswered fl b).settle
    t.bus.flight = none
      ∧ (t.bay b).reported = ((s.bay b).door, (s.bay b).latch, (s.bay b).sensed, (s.bay b).count, (s.bay b).lastTemp,
          (s.bay b).lastFault, (if 2 ≤ (s.bay b).misses then .lost else (s.bay b).link), min 3 ((s.bay b).misses + 1),
          min 255 ((s.bay b).missCount + 1))
      ∧ (∀ c, c ≠ b → (t.bay c).reported = (s.bay c).reported) ∧ t.settings = s.settings
      ∧ t.grants.settings = s.grants.settings ∧ t.bus.settings = s.bus.settings := by
  by_cases h : 2 ≤ (s.bay b).misses ∧ (s.bay b).link ≠ .lost
  · obtain ⟨hm, hl⟩ := h
    obtain ⟨inner1, inner2⟩ := s.darkened_inner b
    obtain ⟨bays, -, -, bus, settings, grants⟩ := ((s.silenced b).exchangeLinkLost b).raiseLinkDown_rest
    have idle : (s.silenced b).bus.flight = none := by
      have dark : (s.dark b).bus.flight = none := keptByArrival_idle.toBay b |>.changeLink rfl _
      exact keptByArrival_idle.toTrade.loseMatch dark b .link
    have reported : ∀ c, ((s.darkened b).bay c).reported = ((s.modBay b Bay.darkened).bay c).reported := fun c => by
      rw [(State.inner_bay inner2 c).1, bays, (State.inner_bay inner1 c).1]
    dsimp only
    rw [State.unanswered_lost hm hl]
    refine ⟨State.darkened_kept keptByArrival_idle.toTrade idle, ?_, fun c hc => ?_,
      inner2.1.trans (settings.trans inner1.1), ?_, ?_⟩
    · rw [reported, State.modBay_bay_self, if_pos hm]
      rfl
    · rw [reported, State.modBay_bay_other _ _ _ _ hc]
    · exact inner2.2.1.trans ((congrArg Grants.settings grants).trans inner1.2.1)
    · exact inner2.2.2.1.trans ((congrArg Bus.settings bus).trans inner1.2.2.1)
  · have inner := State.unanswered_inner h fl
    have link : (if 2 ≤ (s.bay b).misses then .lost else (s.bay b).link) = (s.bay b).link := by
      split
      · next hm => exact (not_not.mp fun k => h ⟨hm, k⟩).symm
      · rfl
    refine ⟨State.unanswered_idle h fl, ?_, fun c hc => ?_, inner.1, inner.2.1, inner.2.2.1⟩
    · rw [(State.inner_bay inner b).1, State.modBay_bay_self, link]
      rfl
    · rw [(State.inner_bay inner c).1, State.modBay_bay_other _ _ _ _ hc]

/-- The last bay to become LOST raises LINK-DOWN (R140); no other miss touches the kiosk faults. -/
theorem State.unanswered_faults (s : State) (fl : Flight) (b : BayNo) :
    let t := (s.unanswered fl b).settle
    let allLost := (2 ≤ (s.bay b).misses ∧ (s.bay b).link ≠ .lost) ∧ ∀ c, c ≠ b → (s.bay c).link = .lost
    (¬allLost → t.faults = s.faults)
      ∧ (allLost → t.faults = { s.faults with linkDown := some (s.faults.linkDown.getD s.clock.time) }
          ∧ t.sent .gateway (s.notice .linkDown .none 1 0)) := by
  by_cases h : 2 ≤ (s.bay b).misses ∧ (s.bay b).link ≠ .lost
  · obtain ⟨hm, hl⟩ := h
    obtain ⟨inner1, inner2⟩ := s.darkened_inner b
    set u := (s.silenced b).exchangeLinkLost b with hu
    have links : u.allLost = true ↔ ∀ c, c ≠ b → (s.bay c).link = .lost := by
      rw [State.allLost_iff]
      constructor
      · intro k c hc
        rw [← k c, (State.inner_reads inner1 c).2.2.2, State.modBay_bay_other _ _ _ _ hc]
      · intro k c
        rw [(State.inner_reads inner1 c).2.2.2]
        by_cases hc : c = b
        · rw [hc, State.modBay_bay_self]
          rfl
        · rw [State.modBay_bay_other _ _ _ _ hc, k c hc]
    have faults : u.faults = s.faults := inner1.2.2.2.1
    have clock : u.clock = s.clock := (State.inner_clock inner1).trans rfl
    dsimp only
    rw [State.unanswered_lost hm hl]
    refine ⟨fun k => ?_, fun k => ⟨?_, ?_⟩⟩
    · have quiet : u.raiseLinkDown = u := if_neg fun a => k ⟨⟨hm, hl⟩, links.mp a⟩
      rw [inner2.2.2.2.1, quiet, faults]
    · have raised : u.raiseLinkDown = u.reportLinkDown.notify .linkDown .none 1 0 := if_pos (links.mpr k.2)
      have now : u.now = s.clock.time := congrArg Clock.time clock
      rw [inner2.2.2.2.1, raised]
      show { u.faults with linkDown := reportMember u.faults.linkDown u.now } = _
      rw [faults, now]
      rfl
    · have raised : u.raiseLinkDown = u.reportLinkDown.notify .linkDown .none 1 0 := if_pos (links.mpr k.2)
      refine State.inner_sent inner2 ?_
      rw [raised, ← State.notice_of_clock (s := s) (t := u.reportLinkDown) clock]
      exact State.sent_notify u.reportLinkDown rfl
  · have inner := State.unanswered_inner h fl
    exact ⟨fun _ => inner.2.2.2.1, fun k => absurd k.1 h⟩

theorem exec_answerPeriodTimeout {s : State} {fl : Flight} {b : BayNo} (hf : s.bus.flight = some fl)
    (hb : fl.bay? = some b) : exec .answerPeriodTimeout s = .next (s.unanswered fl b).settle := by
  show Host.Outcome.next s.takeSilence = _
  simp only [State.takeSilence, hf, hb]

theorem exec_bayReply_failed {s : State} {fl : Flight} {b : BayNo} (hf : s.bus.flight = some fl)
    (hb : fl.bay? = some b) (a : Byte) (rep : ShortReport) (ans : Answer) :
    exec (.bayReply false a rep ans) s = .next (s.unanswered fl b).settle := by
  show Host.Outcome.next (s.takeReply false a rep ans) = _
  simp only [State.takeReply, hf, hb]
  rfl

/-- The address error of a reply that carries another address (R132). -/
def State.addressError (s : State) : State :=
  s.modBus (fun u => { u with addrErrors := min 65535 (u.addrErrors + 1) })

theorem exec_bayReply_other {s : State} {fl : Flight} {b : BayNo} (hf : s.bus.flight = some fl)
    (hb : fl.bay? = some b) {a : Byte} (ha : a.toNat ≠ bayNumber b) (rep : ShortReport) (ans : Answer) :
    exec (.bayReply true a rep ans) s = .next (s.addressError.unanswered fl b).settle := by
  show Host.Outcome.next (s.takeReply true a rep ans) = _
  simp only [State.takeReply, hf, hb]
  rw [if_neg (by decide), if_pos ha]
  rfl

/-- Two states that differ in the address errors alone. -/
structure State.alike (s u : State) : Prop where
  bay : ∀ n, u.bay n = s.bay n
  exch : ∀ x, u.exch x = s.exch x
  claim : ∀ id, u.claim? id = s.claim? id
  notice : ∀ k v d n, u.notice k v d n = s.notice k v d n
  eligible : ∀ n, u.eligible n = s.eligible n
  settings : u.settings = s.settings
  grants : u.grants = s.grants
  faults : u.faults = s.faults
  time : u.clock.time = s.clock.time
  sent : u.bus.sent = s.bus.sent
  nextPoll : u.bus.nextPoll = s.bus.nextPoll

theorem State.alike_refl (s : State) : s.alike s :=
  ⟨fun _ => rfl, fun _ => rfl, fun _ => rfl, fun _ _ _ _ => rfl, fun _ => rfl, rfl, rfl, rfl, rfl, rfl, rfl⟩

theorem State.alike_addressError (s : State) : s.alike s.addressError :=
  ⟨fun _ => rfl, fun _ => rfl, fun _ => rfl, fun _ _ _ _ => rfl, fun _ => rfl, rfl, rfl, rfl, rfl, rfl, rfl⟩

/-- Settles O50. -/
theorem missCounts : Obligations.MissCounts := by
  intro s fl b hfl hb r lost allLost unmatched stopped missed waiting
  have loses : ∀ u : State, s.alike u → stopped (u.darkened b) := fun u like => ?stopped
  have misses : ∀ u : State, s.alike u → missed (u.unanswered fl b).settle := fun u like => ?missed
  case stopped =>
    have terms : ∀ id c d, s.claim? id = some c → (u.darkened b).claim? id = some d → d.terms = c.terms :=
      fun id c d hc hd => by
        obtain ⟨c', hc', ht, -⟩ := u.darkened_terms b id d hd
        rw [like.claim] at hc'
        exact Option.some.inj (hc'.symm.trans hc) ▸ ht
    obtain ⟨pack, admission, state⟩ := u.darkened_record b
    rw [like.bay] at pack admission state
    refine ⟨?_, pack, fun he => ?_, admission, state, fun c hm hc hcb hs => ?_, fun y hi ht => ?_,
      fun x e he => ⟨fun hr hi => ⟨fun hp => ?_, fun ho hc => ?_⟩, fun hr ht => ⟨fun c ho hp hm hc hs hcb => ?_,
        fun hp => ?_⟩⟩⟩
    · rw [← like.notice]
      exact State.silenced_sent (State.inner_sent (u.silenced_inner b) (u.dark_rest b).2.2.1)
    · obtain ⟨grant, replan, cut⟩ := u.darkened_grant b ((like.eligible b).trans he)
      rw [like.bay, like.notice] at cut
      exact ⟨grant, replan, cut⟩
    · obtain ⟨⟨matched, off⟩, sent⟩ := u.darkened_claim b (c := c) (by rw [like.bay]; exact hm)
        (by rw [like.claim]; exact hc) hcb (by rcases hs with k | k <;> rw [k] <;> exact nofun)
      rw [like.notice] at sent
      exact ⟨⟨matched, sent⟩, fun d hd => ⟨off d hd, terms _ c d hc hd⟩⟩
    · rw [← like.exch]
      exact u.darkened_other b (by rw [like.bay]; exact hi) (by rw [like.bay]; exact ht)
    · obtain ⟨gone, roles, relock, watch, sent, free⟩ :=
        u.darkened_ends b (e := e) (by rw [like.bay]; exact hr) (by rw [like.exch]; exact he) hp
      rw [like.notice] at sent
      exact ⟨gone, roles, relock, watch, sent, fun c d hc hd => ⟨free d hd, terms _ c d hc hd⟩⟩
    · have stands := u.darkened_intake_stands b (e := e) (by rw [like.bay]; exact hr) (by rw [like.exch]; exact he) ho hc
      rw [like.bay] at stands
      exact stands
    · obtain ⟨gone, role, ⟨matched, -⟩, sent, held⟩ := u.darkened_released b (e := e) (c := c)
        (by rw [like.bay]; exact hr) (by rw [like.exch]; exact he) ho hp (by rw [like.bay]; exact hm)
        (by rw [like.claim]; exact hc) hs hcb
      rw [like.notice] at sent
      exact ⟨gone, role, ⟨matched, sent⟩, c.unbound, held, by simp [Claim.unbound, hs], rfl, rfl⟩
    · obtain ⟨stands, role, held⟩ := u.darkened_take_stands b (e := e) (by rw [like.bay]; exact hr)
        (by rw [like.exch]; exact he) hp
      rw [like.bay] at role held
      refine ⟨stands, role, fun c hc hs hm => ?_⟩
      obtain ⟨matched, found⟩ := held c (by rw [like.claim]; exact hc) hs hm
      exact ⟨matched, c, found, hs, rfl, rfl⟩
  case missed =>
    obtain ⟨idle, reported, others, settings, grants, bus⟩ := u.unanswered_counts fl b
    obtain ⟨stay, down⟩ := u.unanswered_faults fl b
    simp only [Bus.settings, Prod.mk.injEq] at bus
    obtain ⟨sent, next, -, -⟩ := bus
    rw [like.bay] at reported
    simp only [like.bay] at others
    simp only [like.bay, like.faults, like.notice, like.time] at stay down
    refine ⟨idle, reported, others, settings.trans like.settings, grants.trans (congrArg Grants.settings like.grants),
      sent.trans like.sent, next.trans like.nextPoll, fun hl => ?_, stay, down⟩
    rw [State.unanswered_lost (by rw [like.bay]; exact hl.1) (by rw [like.bay]; exact hl.2)]
    exact loses u like
  have errors : ∀ u : State, (u.unanswered fl b).settle.bus.addrErrors = u.bus.addrErrors := fun u => by
    obtain ⟨-, -, -, -, -, bus⟩ := u.unanswered_counts fl b
    simp only [Bus.settings, Prod.mk.injEq] at bus
    obtain ⟨-, -, -, errors⟩ := bus
    exact errors
  refine ⟨⟨_, exec_answerPeriodTimeout hfl hb, misses s s.alike_refl, errors s,
    fun a rep ans => exec_bayReply_failed hfl hb a rep ans, fun hl => ?_, fun e he hm hl ha hp => ?_,
    fun e he hm hl ha hok => ?_⟩, fun a rep ans ha => ⟨_, exec_bayReply_other hfl hb ha rep ans,
      misses s.addressError s.alike_addressError, errors s.addressError⟩⟩
  · rw [State.unanswered_lost hl.1 hl.2]
    exact s.darkened_emptied b
  · rw [he]
    exact State.unanswered_retry hm hl ha hp
  · subst he
    obtain rfl := Option.some.inj hb
    exact ⟨State.unanswered_fresh hm hl ha hfl hok, fun hc hp => State.unanswered_lock hm hl rfl ha hfl hok hc hp⟩

end Sys2Proof.Machine
end

section
/-! A report moves no exchange but the one its bay's role names. -/

open Sys2Proof Sys2Proof.Machine
namespace Sys2Proof.Machine

/-- Exchange `y` stands, and bay `b`'s role does not name it. -/
def State.away (y : ExNo) (b : BayNo) (s t : State) : Prop :=
  t.exch y = s.exch y ∧ (t.bay b).role.exchange? ≠ some y

theorem Role.none_exchange {y : ExNo} : Role.none.exchange? ≠ some y := nofun

section
variable {y : ExNo} {b : BayNo} {s t : State}

theorem State.away_still (h : State.away y b s t) {u : State} (k : t.still u) : State.away y b s u :=
  ⟨(State.still_exch k y).trans h.1, by rw [k.roles b]; exact h.2⟩

theorem State.away_kept (h : State.away y b s t) {u : State} (hb : ∀ n, (u.bay n).role = (t.bay n).role)
    (he : u.exch y = t.exch y) : State.away y b s u := ⟨he.trans h.1, by rw [hb]; exact h.2⟩

/-- What the operations on a bay's own record bring leaves the exchanges. -/
theorem State.away_bay (h : State.away y b s t) {u : State} (k : ∀ {P : State → Prop}, KeptByBay b P → P t → P u) :
    State.away y b s u := State.away_still h (k (keptByBay_still b t) t.still_refl)

theorem State.away_match (h : State.away y b s t) {u : State} (k : ∀ {P : State → Prop}, KeptByMatch P → P t → P u) :
    State.away y b s u := State.away_still h (k (keptByMatch_still t) t.still_refl)

theorem State.away_intake (h : State.away y b s t) {x : ExNo} (hr : (t.bay b).role = .intake x) : y ≠ x := by
  rintro rfl
  exact h.2 (by rw [hr]; rfl)

theorem State.away_take (h : State.away y b s t) {x : ExNo} (hr : (t.bay b).role = .take x) : y ≠ x := by
  rintro rfl
  exact h.2 (by rw [hr]; rfl)

theorem State.away_enterPhase (h : State.away y b s t) {x : ExNo} (hx : y ≠ x) (ph : Phase) :
    State.away y b s (t.enterPhase x ph) := by
  refine State.away_kept h (fun n => by rw [State.enterPhase_bay]) ?_
  unfold State.enterPhase
  split
  · rfl
  · rw [State.notify_exch, State.setExch_exch, if_neg hx]

theorem State.away_modExch (h : State.away y b s t) {x : ExNo} (hx : y ≠ x) (f : Exchange → Exchange) :
    State.away y b s (t.modExch x f) :=
  State.away_kept h (fun _ => rfl) (by rw [State.modExch_exch, if_neg hx])

theorem State.away_queueLock (h : State.away y b s t) (c : BayNo) : State.away y b s (t.queueLock c) := by
  refine State.away_kept h (fun n => ?_) (State.queueLock_exch t c y)
  rw [State.queueLock_bay]
  split
  · next e => rw [e]
  · rfl

theorem State.away_queueUnlock (h : State.away y b s t) (c : BayNo) : State.away y b s (t.queueUnlock c) := by
  refine State.away_kept h (fun n => ?_) (State.queueUnlock_exch t c y)
  rw [State.queueUnlock_bay]
  split
  · next e => rw [e]
  · rfl

theorem State.away_setRole (h : State.away y b s t) (c : BayNo) {role : Role} (hr : role.exchange? ≠ some y) :
    State.away y b s (t.setRole c role) := by
  refine ⟨(State.setRole_exch t c role y).trans h.1, ?_⟩
  rw [State.setRole_role]
  split
  · exact hr
  · exact h.2

theorem State.away_releaseTake (h : State.away y b s t) {x : ExNo} (hx : y ≠ x) (id : ClaimId) (c : BayNo)
    (cause : LossCause) : State.away y b s (t.releaseTake x id c cause) :=
  State.away_modExch (State.away_setRole (State.away_match h fun K k => K.unmatch k id cause) c
    Role.none_exchange) hx _

theorem State.away_loseMatch (h : State.away y b s t) (cause : LossCause) :
    State.away y b s (t.loseMatch b cause) := by
  unfold State.loseMatch
  split
  · exact h
  · split
    · exact h
    · split
      · unfold State.takeLoss
        split
        · next x hx =>
          split
          · exact h
          · exact kept_ite (P := State.away y b s) (State.away_releaseTake h (State.away_take h hx) _ b cause) h
        · exact h
      · exact State.away_match h fun K k => K.unmatch k _ cause

theorem State.away_rejectIntake (h : State.away y b s t) : State.away y b s (t.rejectIntake b) := by
  unfold State.rejectIntake
  split
  · next x hx =>
    split
    · exact h
    · split
      · exact State.away_enterPhase (State.away_queueUnlock h b) (State.away_intake h hx) _
      · exact State.away_enterPhase (State.away_queueUnlock h b) (State.away_intake h hx) _
      · exact h
  · exact h

theorem State.away_becomeFaulted (h : State.away y b s t) (k : FaultCause) (value : Nat) (ending : Bool) :
    State.away y b s (t.becomeFaulted b k value ending) := by
  have h1 : State.away y b s (t.faultBay b k) := State.away_bay h fun K p => K.faultBay p k
  have h2 := State.away_loseMatch h1 k.loss
  have h3 := kept_ite (P := State.away y b s) (c := (ending || decide (k = .profile)) = true) h2
    (State.away_rejectIntake h2)
  have h4 := State.away_match h3 fun K p => K.notify p .bayFault (.bay b) k.code value
  rw [State.becomeFaulted_eq]
  exact kept_ite (P := State.away y b s) (State.away_bay h4 fun K p => K.watchResult p) h4

theorem State.away_raiseFault (h : State.away y b s t) (k : FaultCause) (value : Nat) (ending : Bool) :
    State.away y b s (t.raiseFault b k value ending) := by
  unfold State.raiseFault
  split
  · exact State.away_becomeFaulted h k value ending
  · exact kept_ite (P := State.away y b s)
      (State.away_bay h fun K p => K.notify (K.edit (by exact fun _ => rfl) p) _ _ _ _) h

theorem State.away_missPack (h : State.away y b s t) : State.away y b s (t.missPack b) := by
  have k := State.away_raiseFault (State.away_bay h fun K p => K.withoutPack p) .packMissing 0 false
  exact kept_ite (P := State.away y b s) (State.away_bay k fun K p => K.recap p) k

theorem State.away_removePack (h : State.away y b s t) : State.away y b s (t.removePack b) := by
  have empty : State.away y b s (t.emptyBay b) := State.away_bay h fun K p => K.emptyBay p
  unfold State.removePack
  dsimp only
  split
  · exact empty
  · split
    · exact h
    · exact empty
    · exact kept_ite (P := State.away y b s) empty (State.away_bay h fun K p => K.clearPack p)
    · exact State.away_missPack h
  · exact kept_ite (P := State.away y b s) h (State.away_missPack h)

theorem State.away_takeHeat (h : State.away y b s t) (rep : ShortReport) : State.away y b s (t.takeHeat b rep) := by
  have h1 := kept_ite (P := State.away y b s) (c := (rep.sensed && rep.packFault) = true)
    (State.away_raiseFault h .packError 1 false) h
  have h2 := kept_ite (P := State.away y b s) (c := (rep.sensed && decide (faultLimit ≤ clampTemp rep.temp)) = true)
    (State.away_raiseFault h1 .hot (clampTemp rep.temp).toNat false) h1
  exact State.away_bay h2 fun K p => K.rebandBay p

theorem State.away_takeSession (h : State.away y b s t) (x : Session) : State.away y b s (t.takeSession b x) := by
  have refusals : ∀ n, State.away y b s (t.setRefusals b n) := fun n => State.away_bay h fun K p => K.setRefusals p n
  unfold State.takeSession
  split
  · split
    · unfold State.countRefusal
      split
      · exact h
      · refine kept_ite (P := State.away y b s) ?_ (refusals _)
        unfold State.downshift
        split
        · exact State.away_raiseFault (refusals _) _ _ _
        · exact State.away_bay (refusals _) fun K p =>
            K.queue nofun (K.recap (K.notify (K.record (by exact fun _ => rfl) p) _ _ _ _))
    · exact refusals 0
    · exact h
  · exact h

theorem State.away_takeDoor (h : State.away y b s t) : State.away y b s (t.takeDoor b) :=
  kept_ite (P := State.away y b s) (State.away_raiseFault h _ _ _) h

theorem State.away_endExchange (h : State.away y b s t) {x : ExNo} (hx : y ≠ x) (o : Outcome) (locks : List BayNo)
    (watch : Option BayNo) : State.away y b s (t.endExchange x o locks [] watch) := by
  cases he : t.exch x with
  | none =>
    have stay : t.endExchange x o locks [] watch = t := by simp only [State.endExchange, he]
    rw [stay]
    exact h
  | some e =>
    obtain ⟨exch, roles, -⟩ := State.endExchange_spec he o locks watch
    refine ⟨(exch y).trans ((if_neg hx).trans h.1), ?_⟩
    rw [roles]
    split
    · exact nofun
    · exact h.2

theorem State.away_seekReplacement (h : State.away y b s t) {x : ExNo} (hx : y ≠ x) (id : ClaimId) :
    State.away y b s (t.seekReplacement x id) := by
  unfold State.seekReplacement
  split
  · exact h
  · split
    · exact State.away_endExchange h hx _ _ _
    · next n _ =>
      have bound := State.away_modExch (State.away_match h fun K k => K.bindClaim k id n .replacement) hx
        (fun e => { e with take := some n })
      have named : (Role.take x).exchange? ≠ some y := fun k => hx (Option.some.inj k).symm
      exact State.away_enterPhase (State.away_queueUnlock (State.away_setRole bound n named) n) hx _

theorem State.away_takeChanged (h : State.away y b s t) {x : ExNo} (hx : y ≠ x) (e : Exchange) :
    State.away y b s (t.takeChanged x e b) := by
  have k := State.away_modExch (State.away_setRole (State.away_queueLock (State.away_match h fun K k =>
    K.unmatch k e.claim .packChanged) b) b Role.none_exchange) hx (fun e => { e with take := none })
  exact kept_ite (P := State.away y b s) (c := e.abort = true) (State.away_endExchange k hx .aborted [] none)
    (State.away_seekReplacement k hx e.claim)

theorem State.away_dropMatchChanged (h : State.away y b s t) : State.away y b s (t.dropMatchChanged b) := by
  unfold State.dropMatchChanged
  split
  · next x hx =>
    split
    · exact h
    · exact kept_ite (P := State.away y b s) (State.away_takeChanged h (State.away_take h hx) _)
        (State.away_loseMatch h _)
  · exact State.away_loseMatch h _

theorem State.away_exchangeRemoval (h : State.away y b s t) {role : Role} (hr : role.exchange? ≠ some y) :
    State.away y b s (t.exchangeRemoval b role) := by
  unfold State.exchangeRemoval
  split
  · exact h
  · next x =>
    have hx : y ≠ x := fun e => hr (congrArg some e.symm)
    split
    · exact h
    · next e _ =>
      split
      · have taken := State.away_enterPhase (State.away_match h fun K k => K.closeClaim k e.claim .fulfilled) hx .takeClosing
        exact kept_ite (P := State.away y b s) (State.away_endExchange taken hx .done [b] none) taken
      · exact h
      · exact State.away_releaseTake h hx _ b _
  · next x =>
    have hx : y ≠ x := fun e => hr (congrArg some e.symm)
    split
    · exact h
    · exact kept_ite (P := State.away y b s)
        (State.away_enterPhase (kept_ite (P := State.away y b s) (State.away_queueUnlock h b) h) hx _) h

theorem State.away_readmit (h : State.away y b s t) : State.away y b s (t.readmit b) := by
  unfold State.readmit
  split
  · exact h
  · exact State.away_dropMatchChanged (State.away_bay h fun K p => K.clearPack p)
  · exact State.away_dropMatchChanged (State.away_bay h fun K p => K.startAdmission p .insertion)

theorem State.away_exchangeFollow (h : State.away y b s t) {x : ExNo} (hx : y ≠ x) (e : Exchange) (back : Bool) :
    State.away y b s (t.exchangeFollow x e b back) := by
  have ended : ∀ o locks watch, State.away y b s (t.endExchange x o locks [] watch) := State.away_endExchange h hx
  unfold State.exchangeFollow
  dsimp only
  split
  · exact kept_ite (State.away_enterPhase (State.away_queueLock h b) hx _) (kept_ite (ended _ _ _) h)
  · exact kept_ite (ended _ _ _) h
  · exact kept_ite (kept_ite (ended _ _ _) h)
      (kept_ite (kept_ite (State.away_modExch (State.away_queueUnlock h b) hx _) (State.away_modExch h hx _)) h)
  · exact kept_ite (ended _ _ _) h
  · exact h

theorem State.away_exchangeReport (h : State.away y b s t) (before : Option Exchange) (back : Bool) :
    State.away y b s (t.exchangeReport b before back) := by
  unfold State.exchangeReport
  split
  · next x e0 hx =>
    have other : y ≠ x := by
      rintro rfl
      exact h.2 hx
    split
    · exact h
    · exact kept_ite (P := State.away y b s) (State.away_exchangeFollow h other _ back) h
  · exact h

end

/-- A report moves no other exchange than the one its bay's role names. -/
theorem State.away_applyReport {y : ExNo} {b : BayNo} {s : State} (hr : (s.bay b).role.exchange? ≠ some y)
    (rep : ShortReport) (back : Bool) : State.away y b s (s.applyReport b rep back) := by
  have fields : State.away y b s (s.takeFields b rep) := by
    have base : State.away y b s (s.modBay b (fun r => r.report rep)) := by
      refine ⟨rfl, ?_⟩
      rw [State.modBay_bay_self]
      exact hr
    exact State.away_still base ((keptByBay_still b _).takeFields (State.still_refl _))
  have removed := kept_ite (P := State.away y b s) (c := ((s.bay b).sensed && !rep.sensed) = true)
    (State.away_exchangeRemoval (State.away_removePack fields) hr) fields
  have inserted := State.away_bay removed fun K p => K.insertPack p
  have packed := kept_ite (P := State.away y b s) (c := s.moved b rep = true) (State.away_readmit inserted)
    (kept_ite (P := State.away y b s) (c := back = true) (State.away_bay inserted fun K p => K.restoreLink p) inserted)
  have filled := State.away_bay (State.away_takeSession (State.away_takeHeat packed rep) rep.session)
    fun K p => K.fillTest p
  have watched := State.away_bay (State.away_takeDoor filled) fun K p => K.dropWatch p
  exact State.away_exchangeReport (kept_ite (P := State.away y b s) (State.away_queueLock watched b) watched) _ _

end Sys2Proof.Machine
end

section
/-! A report of an exchange's bay, stage by stage: what it leaves of the exchange, and the end of its arrival. -/

open Sys2Proof Sys2Proof.Machine
namespace Sys2Proof.Machine

/-- One operation taken or not, by its test. -/
theorem kept_ite_of {P : State → Prop} {c : Prop} [Decidable c] {u v : State} (hu : c → P u) (hv : ¬c → P v) :
    P (if c then u else v) := by
  split
  · next h => exact hu h
  · next h => exact hv h

/-! ### The state a report's operations start from -/

/-- The transaction ended and the report's fields written. -/
def State.based (s : State) (b : BayNo) (rep : ShortReport) : State := (s.heard b).modBay b (fun r => r.report rep)

section
variable (s : State) (b : BayNo) (rep : ShortReport)

theorem State.heard_book : (s.heard b).book = s.book := by
  have K : KeptByBay b (fun t => t.book = s.book) := ⟨fun h k _ => k.book.trans h, fun _ h => h,
    fun {t c} _ h => (t.queueCmd_book b c).trans h, fun h => h, fun h => h⟩
  exact State.heard_kept K rfl

theorem State.heard_exchanges : (s.heard b).exchanges = s.exchanges := by
  have K : KeptByBay b (fun t => t.exchanges = s.exchanges) := ⟨fun h _ e => e.trans h, fun _ h => h,
    fun {t c} _ h => (t.queueCmd_exchanges b c).trans h, fun h => h, fun h => h⟩
  exact State.heard_kept K rfl

theorem State.based_bay : (s.based b rep).bay b = (s.bay b).answered.report rep := by
  rw [State.based, State.modBay_bay_self, s.heard_bay_self]
  rfl

theorem State.based_bay_other {n : BayNo} (h : n ≠ b) : (s.based b rep).bay n = s.bay n := by
  rw [State.based, State.modBay_bay_other _ _ _ _ h, s.heard_bay, if_neg h]

theorem State.based_role (n : BayNo) : ((s.based b rep).bay n).role = (s.bay n).role := by
  by_cases h : n = b
  · rw [h, s.based_bay]
    rfl
  · rw [s.based_bay_other b rep h]

theorem State.based_exch (x : ExNo) : (s.based b rep).exch x = s.exch x := State.exch_of (s.heard_exchanges b) x

theorem State.based_clock : (s.based b rep).clock = s.clock := s.heard_clock b

/-- A waiting command was waiting before the report. -/
theorem State.based_queued {c : BusCmd} (hc : c.group = .door) (h : (s.based b rep).queued b c) : s.queued b c := by
  have K := keptByBay_still b (s.modBus Bus.land)
  have still : (s.modBus Bus.land).still (s.heard b) := State.heard_kept K (State.still_refl _)
  obtain ⟨k, hk, hb, he⟩ := h
  have mem : k ∈ (s.modBus Bus.land).bus.waiting := (still.door k (by rw [he]; exact hc)).mp hk
  rw [State.modBus_bus, Bus.land_waiting] at mem
  exact ⟨k, mem, hb, he⟩

theorem State.fields_quiet : (s.based b rep).quiet ((s.heard b).takeFields b rep) :=
  (keptByBay_quiet b _).takeFields (State.quiet_refl _)

theorem State.fields_inner : (s.based b rep).inner ((s.heard b).takeFields b rep) := (s.heard b).takeFields_inner b rep

theorem State.packed_inner (back : Bool) : (s.based b rep).inner ((s.heard b).packed b rep back) := by
  have h1 := s.fields_inner b rep
  have h2 := State.inner_insertPack (State.inner_ite (c := (((s.heard b).bay b).sensed && !rep.sensed) = true)
    (State.inner_exchangeRemoval (State.inner_removePack h1 b) b ((s.heard b).bay b).role) h1) b
  exact State.inner_ite (c := (s.heard b).moved b rep = true) (State.inner_readmit h2 b)
    (State.inner_ite (c := back = true) (State.inner_restoreLink h2 b) h2)

end

/-! ### The weighing of a report: heat, session, SoC, door, watch -/

/-- A report's judging but for the relock list. -/
def State.weighed (s : State) (b : BayNo) (rep : ShortReport) : State :=
  ((((s.takeHeat b rep).takeSession b rep.session).fillTest b).takeDoor b).dropWatch b

theorem State.judged_eq (s : State) (b : BayNo) (rep : ShortReport) (back : Bool) :
    s.judged b rep back = (s.weighed b rep).relockBack b back := rfl

theorem State.weighed_quiet {s : State} {b : BayNo} (h : s.holdsFast b) (rep : ShortReport) :
    s.quiet (s.weighed b rep) := by
  have heat := State.takeHeat_quiet h rep
  have session := State.quiet_trans heat (State.takeSession_quiet (State.holdsFast_of_still h heat.still) rep.session)
  have fill := (keptByBay_quiet b s).fillTest session
  have door := State.quiet_trans fill (State.takeDoor_quiet _ b)
  exact (keptByBay_quiet b s).dropWatch door

theorem State.judged_inner (s : State) (b : BayNo) (rep : ShortReport) (back : Bool) :
    s.inner (s.judged b rep back) :=
  State.inner_relockBack (State.inner_dropWatch (State.inner_takeDoor (State.inner_fillTest (State.inner_takeSession
    (State.inner_takeHeat s.inner_refl b rep) b _) b) b) b) b back

/-- The relock list at a report: the mark of the bay, and its LOCK. -/
theorem State.relockBack_spec (s : State) (b : BayNo) (back : Bool) :
    (∀ n, ∃ l, (s.relockBack b back).bay n = { s.bay n with relock := l })
      ∧ (s.relockBack b back).exchanges = s.exchanges ∧ (s.relockBack b back).book = s.book
      ∧ ((s.bay b).relock = true → ((s.relockBack b back).bay b).relock = true)
      ∧ ((s.bay b).relock = false → s.relockBack b back = s)
      ∧ ((s.bay b).link ≠ .lost → s.queued b .lock → (s.relockBack b back).queued b .lock)
      ∧ ∀ n c, n ≠ b → s.queued n c → (s.relockBack b back).queued n c := by
  by_cases h : back = true ∧ (s.bay b).relock = true ∧ (s.bay b).latch = .unlocked
  · have e : s.relockBack b back = s.queueLock b := if_pos h
    rw [e]
    refine ⟨fun n => ?_, State.queueCmd_exchanges _ _ _, s.queueLock_book b, fun _ => ?_, fun k => ?_,
      fun hl _ => State.queueLock_queued hl, fun n c hn k => ?_⟩
    · rw [State.queueLock_bay]
      split
      · next e => exact ⟨true, by rw [e]⟩
      · exact ⟨_, rfl⟩
    · rw [State.queueLock_bay, if_pos rfl]
    · exact absurd (h.2.1.symm.trans k) nofun
    · exact State.queued_queueCmd (s := s.modBay b _) k b .lock fun e => hn e.1
  · have e : s.relockBack b back = s := if_neg h
    rw [e]
    exact ⟨fun n => ⟨_, rfl⟩, rfl, rfl, fun k => k, fun _ => rfl, fun _ k => k, fun _ _ _ k => k⟩

/-- What a judged report leaves of the exchange its bay holds fast. -/
structure State.standing (s t : State) : Prop where
  exch : ∀ x, t.exch x = s.exch x
  roles : ∀ n, (t.bay n).role = (s.bay n).role
  swaps : s.swapKept t

theorem State.standing_of_quiet {s t : State} (h : s.quiet t) : s.standing t :=
  ⟨fun x => State.still_exch h.still x, h.still.roles, h.swaps⟩

theorem State.standing_trans {s t u : State} (h : s.standing t) (k : t.standing u) : s.standing u :=
  ⟨fun x => (k.exch x).trans (h.exch x), fun n => (k.roles n).trans (h.roles n), State.swapKept_trans h.swaps k.swaps⟩

theorem State.relockBack_standing (s : State) (b : BayNo) (back : Bool) : s.standing (s.relockBack b back) := by
  obtain ⟨bays, exchanges, book, -⟩ := s.relockBack_spec b back
  refine ⟨fun x => State.exch_of exchanges x, fun n => ?_, State.swapKept_of_book s.swapKept_refl book⟩
  obtain ⟨l, hl⟩ := bays n
  rw [hl]

theorem State.judged_standing {s : State} {b : BayNo} (h : s.holdsFast b) (rep : ShortReport) (back : Bool) :
    s.standing (s.judged b rep back) :=
  State.standing_trans (State.standing_of_quiet (State.weighed_quiet h rep)) (State.relockBack_standing _ b back)

/-! ### The exchange's own part of a report -/

/-- The Exchange Controller follows a report that has not moved the exchange already. -/
theorem State.exchangeReport_follow {s : State} {b : BayNo} {x : ExNo} {e : Exchange}
    (hr : (s.bay b).role.exchange? = some x) (he : s.exch x = some e) (back : Bool) :
    s.exchangeReport b (some e) back = s.exchangeFollow x e b back := by
  simp only [State.exchangeReport, hr, he]
  exact if_pos ⟨trivial, trivial⟩

/-- It leaves an exchange that the report has moved to another phase. -/
theorem State.exchangeReport_moved {s : State} {b : BayNo} {x : ExNo} {e f : Exchange}
    (hr : (s.bay b).role.exchange? = some x) (he : s.exch x = some f) (hp : f.phase ≠ e.phase) (back : Bool) :
    s.exchangeReport b (some e) back = s := by
  simp only [State.exchangeReport, hr, he]
  exact if_neg fun k => hp k.1

theorem State.exchangeAt_heard {s : State} {b : BayNo} {x : ExNo} {e : Exchange}
    (hr : (s.bay b).role.exchange? = some x) (he : s.exch x = some e) : (s.heard b).exchangeAt b = some e := by
  rw [State.exchangeAt, s.heard_bay_self]
  show (s.bay b).role.exchange?.bind (s.heard b).exch = some e
  rw [hr]
  exact (State.exch_of (s.heard_exchanges b) x).trans he

/-! ### The end of an arrival -/

/-- The end of a reply's arrival: LINK-DOWN, the READY tests, the pass. -/
def State.finished (s : State) (b : BayNo) : State := (s.clearLinkDown b).settle

/-- A poll's reply, from the judged report on. -/
theorem State.polled_eq {s : State} {b : BayNo} {x : ExNo} {e : Exchange}
    (hr : (s.bay b).role.exchange? = some x) (he : s.exch x = some e) (rep : ShortReport) :
    ∃ follow, s.polled b rep = ((((s.heard b).packed b rep (s.back b)).judged b rep (s.back b)).exchangeReport b
      (some e) follow).finished b := by
  refine ⟨s.back b && !(s.heard b).moved b rep, ?_⟩
  rw [State.polled, State.applyReport_eq, State.exchangeAt_heard hr he]
  rfl

theorem State.clearLinkDown_quiet (s : State) (b : BayNo) : s.quiet (s.clearLinkDown b) := by
  have bus : (s.clearLinkDown b).bus.waiting = s.bus.waiting := by
    unfold State.clearLinkDown
    split <;> rfl
  have exchanges : (s.clearLinkDown b).exchanges = s.exchanges := by
    unfold State.clearLinkDown
    split <;> rfl
  exact ⟨⟨exchanges, fun c => by rw [State.clearLinkDown_bay], fun c => by rw [State.clearLinkDown_bay],
    fun _ _ => by rw [bus]⟩, State.swapKept_of_book s.swapKept_refl (s.clearLinkDown_book b)⟩

theorem State.finished_quiet (s : State) (b : BayNo) : s.quiet (s.finished b) :=
  State.quiet_trans (s.clearLinkDown_quiet b) (State.settle_quiet _)

theorem State.finished_sent {s : State} {p : Port} {n : Notice} (h : s.sent p n) (b : BayNo) :
    (s.finished b).sent p n := State.inner_sent (State.inner_settle (State.inner_refl _)) (State.clearLinkDown_sent h b)

theorem State.finished_kept {P : State → Prop} (K : KeptByTrade P) {s : State} (h : P s) (b : BayNo) :
    P (s.finished b) := K.toMatch.settle (K.clearLinkDown h b)

/-- A waiting door command waits after the arrival's end. -/
theorem State.still_queued {s t : State} (h : s.still t) {b : BayNo} {c : BusCmd} (hc : c.group = .door) :
    t.queued b c ↔ s.queued b c := by
  constructor
  · rintro ⟨k, hk, hb, he⟩
    exact ⟨k, (h.door k (by rw [he]; exact hc)).mp hk, hb, he⟩
  · rintro ⟨k, hk, hb, he⟩
    exact ⟨k, (h.door k (by rw [he]; exact hc)).mpr hk, hb, he⟩

/-- The claims that are open after a poll's reply were open before, with the same terms. -/
theorem State.polled_terms (s : State) (b : BayNo) (rep : ShortReport) : s.termsKept (s.polled b rep) := by
  have K := keptByArrival_terms s
  have heard := State.termsKept_of_book s.termsKept_refl (s.heard_book b)
  exact State.finished_kept K.toTrade (K.applyReport heard b rep (s.back b)) b

/-- No other exchange moves. -/
theorem State.polled_other {s : State} {b : BayNo} {x y : ExNo} (hr : (s.bay b).role.exchange? = some x) (hy : y ≠ x)
    (rep : ShortReport) : (s.polled b rep).exch y = s.exch y := by
  have away : State.away y b (s.heard b) ((s.heard b).applyReport b rep (s.back b)) := by
    refine State.away_applyReport ?_ rep _
    rw [s.heard_bay_self]
    exact fun k => hy (Option.some.inj (k.symm.trans hr))
  have ends := State.still_exch (((s.heard b).applyReport b rep (s.back b)).finished_quiet b).still y
  exact ends.trans (away.1.trans (State.exch_of (s.heard_exchanges b) y))

/-! ### A bay that holds its exchange fast -/

theorem State.removePack_quiet {s : State} {b : BayNo} (h : s.holdsFast b) : s.quiet (s.removePack b) := by
  have K := keptByBay_quiet b s
  unfold State.removePack
  dsimp only
  split
  · exact K.emptyBay s.quiet_refl
  · split
    · exact s.quiet_refl
    · exact K.emptyBay s.quiet_refl
    · exact kept_ite (P := s.quiet) (K.emptyBay s.quiet_refl) (K.clearPack s.quiet_refl)
    · exact State.missPack_quiet h
  · exact kept_ite (P := s.quiet) s.quiet_refl (State.missPack_quiet h)

/-- A removal is nothing to an exchange past its intake result or in TAKE-CLOSING. -/
theorem State.exchangeRemoval_fast {s : State} {b : BayNo} (h : s.holdsFast b)
    (ht : ∀ x e, (s.bay b).role = .take x → s.exch x = some e → e.phase ≠ .takeOpen) :
    s.exchangeRemoval b (s.bay b).role = s := by
  obtain ⟨hi, hb⟩ := h
  unfold State.exchangeRemoval
  split
  · rfl
  · next x hx =>
    split
    · rfl
    · next e he =>
      split
      · next hp => exact absurd hp (ht x e hx he)
      · rfl
      · next h1 h2 =>
        have past := hb x e hx he
        cases hp : e.phase <;> simp_all [Phase.beforeTake]
  · next x hx =>
    split
    · rfl
    · next e he => exact if_neg fun k => (hi x e hx he).2 k.1

theorem State.dropMatchChanged_quiet {s : State} {b : BayNo} (h : s.holdsFast b)
    (ht : ∀ x e, (s.bay b).role = .take x → s.exch x = some e → e.phase ≠ .takeOpen) :
    s.quiet (s.dropMatchChanged b) := by
  unfold State.dropMatchChanged
  split
  · next x hx =>
    split
    · exact s.quiet_refl
    · next e he =>
      rw [if_neg (ht x e hx he)]
      exact State.loseMatch_quiet h.2 _
  · exact State.loseMatch_quiet h.2 _

/-- A report up to its heat, on a bay that holds its exchange fast and, in TAKE-OPEN, keeps its pack. -/
theorem State.packed_fast {s : State} {b : BayNo} {rep : ShortReport} (h : s.holdsFast b)
    (ht : ∀ x e, (s.bay b).role = .take x → s.exch x = some e → e.phase = .takeOpen →
      rep.sensed = true ∧ (s.heard b).moved b rep = false) (back : Bool) :
    (s.based b rep).quiet ((s.heard b).packed b rep back) := by
  have K := keptByBay_quiet b (s.based b rep)
  have start : s.holdsFast b → (s.based b rep).holdsFast b := fun k => by
    refine ⟨fun x e hr he => k.1 x e ?_ ?_, fun x e hr he => k.2 x e ?_ ?_⟩
    · rwa [s.based_role] at hr
    · rwa [s.based_exch] at he
    · rwa [s.based_role] at hr
    · rwa [s.based_exch] at he
  have fast : ∀ {t : State}, (s.based b rep).quiet t → t.holdsFast b := fun q =>
    State.holdsFast_of_still (start h) q.still
  have open_ : ∀ {t : State}, (s.based b rep).quiet t → ∀ x e, (t.bay b).role = .take x → t.exch x = some e →
      e.phase = .takeOpen → rep.sensed = true ∧ (s.heard b).moved b rep = false := fun {t} q x e hr he => by
    rw [q.still.roles, s.based_role] at hr
    rw [State.still_exch q.still, s.based_exch] at he
    exact ht x e hr he
  have fields := s.fields_quiet b rep
  have removed : (s.based b rep).quiet ((s.heard b).removed b rep) := by
    unfold State.removed
    split
    · next hgone =>
      have taken := State.quiet_trans fields (State.removePack_quiet (fast fields))
      have role : ((s.heard b).bay b).role = ((((s.heard b).takeFields b rep).removePack b).bay b).role := by
        rw [taken.still.roles, s.based_role, s.heard_bay_self]
      rw [role, State.exchangeRemoval_fast (fast taken) fun x e hr he hp => ?_]
      · exact taken
      · obtain ⟨present, -⟩ := open_ taken x e hr he hp
        simp [present] at hgone
    · exact fields
  have inserted := K.insertPack removed
  refine kept_ite_of (P := (s.based b rep).quiet) (fun hm => ?_) fun _ =>
    kept_ite (P := (s.based b rep).quiet) (K.restoreLink inserted) inserted
  have changed : ∀ {t : State}, (s.based b rep).quiet t → (s.based b rep).quiet (t.dropMatchChanged b) := fun q =>
    State.quiet_trans q (State.dropMatchChanged_quiet (fast q) fun x e hr he hp => by
      rw [(open_ q x e hr he hp).2] at hm
      cases hm)
  unfold State.readmit
  split
  · exact inserted
  · exact changed (K.clearPack inserted)
  · exact changed (K.startAdmission inserted _)

end Sys2Proof.Machine
end

section
/-! Reports that leave the exchange's earlier part as it is: RETURN-REJECTED, TAKE-CLOSING, an abort in TAKE-OPEN, and
INTAKE-OPEN on a VACANT bay (R115, R118, R120, R127). -/

open Sys2Proof Sys2Proof.Machine
namespace Sys2Proof.Machine

/-! ### An exchange that has ended, at the arrival's end -/

/-- An exchange over: no record, no roles, SWAP-END, and a claim that is not SWAPPING if it is handed back. -/
structure State.over (s : State) (x : ExNo) (e : Exchange) (o : Outcome) (t : State) : Prop where
  gone : t.exch x = none
  roles : ∀ n, e.intake = some n ∨ e.take = some n → (t.bay n).role = .none
  sent : t.sent .terminal (s.notice .swapEnd (.claim e.claim) o.code (x.val + 1))
  free : o.handsBack = true → t.notSwapping e.claim

theorem State.over_endExchange {s u : State} {x : ExNo} {e : Exchange} (he : u.exch x = some e)
    (hc : u.clock = s.clock) (o : Outcome) (locks : List BayNo) (watch : Option BayNo) :
    s.over x e o (u.endExchange x o locks [] watch) := by
  obtain ⟨gone, roles, -, sent, free⟩ := State.endExchange_spec he o locks watch
  exact ⟨(gone x).trans (if_pos rfl), fun n hn => (roles n).trans (if_pos hn),
    by rw [← State.notice_of_clock hc]; exact sent, free⟩

theorem State.over_finished {s t : State} {x : ExNo} {e : Exchange} {o : Outcome} (h : s.over x e o t) (b : BayNo) :
    s.over x e o (t.finished b) := by
  have quiet := t.finished_quiet b
  exact ⟨(State.still_exch quiet.still x).trans h.gone, fun n hn => (quiet.still.roles n).trans (h.roles n hn),
    State.finished_sent h.sent b, fun k =>
      State.finished_kept (keptByArrival_notSwapping e.claim).toTrade (h.free k) b⟩

/-- The LOCK an exchange's end queues for the report's bay, at the arrival's end. -/
theorem State.locked_finished {t : State} {b : BayNo} (hq : t.queued b .lock) (hr : (t.bay b).relock = true) :
    (t.finished b).queued b .lock ∧ ((t.finished b).bay b).relock = true := by
  have still := (t.finished_quiet b).still
  exact ⟨(State.still_queued still rfl).mpr hq, (still.relocks b).trans hr⟩

theorem State.locked_endExchange {u : State} {x : ExNo} {e : Exchange} (he : u.exch x = some e) (o : Outcome) {b : BayNo}
    (hl : (u.bay b).link ≠ .lost) (watch : Option BayNo) :
    (u.endExchange x o [b] [] watch).queued b .lock ∧ ((u.endExchange x o [b] [] watch).bay b).relock = true := by
  obtain ⟨-, -, relocks, -⟩ := State.endExchange_spec he o [b] watch
  exact ⟨State.endExchange_lock he o hl watch, (relocks b).trans (if_pos (List.mem_singleton.mpr rfl))⟩

/-- A claim handed back: not SWAPPING, its terms as they were. -/
theorem State.over_handedBack {s : State} {x : ExNo} {e : Exchange} {o : Outcome} {b : BayNo} {rep : ShortReport}
    (h : s.over x e o (s.polled b rep)) (ho : o.handsBack = true) {c d : Claim} (hc : s.claim? e.claim = some c)
    (hd : (s.polled b rep).claim? e.claim = some d) : d.state ≠ .swapping ∧ d.terms = c.terms := by
  obtain ⟨c', hc', terms, -⟩ := s.polled_terms b rep e.claim d hd
  exact ⟨h.free ho d hd, terms.trans (by rw [Option.some.inj (hc'.symm.trans hc)])⟩

/-! ### A judged report -/

/-- The state as the Exchange Controller finds it at a report. -/
def State.weighedReport (s : State) (b : BayNo) (rep : ShortReport) : State :=
  ((s.heard b).packed b rep (s.back b)).judged b rep (s.back b)

section
variable (s : State) (b : BayNo) (rep : ShortReport)

theorem State.weighedReport_inner : (s.based b rep).inner (s.weighedReport b rep) :=
  State.inner_trans (s.packed_inner b rep _) (State.judged_inner _ b rep _)

theorem State.weighedReport_reads :
    ((s.weighedReport b rep).bay b).door = rep.door ∧ ((s.weighedReport b rep).bay b).latch = rep.latch
      ∧ ((s.weighedReport b rep).bay b).sensed = rep.sensed ∧ ((s.weighedReport b rep).bay b).link = .reachable := by
  obtain ⟨door, latch, sensed, link⟩ := State.inner_reads (s.weighedReport_inner b rep) b
  rw [s.based_bay] at door latch sensed link
  exact ⟨door, latch, sensed, link⟩

theorem State.weighedReport_clock : (s.weighedReport b rep).clock = s.clock :=
  (State.inner_clock (s.weighedReport_inner b rep)).trans (s.based_clock b rep)

end

/-- Where the report's earlier part leaves the exchange, the Exchange Controller follows it. -/
theorem State.polled_follow {s : State} {b : BayNo} {x : ExNo} {e : Exchange} {rep : ShortReport}
    (hr : (s.bay b).role.exchange? = some x) (he : s.exch x = some e)
    (h : (s.based b rep).standing (s.weighedReport b rep)) :
    (s.weighedReport b rep).exch x = some e ∧ ((s.weighedReport b rep).bay b).role = (s.bay b).role
      ∧ ∃ follow, s.polled b rep = ((s.weighedReport b rep).exchangeFollow x e b follow).finished b := by
  have exch : (s.weighedReport b rep).exch x = some e := (h.exch x).trans ((s.based_exch b rep x).trans he)
  have role : ((s.weighedReport b rep).bay b).role = (s.bay b).role := (h.roles b).trans (s.based_role b rep b)
  obtain ⟨follow, hp⟩ := State.polled_eq hr he rep
  refine ⟨exch, role, follow, hp.trans ?_⟩
  show ((s.weighedReport b rep).exchangeReport b (some e) follow).finished b = _
  rw [State.exchangeReport_follow (by rw [role]; exact hr) exch]

/-- A bay that holds its exchange fast, and in TAKE-OPEN keeps its pack. -/
theorem State.weighedReport_fast {s : State} {b : BayNo} {rep : ShortReport} (h : s.holdsFast b)
    (ht : ∀ x e, (s.bay b).role = .take x → s.exch x = some e → e.phase = .takeOpen →
      rep.sensed = true ∧ (s.heard b).moved b rep = false) :
    (s.based b rep).standing (s.weighedReport b rep) := by
  have packed := State.packed_fast h ht (s.back b)
  have start : (s.based b rep).holdsFast b := by
    refine ⟨fun x e hr he => h.1 x e ?_ ?_, fun x e hr he => h.2 x e ?_ ?_⟩
    · rwa [s.based_role] at hr
    · rwa [s.based_exch] at he
    · rwa [s.based_role] at hr
    · rwa [s.based_exch] at he
  exact State.standing_trans (State.standing_of_quiet packed)
    (State.judged_standing (State.holdsFast_of_still start packed.still) rep _)

/-- One phase of the exchange of a bay's role decides whether the bay holds it fast. -/
theorem State.holdsFast_of_phase {s : State} {b : BayNo} {x : ExNo} {e : Exchange} (he : s.exch x = some e)
    (h : ((s.bay b).role = .intake x ∧ e.phase ≠ .intakeOpen ∧ e.phase ≠ .intakeCheck)
      ∨ ((s.bay b).role = .take x ∧ e.phase.beforeTake = false)) : s.holdsFast b := by
  rcases h with ⟨hr, ho, hc⟩ | ⟨hr, hp⟩
  · refine ⟨fun y f hy hf => ?_, fun y f hy _ => by rw [hr] at hy; cases hy⟩
    obtain rfl := Role.intake.inj (hr.symm.trans hy)
    obtain rfl := Option.some.inj (he.symm.trans hf)
    exact ⟨ho, hc⟩
  · refine ⟨fun y f hy _ => (by rw [hr] at hy; cases hy), fun y f hy hf => ?_⟩
    obtain rfl := Role.take.inj (hr.symm.trans hy)
    obtain rfl := Option.some.inj (he.symm.trans hf)
    exact hp

/-! ### RETURN-REJECTED (R118) -/

theorem State.polled_returnRejected {s : State} {b : BayNo} {x : ExNo} {e : Exchange} {rep : ShortReport}
    (hr : (s.bay b).role = .intake x) (he : s.exch x = some e) (hp : e.phase = .returnRejected)
    (hs : rep.sensed = false) (hd : rep.door = .closed) :
    s.over x e .returnRejected (s.polled b rep) ∧ (s.polled b rep).queued b .lock
      ∧ ((s.polled b rep).bay b).relock = true := by
  have fast := State.holdsFast_of_phase he (.inl ⟨hr, by rw [hp]; exact nofun, by rw [hp]; exact nofun⟩)
  have stands := State.weighedReport_fast (rep := rep) fast fun y f hy _ => by rw [hr] at hy; cases hy
  obtain ⟨exch, role, follow, polled⟩ := State.polled_follow (by rw [hr]; rfl) he stands
  obtain ⟨door, -, sensed, link⟩ := s.weighedReport_reads b rep
  have ends : (s.weighedReport b rep).exchangeFollow x e b follow
      = (s.weighedReport b rep).endExchange x .returnRejected [b] [] none := by
    simp only [State.exchangeFollow, hp, role, hr]
    exact if_pos ⟨sensed.trans hs, door.trans hd⟩
  rw [polled, ends]
  obtain ⟨queued, relock⟩ := State.locked_endExchange exch .returnRejected (b := b) (by rw [link]; exact nofun) none
  exact ⟨State.over_finished (State.over_endExchange exch (s.weighedReport_clock b rep) _ _ _) b,
    State.locked_finished queued relock⟩

/-! ### TAKE-CLOSING (R120) -/

theorem State.weighedReport_closing {s : State} {b : BayNo} {x : ExNo} {e : Exchange} (rep : ShortReport)
    (hr : (s.bay b).role = .take x) (he : s.exch x = some e) (hp : e.phase = .takeClosing) :
    (s.based b rep).standing (s.weighedReport b rep) := by
  have fast := State.holdsFast_of_phase he (.inr ⟨hr, by rw [hp]; rfl⟩)
  refine State.weighedReport_fast fast fun y f hy hf ho => ?_
  obtain rfl := Role.take.inj (hr.symm.trans hy)
  obtain rfl := Option.some.inj (he.symm.trans hf)
  exact nomatch hp.symm.trans ho

theorem State.polled_closing_done {s : State} {b : BayNo} {x : ExNo} {e : Exchange} {rep : ShortReport}
    (hr : (s.bay b).role = .take x) (he : s.exch x = some e) (hp : e.phase = .takeClosing) (hd : rep.door = .closed) :
    s.over x e .done (s.polled b rep) ∧ (s.polled b rep).queued b .lock
      ∧ ((s.polled b rep).bay b).relock = true := by
  have stands := State.weighedReport_closing rep hr he hp
  obtain ⟨exch, role, follow, polled⟩ := State.polled_follow (by rw [hr]; rfl) he stands
  obtain ⟨door, -, -, link⟩ := s.weighedReport_reads b rep
  have ends : (s.weighedReport b rep).exchangeFollow x e b follow
      = (s.weighedReport b rep).endExchange x .done [b] [] none := by
    simp only [State.exchangeFollow, hp, role, hr]
    exact if_pos (door.trans hd)
  rw [polled, ends]
  obtain ⟨queued, relock⟩ := State.locked_endExchange exch .done (b := b) (by rw [link]; exact nofun) none
  exact ⟨State.over_finished (State.over_endExchange exch (s.weighedReport_clock b rep) _ _ _) b,
    State.locked_finished queued relock⟩

/-- An exchange that the report leaves where it is. -/
theorem State.polled_unmoved {s : State} {b : BayNo} {x : ExNo} {e : Exchange} {rep : ShortReport}
    (hr : (s.bay b).role.exchange? = some x) (he : s.exch x = some e)
    (h : (s.based b rep).standing (s.weighedReport b rep))
    (hf : ∀ follow, (s.weighedReport b rep).exchangeFollow x e b follow = s.weighedReport b rep) :
    (s.polled b rep).exch x = some e ∧ ((s.polled b rep).bay b).role = (s.bay b).role
      ∧ (s.weighedReport b rep).calmSame (s.polled b rep) := by
  obtain ⟨exch, role, follow, polled⟩ := State.polled_follow hr he h
  rw [polled, hf]
  have quiet := (s.weighedReport b rep).finished_quiet b
  exact ⟨(State.still_exch quiet.still x).trans exch, (quiet.still.roles b).trans role,
    State.finished_kept (keptByTrade_calm _) (State.calmSame_refl _) b⟩

theorem State.polled_closing_open {s : State} {b : BayNo} {x : ExNo} {e : Exchange} {rep : ShortReport}
    (hr : (s.bay b).role = .take x) (he : s.exch x = some e) (hp : e.phase = .takeClosing) (hd : rep.door = .opened) :
    (s.polled b rep).exch x = some e ∧ ((s.polled b rep).bay b).role = (s.bay b).role := by
  have stands := State.weighedReport_closing rep hr he hp
  obtain ⟨-, role, -⟩ := State.polled_follow (by rw [hr]; rfl) he stands
  obtain ⟨door, -⟩ := s.weighedReport_reads b rep
  obtain ⟨exch, kept, -⟩ := State.polled_unmoved (by rw [hr]; rfl) he stands fun follow => by
    have ajar : ((s.weighedReport b rep).bay b).door ≠ .closed := by rw [door, hd]; exact nofun
    simp only [State.exchangeFollow, hp, role, hr]
    exact if_neg ajar
  exact ⟨exch, kept⟩

/-! ### An abort in TAKE-OPEN (R127) -/

theorem State.polled_takeOpen_aborted {s : State} {b : BayNo} {x : ExNo} {e : Exchange} {rep : ShortReport}
    (hr : (s.bay b).role = .take x) (he : s.exch x = some e) (hp : e.phase = .takeOpen) (ha : e.abort = true)
    (hs : rep.sensed = true) (hc : rep.count = (s.bay b).count) (hrs : rep.restart = false) (hd : rep.door = .closed)
    (hl : rep.latch = .locked) : s.over x e .aborted (s.polled b rep) := by
  have fast := State.holdsFast_of_phase he (.inr ⟨hr, by rw [hp]; rfl⟩)
  have unmoved : (s.heard b).moved b rep = false := by simp [State.moved, State.heard_bay_self, hc, hrs]
  have stands := State.weighedReport_fast (rep := rep) fast fun _ _ _ _ _ => ⟨hs, unmoved⟩
  obtain ⟨exch, role, follow, polled⟩ := State.polled_follow (by rw [hr]; rfl) he stands
  obtain ⟨door, latch, sensed, -⟩ := s.weighedReport_reads b rep
  have ends : (s.weighedReport b rep).exchangeFollow x e b follow
      = (s.weighedReport b rep).endExchange x .aborted [] [] none := by
    simp only [State.exchangeFollow, hp, role, hr, ha, if_true]
    exact if_pos ⟨door.trans hd, latch.trans hl, sensed.trans hs⟩
  rw [polled, ends]
  exact State.over_finished (State.over_endExchange exch (s.weighedReport_clock b rep) _ _ _) b

/-! ### INTAKE-OPEN on a VACANT bay (R115, R127) -/

/-- A VACANT intake bay has nothing judged but its band. -/
theorem State.weighed_vacant {s : State} {b : BayNo} {rep : ShortReport} {x : ExNo} (hr : coolReport rep)
    (hs : (s.bay b).state = .vacant) (hrole : (s.bay b).role = .intake x) :
    s.weighed b rep = (s.rebandBay b).dropWatch b := by
  obtain ⟨band, cap, g, -, hb⟩ := s.rebandBay_bay b
  have state : ((s.rebandBay b).bay b).state = .vacant := by rw [hb]; exact hs
  have idle : (s.rebandBay b).fillTest b = s.rebandBay b := State.fillTest_else
    (fun _ _ k _ => by rw [state] at k; cases k) fun _ _ k _ => by rw [state] at k; cases k
  rw [State.weighed, State.takeHeat_cool s hr, State.takeSession_idle (by rw [state]; exact nofun), idle,
    State.takeDoor_role (by rw [hb, hrole]; exact nofun)]

/-- A report that admits nothing in a VACANT intake bay of INTAKE-OPEN: the fields alone. -/
theorem State.packed_vacant {s : State} {b : BayNo} {x : ExNo} {e : Exchange} {rep : ShortReport}
    (hr : (s.bay b).role = .intake x) (he : s.exch x = some e) (hp : e.phase = .intakeOpen)
    (hs : (s.bay b).state = .vacant) (hn : rep.sensed = false ∨ rep.door = .opened) (back : Bool) :
    (s.heard b).packed b rep back = (s.heard b).takeFields b rep := by
  obtain ⟨g, -, hg, -⟩ := s.heard_fields b rep
  set f := (s.heard b).takeFields b rep with hf
  have frole : (f.bay b).role = .intake x := by rw [hg]; exact hr
  have fstate : (f.bay b).state = .vacant := by rw [hg]; exact hs
  have fexch : f.exch x = some e := by
    rw [hf, State.still_exch (s.fields_quiet b rep).still, s.based_exch]
    exact he
  have kept : f.removePack b = f := by simp only [State.removePack, frole, fstate]
  have unread : f.exchangeRemoval b (.intake x) = f := by
    simp only [State.exchangeRemoval, fexch, hp]
    exact if_neg nofun
  have removed : (s.heard b).removed b rep = f := by
    have role : ((s.heard b).bay b).role = .intake x := by rw [s.heard_bay_self]; exact hr
    rw [State.removed, ← hf, kept, role, unread, ite_self]
  have insert : f.insertPack b = f := by
    refine if_neg ?_
    rw [hg]
    rcases hn with h | h <;> simp [Bay.admits, Bay.report, Bay.answered, h, hr]
  have still : (s.heard b).moved b rep = false := by simp [State.moved, State.heard_bay_self, hs]
  have restore : f.restoreLink b = f := by simp only [State.restoreLink, fstate]
  rw [State.packed, still, removed, insert, restore, ite_self]
  rfl

theorem State.weighedReport_vacant {s : State} {b : BayNo} {x : ExNo} {e : Exchange} {rep : ShortReport}
    (hr : (s.bay b).role = .intake x) (he : s.exch x = some e) (hp : e.phase = .intakeOpen)
    (hs : (s.bay b).state = .vacant) (hn : rep.sensed = false ∨ rep.door = .opened) (hc : coolReport rep) :
    (s.based b rep).standing (s.weighedReport b rep) ∧ ((s.weighedReport b rep).bay b).state = .vacant := by
  obtain ⟨g, -, hg, -⟩ := s.heard_fields b rep
  have packed := State.packed_vacant hr he hp hs hn (s.back b)
  have whole : s.weighedReport b rep
      = ((((s.heard b).takeFields b rep).rebandBay b).dropWatch b).relockBack b (s.back b) := by
    rw [State.weighedReport, packed, State.judged_eq, State.weighed_vacant hc (by rw [hg]; exact hs) (by rw [hg]; exact hr)]
  have K := keptByBay_quiet b (s.based b rep)
  have judged := K.dropWatch (K.rebandBay (s.fields_quiet b rep))
  obtain ⟨band, cap, g', -, hb⟩ := ((s.heard b).takeFields b rep).rebandBay_bay b
  obtain ⟨w, l, hl⟩ := (((s.heard b).takeFields b rep).rebandBay b).lists_bay b (s.back b) b
  rw [whole]
  refine ⟨State.standing_trans (State.standing_of_quiet judged) (State.relockBack_standing _ b _), ?_⟩
  rw [hl, hb, hg]
  exact hs

/-- A waiting abort ends the exchange on a shut, locked, empty bay (R127). -/
theorem State.polled_intakeOpen_aborted {s : State} {b : BayNo} {x : ExNo} {e : Exchange} {rep : ShortReport}
    (hr : (s.bay b).role = .intake x) (he : s.exch x = some e) (hp : e.phase = .intakeOpen)
    (hs : (s.bay b).state = .vacant) (ha : e.abort = true) (hd : rep.door = .closed) (hl : rep.latch = .locked)
    (hn : rep.sensed = false) : s.over x e .aborted (s.polled b rep) := by
  obtain ⟨stands, -⟩ := State.weighedReport_vacant hr he hp hs (.inl hn) fun k => nomatch hn.symm.trans k
  obtain ⟨exch, role, follow, polled⟩ := State.polled_follow (by rw [hr]; rfl) he stands
  obtain ⟨door, latch, sensed, -⟩ := s.weighedReport_reads b rep
  have ends : (s.weighedReport b rep).exchangeFollow x e b follow
      = (s.weighedReport b rep).endExchange x .aborted [] [] ((s.weighedReport b rep).watchIfLeft b) := by
    have unsensed : ¬(((s.weighedReport b rep).bay b).door = .closed ∧ ((s.weighedReport b rep).bay b).sensed = true) := by
      rw [sensed, hn]
      exact fun k => nomatch k.2
    simp only [State.exchangeFollow, hp, role, hr]
    rw [if_neg unsensed]
    exact if_pos ⟨ha, door.trans hd, latch.trans hl, sensed.trans hn⟩
  rw [polled, ends]
  exact State.over_finished (State.over_endExchange exch (s.weighedReport_clock b rep) _ _ _) b

/-- An open door, or an empty bay with no abort to settle, moves nothing. -/
theorem State.polled_intakeOpen_waits {s : State} {b : BayNo} {x : ExNo} {e : Exchange} {rep : ShortReport}
    (hr : (s.bay b).role = .intake x) (he : s.exch x = some e) (hp : e.phase = .intakeOpen)
    (hs : (s.bay b).state = .vacant)
    (h : (rep.door = .opened ∧ coolReport rep)
      ∨ (rep.door = .closed ∧ rep.sensed = false ∧ (e.abort = false ∨ rep.latch = .unlocked))) :
    (s.polled b rep).exch x = some e ∧ ((s.polled b rep).bay b).state = .vacant
      ∧ ((s.polled b rep).bay b).role = (s.bay b).role := by
  have hn : rep.sensed = false ∨ rep.door = .opened := h.symm.imp (fun k => k.2.1) fun k => k.1
  have hc : coolReport rep := by
    rcases h with k | k
    · exact k.2
    · exact fun p => nomatch k.2.1.symm.trans p
  obtain ⟨stands, state⟩ := State.weighedReport_vacant hr he hp hs hn hc
  obtain ⟨-, role, -⟩ := State.polled_follow (by rw [hr]; rfl) he stands
  obtain ⟨door, latch, sensed, -⟩ := s.weighedReport_reads b rep
  obtain ⟨exch, kept, calm⟩ := State.polled_unmoved (by rw [hr]; rfl) he stands fun follow => by
    simp only [State.exchangeFollow, hp, role, hr, door, latch, sensed]
    obtain ⟨k, -⟩ | ⟨-, k, ha | ha⟩ := h
    · simp [k]
    · simp [k, ha]
    · simp [k, ha]
  obtain ⟨-, -, -, -, -, -, -, -, keep⟩ := Bay.calm_fields (calm.1 b)
  exact ⟨exch, (keep (by simp [Bay.holdsCharged, state])).trans state, kept⟩

/-- An exchange that has entered a phase. -/
structure State.inPhase (s : State) (b : BayNo) (x : ExNo) (e : Exchange) (ph : Phase) (t : State) : Prop where
  exch : t.exch x = some { e with phase := ph, deadline := ph.length, relink := false }
  role : (t.bay b).role = (s.bay b).role
  sent : t.sent .terminal (s.notice .swapPhase (.claim e.claim) (ph.code + 1) (x.val + 1))

theorem State.inPhase_enter {s u : State} {b : BayNo} {x : ExNo} {e : Exchange} (he : u.exch x = some e)
    (hr : (u.bay b).role = (s.bay b).role) (hc : u.clock = s.clock) (ph : Phase) :
    s.inPhase b x e ph (u.enterPhase x ph) := by
  refine ⟨?_, by rw [State.enterPhase_bay]; exact hr, ?_⟩
  · rw [State.enterPhase_exch he, if_pos rfl]
  · rw [← State.notice_of_clock hc]
    exact State.enterPhase_sent he ph

theorem State.inPhase_kept {s t u : State} {b : BayNo} {x : ExNo} {e : Exchange} {ph : Phase}
    (h : s.inPhase b x e ph t) (hx : u.exch x = t.exch x) (hr : (u.bay b).role = (t.bay b).role)
    (hs : ∀ p n, t.sent p n → u.sent p n) : s.inPhase b x e ph u :=
  ⟨hx.trans h.exch, hr.trans h.role, hs _ _ h.sent⟩

theorem State.inPhase_finished {s t : State} {b : BayNo} {x : ExNo} {e : Exchange} {ph : Phase}
    (h : s.inPhase b x e ph t) (n : BayNo) : s.inPhase b x e ph (t.finished n) := by
  have quiet := t.finished_quiet n
  exact State.inPhase_kept h (State.still_exch quiet.still x) (quiet.still.roles b) fun _ _ k => State.finished_sent k n

/-- The door shut on a pack: INTAKE-CHECK, with LOCK and the admission's IDENTIFY (R115). -/
theorem State.polled_intakeOpen_shut {s : State} {b : BayNo} {x : ExNo} {e : Exchange} {rep : ShortReport}
    (hr : (s.bay b).role = .intake x) (he : s.exch x = some e) (hp : e.phase = .intakeOpen)
    (hs : (s.bay b).state = .vacant) (h : pluggedReport rep) :
    let t := s.polled b rep
    s.inPhase b x e .intakeCheck t ∧ s.swapKept t ∧ s.admittedAnew b t ∧ t.queued b .lock ∧ (t.bay b).relock = true := by
  obtain ⟨anew, wdoor, wrole, -⟩ := s.heard_admission b rep
  have packed := State.packed_inserted h hs (s.back b)
  set w := ((s.heard b).takeFields b rep).startAdmission b .insertion with hw
  have admitted := (State.polled_admitted h packed anew (wdoor.trans h.2.1)).1
  have quiet : (s.based b rep).quiet w := (keptByBay_quiet b _).startAdmission (s.fields_quiet b rep) _
  have judged : s.weighedReport b rep = (w.dropWatch b).relockBack b (s.back b) := by
    rw [State.weighedReport, packed]
    exact State.judged_bare (pluggedReport_cool h) anew.2.1 (by rw [anew.1]; exact nofun)
      (State.takeDoor_closed (by rw [wdoor, h.2.1]; exact nofun)) _
  have stands : (s.based b rep).standing (s.weighedReport b rep) := by
    rw [judged]
    exact State.standing_trans (State.standing_of_quiet ((keptByBay_quiet b _).dropWatch quiet))
      (State.relockBack_standing _ b _)
  obtain ⟨exch, role, follow, polled⟩ := State.polled_follow (by rw [hr]; rfl) he stands
  obtain ⟨door, -, sensed, link⟩ := s.weighedReport_reads b rep
  set j := s.weighedReport b rep with hj
  have moves : j.exchangeFollow x e b follow = (j.queueLock b).enterPhase x .intakeCheck := by
    simp only [State.exchangeFollow, hp, role, hr]
    exact if_pos ⟨door.trans h.2.1, sensed.trans h.1⟩
  have locked : ((j.queueLock b).bay b).role = (s.bay b).role ∧ ((j.queueLock b).bay b).relock = true := by
    rw [State.queueLock_bay, if_pos rfl]
    exact ⟨role, rfl⟩
  have clock : (j.queueLock b).clock = s.clock :=
    (State.inner_clock (State.inner_queueLock j.inner_refl b)).trans (s.weighedReport_clock b rep)
  have entered := State.inPhase_enter (s := s) (by rw [State.queueLock_exch]; exact exch) locked.1 clock .intakeCheck
  have queued : ((j.queueLock b).enterPhase x .intakeCheck).queued b .lock := by
    rw [State.queued, State.enterPhase_bus]
    exact State.queueLock_queued (by rw [link]; exact nofun)
  have swaps : s.swapKept ((j.queueLock b).enterPhase x .intakeCheck) :=
    State.swapKept_of_book (State.swapKept_trans (State.swapKept_of_book s.swapKept_refl (s.heard_book b)) stands.swaps)
      ((State.enterPhase_book _ _ _).trans (j.queueLock_book b))
  have final := (((j.queueLock b).enterPhase x .intakeCheck).finished_quiet b)
  rw [moves] at polled
  rw [polled] at admitted ⊢
  exact ⟨State.inPhase_finished entered b, State.swapKept_trans swaps final.swaps, admitted,
    State.locked_finished queued (by rw [State.enterPhase_bay]; exact locked.2)⟩

end Sys2Proof.Machine
end

section
/-! A fault of the intake bay before its admission's result: RETURN-REJECTED (R115, R116, R118). -/

open Sys2Proof Sys2Proof.Machine
namespace Sys2Proof.Machine

/-- RETURN-REJECTED entered by a fault of the report's bay, which has UNLOCK queued and is off the relock list. -/
structure State.rejected (s : State) (b : BayNo) (x : ExNo) (e : Exchange) (t : State) : Prop where
  phase : s.inPhase b x e .returnRejected t
  swaps : s.swapKept t
  state : (t.bay b).state = .faulted
  cause : (t.bay b).cause ≠ none
  unlock : t.queued b .unlock
  relock : (t.bay b).relock = false

section
variable {s t u : State} {b : BayNo} {x : ExNo} {e : Exchange}

theorem State.rejected_quiet (h : s.rejected b x e t) (q : t.quiet u) (i : t.inner u)
    (hs : (u.bay b).state = (t.bay b).state) (hc : (u.bay b).cause ≠ none) : s.rejected b x e u where
  phase := State.inPhase_kept h.phase (State.still_exch q.still x) (q.still.roles b) fun _ _ => State.inner_sent i
  swaps := State.swapKept_trans h.swaps q.swaps
  state := hs.trans h.state
  cause := hc
  unlock := (State.still_queued q.still rfl).mpr h.unlock
  relock := (q.still.relocks b).trans h.relock

theorem State.rejected_fast (h : s.rejected b x e t) (hr : (s.bay b).role = .intake x) : t.holdsFast b :=
  State.holdsFast_of_phase h.phase.exch (.inl ⟨h.phase.role.trans hr, nofun, nofun⟩)

theorem State.rejected_raiseFault (h : s.rejected b x e t) (hr : (s.bay b).role = .intake x) (k : FaultCause)
    (value : Nat) (ending : Bool) : s.rejected b x e (t.raiseFault b k value ending) := by
  obtain ⟨old, hold⟩ := Option.ne_none_iff_exists'.mp h.cause
  obtain ⟨g, hg⟩ := State.raiseFault_held hold k value ending
  exact State.rejected_quiet h (State.raiseFault_quiet (State.rejected_fast h hr) k value ending)
    (State.inner_raiseFault t.inner_refl b k value ending) (by rw [hg]) (by rw [hg]; exact nofun)

/-- The fault itself, on a bay that holds no cause. -/
theorem State.raiseFault_rejects (hr : (s.bay b).role = .intake x) (role : (t.bay b).role = (s.bay b).role)
    (he : t.exch x = some e) (hp : e.phase = .intakeOpen ∨ e.phase = .intakeCheck) (hl : (t.bay b).link ≠ .lost)
    (clock : t.clock = s.clock) (swaps : s.swapKept t) (hc : (t.bay b).cause = none) {k : FaultCause}
    (hk : k ≠ .profile) (value : Nat) : s.rejected b x e (t.raiseFault b k value false) := by
  obtain ⟨state, cause, -⟩ := State.raiseFault_fresh hc k value false
  set u := (t.faultBay b k).loseMatch b k.loss with hu
  have faulted : t.quiet (t.faultBay b k) := (keptByBay_quiet b t).faultBay t.quiet_refl k
  have quiet : t.quiet u := State.quiet_trans faulted (State.loseMatch_quiet (fun y f hy _ => by
    rw [faulted.still.roles, role, hr] at hy
    cases hy) k.loss)
  have inner : t.inner u := State.inner_loseMatch (t.faultBay_inner b k) b k.loss
  have urole : (u.bay b).role = (s.bay b).role := (quiet.still.roles b).trans role
  have uexch : u.exch x = some e := (State.still_exch quiet.still x).trans he
  obtain ⟨-, -, -, link⟩ := State.inner_reads inner b
  set v := (u.queueUnlock b).enterPhase x .returnRejected with hv
  have rejects : u.rejectIntake b = v := by
    simp only [State.rejectIntake, urole, hr, uexch]
    obtain h | h := hp
    · simp only [h]
      rfl
    · simp only [h]
      rfl
  have unlocked : ((u.queueUnlock b).bay b).role = (s.bay b).role ∧ ((u.queueUnlock b).bay b).relock = false := by
    rw [State.queueUnlock_bay, if_pos rfl]
    exact ⟨urole, rfl⟩
  have vphase : s.inPhase b x e .returnRejected v := State.inPhase_enter (by rw [State.queueUnlock_exch]; exact uexch)
    unlocked.1 ((State.inner_clock (State.inner_queueUnlock inner b)).trans clock) _
  have vswaps : s.swapKept v := State.swapKept_of_book (State.swapKept_trans swaps quiet.swaps)
    ((State.enterPhase_book _ _ _).trans (u.queueUnlock_book b))
  have vunlock : v.queued b .unlock := by
    rw [State.queued, hv, State.enterPhase_bus]
    exact State.queueUnlock_queued (by rw [link]; exact hl)
  have rest : v.quiet (t.raiseFault b k value false) ∧ v.inner (t.raiseFault b k value false) := by
    have told := State.inner_notify v.inner_refl .bayFault (.bay b) k.code value
    have heard := (keptByBay_quiet b v).notify v.quiet_refl .bayFault (.bay b) k.code value
    have whole : t.raiseFault b k value false
        = if (t.bay b).admission.isSome && decide (k = .packError) then
            (v.notify .bayFault (.bay b) k.code value).watchResult b
          else v.notify .bayFault (.bay b) k.code value := by
      rw [State.raiseFault_new hc, State.becomeFaulted_eq, ← hu, ← rejects]
      simp [hk]
    rw [whole]
    exact ⟨kept_ite (P := v.quiet) ((keptByBay_quiet b v).watchResult heard) heard,
      State.inner_ite (State.inner_watchResult told b) told⟩
  obtain ⟨q, i⟩ := rest
  exact ⟨State.inPhase_kept vphase (State.still_exch q.still x) (q.still.roles b) fun _ _ => State.inner_sent i,
    State.swapKept_trans vswaps q.swaps, state, by rw [cause]; exact nofun, (State.still_queued q.still rfl).mpr vunlock,
    (q.still.relocks b).trans (by rw [hv, State.enterPhase_bay]; exact unlocked.2)⟩

/-- The heat of a report that is not cool. -/
theorem State.takeHeat_rejects {rep : ShortReport} (hr : (s.bay b).role = .intake x)
    (role : (t.bay b).role = (s.bay b).role) (he : t.exch x = some e)
    (hp : e.phase = .intakeOpen ∨ e.phase = .intakeCheck) (hl : (t.bay b).link ≠ .lost) (clock : t.clock = s.clock)
    (swaps : s.swapKept t) (hc : (t.bay b).cause = none) (hs : rep.sensed = true)
    (hot : ¬(rep.packFault = false ∧ rep.temp < 65)) : s.rejected b x e (t.takeHeat b rep) := by
  have fault : ∀ {k : FaultCause} (value : Nat), k ≠ .profile → s.rejected b x e (t.raiseFault b k value false) :=
    fun value hk => State.raiseFault_rejects hr role he hp hl clock swaps hc hk value
  have banded : ∀ {w : State}, s.rejected b x e w → s.rejected b x e (w.rebandBay b) := fun {w} h => by
    obtain ⟨band, cap, g, -, hb⟩ := w.rebandBay_bay b
    exact State.rejected_quiet h ((keptByBay_quiet b w).rebandBay w.quiet_refl) (State.inner_rebandBay w.inner_refl b)
      (by rw [hb]) (by rw [hb]; exact h.cause)
  unfold State.takeHeat
  refine banded ?_
  by_cases hf : rep.packFault = true
  · have h1 := fault 1 (k := .packError) nofun
    simp only [hs, hf, Bool.and_self, if_true]
    exact kept_ite (P := s.rejected b x e) (State.rejected_raiseFault h1 hr _ _ _) h1
  · have warm : faultLimit ≤ clampTemp rep.temp := by
      have h65 : ¬ rep.temp < 65 := fun k => hot ⟨by simpa using hf, k⟩
      simp only [faultLimit, clampTemp]
      omega
    simp only [hs, hf, warm, Bool.and_false, Bool.false_eq_true, if_false, decide_true, Bool.and_self, if_true]
    exact fault _ nofun

end

/-! ### The report up to its heat -/

theorem State.dropMatchChanged_intake {s : State} {b : BayNo} {x : ExNo} (h : (s.bay b).role = .intake x) :
    s.dropMatchChanged b = s.loseMatch b .packChanged := by
  simp only [State.dropMatchChanged, h]

theorem State.restoreLink_cause (s : State) (b : BayNo) : ((s.restoreLink b).bay b).cause = (s.bay b).cause := by
  have identify : ∀ t : State, ((t.queueIdentify b).bay b).cause = (t.bay b).cause := fun t => by
    unfold State.queueIdentify
    split
    · rfl
    · split
      · rw [State.modBay_bay_self]
      · rw [State.modBus_bay, State.modBay_bay_self]
  unfold State.restoreLink
  dsimp only
  split
  · split
    · rfl
    · split
      · rw [State.resumeAdmission, identify, State.modBay_bay_self]
      · rfl
  · rw [State.queueCmd_bay]
  · rw [State.queueCmd_bay]
  · rfl

theorem State.startAdmission_cause {s : State} {b : BayNo} (hl : (s.bay b).link ≠ .lost) :
    ((s.startAdmission b .insertion).bay b).cause = none := by
  obtain ⟨⟨g, cap, hb, -⟩, -⟩ := State.startAdmission_insertion hl
  rw [hb]

/-- An intake bay that senses a pack: no role moves, and a bay without a cause keeps none. -/
theorem State.packed_intake {s : State} {b : BayNo} {x : ExNo} {rep : ShortReport} (hr : (s.bay b).role = .intake x)
    (hc : (s.bay b).cause = none) (hs : rep.sensed = true) (back : Bool) :
    (s.based b rep).quiet ((s.heard b).packed b rep back) ∧ (((s.heard b).packed b rep back).bay b).cause = none := by
  have K := keptByBay_quiet b (s.based b rep)
  have bare : ∀ {t : State}, (s.based b rep).quiet t → (t.bay b).cause = none →
      (s.based b rep).quiet (t.dropMatchChanged b) ∧ ((t.dropMatchChanged b).bay b).cause = none := fun {t} q h => by
    have role : (t.bay b).role = .intake x := (q.still.roles b).trans ((s.based_role b rep b).trans hr)
    rw [State.dropMatchChanged_intake role]
    have calm := (keptByTrade_calm t).loseMatch t.calmSame_refl b .packChanged
    obtain ⟨-, cause, -⟩ := Bay.calm_fields (calm.1 b)
    exact ⟨State.quiet_trans q (State.loseMatch_quiet (fun y f hy _ => by rw [role] at hy; cases hy) _), cause.trans h⟩
  set f := (s.heard b).takeFields b rep with hf
  have fbay : (f.bay b).cause = none ∧ (f.bay b).link ≠ .lost := by
    obtain ⟨g, -, hg, -⟩ := s.heard_fields b rep
    rw [hf, hg]
    exact ⟨hc, nofun⟩
  have inserted : (s.based b rep).quiet (f.insertPack b) ∧ ((f.insertPack b).bay b).cause = none
      ∧ ((f.insertPack b).bay b).link ≠ .lost := by
    have inner : f.inner (f.insertPack b) := State.inner_insertPack f.inner_refl b
    obtain ⟨-, -, -, link⟩ := State.inner_reads inner b
    refine ⟨K.insertPack (s.fields_quiet b rep), ?_, by rw [link]; exact fbay.2⟩
    unfold State.insertPack
    split
    · exact State.startAdmission_cause fbay.2
    · exact fbay.1
  obtain ⟨iquiet, icause, ilink⟩ := inserted
  rw [State.packed_present hs, ← hf]
  split
  · unfold State.readmit
    split
    · exact ⟨iquiet, icause⟩
    · obtain ⟨g, cap, hg⟩ := (f.insertPack b).clearPack_bay b
      obtain ⟨band, ceiling, hw⟩ := ((f.insertPack b).bay b).withoutPack_eq
      exact bare (K.clearPack iquiet) (by rw [hg, hw]; exact icause)
    · exact bare (K.startAdmission iquiet _) (State.startAdmission_cause ilink)
  · split
    · exact ⟨K.restoreLink iquiet, (State.restoreLink_cause _ b).trans icause⟩
    · exact ⟨iquiet, icause⟩

/-- A pack fault, or the fault limit, in the report of an intake bay whose exchange waits for its pack. -/
theorem State.polled_rejected {s : State} {b : BayNo} {x : ExNo} {e : Exchange} {rep : ShortReport}
    (hr : (s.bay b).role = .intake x) (he : s.exch x = some e)
    (hp : e.phase = .intakeOpen ∨ e.phase = .intakeCheck) (hc : (s.bay b).cause = none) (hs : rep.sensed = true)
    (hot : ¬(rep.packFault = false ∧ rep.temp < 65)) : s.rejected b x e (s.polled b rep) := by
  obtain ⟨quiet, cause⟩ := State.packed_intake hr hc hs (s.back b)
  have inner := s.packed_inner b rep (s.back b)
  obtain ⟨follow, polled⟩ := State.polled_eq (by rw [hr]; rfl) he rep
  set p := (s.heard b).packed b rep (s.back b)
  obtain ⟨-, -, -, link⟩ := State.inner_reads inner b
  rw [s.based_bay] at link
  have heat : s.rejected b x e (p.takeHeat b rep) := State.takeHeat_rejects hr
    ((quiet.still.roles b).trans (s.based_role b rep b))
    ((State.still_exch quiet.still x).trans ((s.based_exch b rep x).trans he)) hp (by rw [link]; exact nofun)
    ((State.inner_clock inner).trans (s.based_clock b rep))
    (State.swapKept_trans (State.swapKept_of_book s.swapKept_refl (s.heard_book b)) quiet.swaps) cause hs hot
  set h := p.takeHeat b rep
  have weighed : p.weighed b rep = h.dropWatch b := by
    have idle : h.takeSession b rep.session = h := State.takeSession_idle (by rw [heat.state]; exact nofun) _
    have fill : h.fillTest b = h := State.fillTest_else (fun _ _ k _ => by rw [heat.state] at k; cases k)
      fun _ _ k _ => by rw [heat.state] at k; cases k
    show (((h.takeSession b rep.session).fillTest b).takeDoor b).dropWatch b = _
    rw [idle, fill, State.takeDoor_role (by rw [heat.phase.role, hr]; exact nofun)]
  have watched : s.rejected b x e (h.dropWatch b) := by
    refine State.rejected_quiet heat ((keptByBay_quiet b h).dropWatch h.quiet_refl) (State.inner_dropWatch h.inner_refl b)
      ?_ ?_
    · unfold State.dropWatch
      split
      · rw [State.modBay_bay_self]
      · rfl
    · unfold State.dropWatch
      split
      · rw [State.modBay_bay_self]
        exact heat.cause
      · exact heat.cause
  obtain ⟨-, -, -, -, unlisted, -⟩ := (h.dropWatch b).relockBack_spec b (s.back b)
  have stays : (h.dropWatch b).exchangeReport b (some e) follow = h.dropWatch b := State.exchangeReport_moved
    (by rw [watched.phase.role, hr]; rfl) watched.phase.exch (by
      obtain k | k := hp
      · rw [k]; exact nofun
      · rw [k]; exact nofun) _
  rw [State.judged_eq, weighed, unlisted watched.relock, stays] at polled
  rw [polled]
  obtain ⟨-, fcause, -, -, -, -, -, -, fstate⟩ := Bay.calm_fields
    ((State.finished_kept (keptByTrade_calm (h.dropWatch b)) (State.calmSame_refl _) b).1 b)
  have quietEnd := (h.dropWatch b).finished_quiet b
  exact ⟨State.inPhase_finished watched.phase b, State.swapKept_trans watched.swaps quietEnd.swaps,
    (fstate (by simp [Bay.holdsCharged, watched.state])).trans watched.state, by rw [fcause]; exact watched.cause,
    (State.still_queued quietEnd.still rfl).mpr watched.unlock, (quietEnd.still.relocks b).trans watched.relock⟩

end Sys2Proof.Machine
end

section
/-! A removal at a bay of an exchange: back to INTAKE-OPEN, the end of RETURN-REJECTED, and the take (R11, R116, R118,
R119, R120). -/

open Sys2Proof Sys2Proof.Machine
namespace Sys2Proof.Machine

/-! ### A report whose judging has nothing to judge -/

/-- From the judging on, where it is the watch and relock lists alone, to the end of the arrival. -/
def State.listed (u : State) (b : BayNo) (back : Bool) : State := ((u.dropWatch b).relockBack b back).finished b

/-- What the rest of the arrival leaves of a state. -/
structure State.lasting (u : State) (b : BayNo) (t : State) : Prop where
  standing : u.standing t
  sent : ∀ p n, u.sent p n → t.sent p n
  kept : ∀ {P : State → Prop}, KeptByTrade P → P u → P t
  lock : (u.bay b).link ≠ .lost → u.queued b .lock → t.queued b .lock
  unlock : (u.bay b).relock = false → u.queued b .unlock → t.queued b .unlock
  unlocked : t.queued b .unlock → u.queued b .unlock
  relock : (u.bay b).relock = true → (t.bay b).relock = true
  others : ∀ n c, n ≠ b → c.group = .door → u.queued n c → t.queued n c

theorem State.relockBack_unlock {s : State} {b : BayNo} {back : Bool} (h : (s.relockBack b back).queued b .unlock) :
    s.queued b .unlock := by
  unfold State.relockBack at h
  split at h
  · obtain ⟨k, hk, hb, hc⟩ := h
    have mem := (State.mem_queueCmd _ b .lock k).mp hk
    split at mem
    · exact ⟨k, mem, hb, hc⟩
    · obtain ⟨old, -⟩ | rfl := mem
      · exact ⟨k, old, hb, hc⟩
      · cases hc
  · exact h

theorem State.dropWatch_bay (s : State) (b n : BayNo) :
    ∃ w, (s.dropWatch b).bay n = { s.bay n with watch := w } := by
  unfold State.dropWatch
  split
  · rw [State.modBay_bay]
    split
    · next e => exact ⟨none, by rw [e]⟩
    · exact ⟨_, rfl⟩
  · exact ⟨_, rfl⟩

theorem State.lasting_listed (u : State) (b : BayNo) (back : Bool) : u.lasting b (u.listed b back) := by
  set d := u.dropWatch b with hd
  set r := d.relockBack b back with hr
  obtain ⟨w, dbay⟩ := u.dropWatch_bay b b
  rw [← hd] at dbay
  have dq : u.quiet d := (keptByBay_quiet b u).dropWatch u.quiet_refl
  have fq : r.quiet (r.finished b) := r.finished_quiet b
  have list : u.listed b back = r.finished b := rfl
  obtain ⟨-, -, -, relock, unlisted, lock, others⟩ := d.relockBack_spec b back
  rw [← hr] at relock unlisted lock others
  have dqueued : ∀ n c, c.group = .door → (d.queued n c ↔ u.queued n c) := fun n c hc => State.still_queued dq.still hc
  have fqueued : ∀ n c, c.group = .door → ((r.finished b).queued n c ↔ r.queued n c) :=
    fun n c hc => State.still_queued fq.still hc
  rw [list]
  exact {
    standing := State.standing_trans (State.standing_of_quiet dq)
      (State.standing_trans (d.relockBack_standing b back) (State.standing_of_quiet fq))
    sent := fun p n h => State.finished_sent
      (State.inner_sent (State.inner_relockBack (State.inner_dropWatch u.inner_refl b) b back) h) b
    kept := fun K h => State.finished_kept K (K.relockBack (K.dropWatch h b) b back) b
    lock := fun hl h => (fqueued b .lock rfl).mpr (lock (by rw [dbay]; exact hl) ((dqueued b .lock rfl).mpr h))
    unlock := fun hf h => (fqueued b .unlock rfl).mpr
      (by rw [unlisted (by rw [dbay]; exact hf)]; exact (dqueued b .unlock rfl).mpr h)
    unlocked := fun h => (dqueued b .unlock rfl).mp (State.relockBack_unlock ((fqueued b .unlock rfl).mp h))
    relock := fun h => (fq.still.relocks b).trans (relock (by rw [dbay]; exact h))
    others := fun n c hn hc h => (fqueued n c hc).mpr (others n c hn ((dqueued n c hc).mpr h)) }

/-- A poll whose report leaves the bay bare of a pack, and then the exchange as it stands. -/
theorem State.polled_bare {s u : State} {b : BayNo} {rep : ShortReport}
    (hu : (s.heard b).packed b rep (s.back b) = u) (hr : coolReport rep) (hp : (u.bay b).pack = none)
    (hs : (u.bay b).state ≠ .charging) (hd : u.takeDoor b = u)
    (hx : ∀ j follow, u.standing j → j.exchangeReport b ((s.heard b).exchangeAt b) follow = j) :
    u.lasting b (s.polled b rep) := by
  have rest : s.polled b rep = u.listed b (s.back b) := by
    rw [State.polled, State.applyReport_eq, hu, State.judged_bare hr hp hs hd]
    rw [hx _ _ (State.standing_trans (State.standing_of_quiet ((keptByBay_quiet b u).dropWatch u.quiet_refl))
      (State.relockBack_standing _ b _))]
    rfl
  rw [rest]
  exact u.lasting_listed b _

/-- Where the report has moved the exchange to another phase. -/
theorem State.polled_bare_moved {s u : State} {b : BayNo} {rep : ShortReport} {x : ExNo} {e f : Exchange}
    (hrole : (s.bay b).role.exchange? = some x) (he : s.exch x = some e)
    (hu : (s.heard b).packed b rep (s.back b) = u) (hr : coolReport rep) (hp : (u.bay b).pack = none)
    (hs : (u.bay b).state ≠ .charging) (role : (u.bay b).role = (s.bay b).role) (exch : u.exch x = some f)
    (hf : f.phase ≠ e.phase) : u.lasting b (s.polled b rep) := by
  have named : (u.bay b).role ≠ .none := fun k => by
    rw [← role, k] at hrole
    cases hrole
  refine State.polled_bare hu hr hp hs (State.takeDoor_role named) fun j follow k => ?_
  rw [State.exchangeAt_heard hrole he]
  exact State.exchangeReport_moved (by rw [k.roles, role]; exact hrole) ((k.exch x).trans exch) hf follow

/-- Where the bay has no role left. -/
theorem State.polled_bare_free {s u : State} {b : BayNo} {rep : ShortReport}
    (hu : (s.heard b).packed b rep (s.back b) = u) (hr : coolReport rep) (hp : (u.bay b).pack = none)
    (hs : (u.bay b).state ≠ .charging) (hd : u.takeDoor b = u) (role : (u.bay b).role = .none) :
    u.lasting b (s.polled b rep) :=
  State.polled_bare hu hr hp hs hd fun _ follow k => State.exchangeReport_none ((k.roles b).trans role) _ follow

theorem State.inPhase_lasting {s t u : State} {b : BayNo} {x : ExNo} {e : Exchange} {ph : Phase}
    (h : s.inPhase b x e ph t) (k : t.lasting b u) : s.inPhase b x e ph u :=
  State.inPhase_kept h (k.standing.exch x) (k.standing.roles b) k.sent

theorem State.over_lasting {s t u : State} {b : BayNo} {x : ExNo} {e : Exchange} {o : Outcome} (h : s.over x e o t)
    (k : t.lasting b u) : s.over x e o u :=
  ⟨(k.standing.exch x).trans h.gone, fun n hn => (k.standing.roles n).trans (h.roles n hn), k.sent _ _ h.sent,
    fun ho => k.kept (keptByArrival_notSwapping e.claim).toTrade (h.free ho)⟩

/-- An empty bay, VACANT and without a cause, stays one. -/
theorem State.vacant_lasting {t u : State} {b : BayNo} (k : t.lasting b u) (hs : (t.bay b).state = .vacant) :
    (u.bay b).state = .vacant ∧ (u.bay b).pack = (t.bay b).pack ∧ (u.bay b).cause = (t.bay b).cause := by
  obtain ⟨pack, cause, -, -, -, -, -, -, state⟩ := Bay.calm_fields ((k.kept (keptByTrade_calm t) t.calmSame_refl).1 b)
  exact ⟨(state (by simp [Bay.holdsCharged, hs])).trans hs, pack, cause⟩

/-! ### An emptied bay -/

theorem State.emptyBay_bay (s : State) (b : BayNo) :
    let r := (s.emptyBay b).bay b
    r.state = .vacant ∧ r.cause = none ∧ r.pack = none ∧ r.role = (s.bay b).role ∧ r.sensed = (s.bay b).sensed := by
  set w := if (s.bay b).admission.isSome then s.withdrawIdentify b else s with hw
  set d := w.edit b (fun r => { r.withoutPack with state := .vacant, cause := none, admission := none }) with hd
  set c := if (s.bay b).pack.isSome then d.recap b else d with hc
  have wbay : w.bay b = s.bay b := by
    rw [hw]
    split <;> rfl
  have cbay : ∃ g cap, c.bay b =
      { (s.bay b).withoutPack with state := .vacant, cause := none, admission := none, grant := g, cap := cap } := by
    obtain ⟨g, -, hg⟩ := w.edit_bay_self b (fun r => { r.withoutPack with state := .vacant, cause := none, admission := none })
    rw [wbay, ← hd] at hg
    rw [hc]
    split
    · rw [State.recap_bay, if_pos rfl, hg]
      exact ⟨_, _, rfl⟩
    · exact ⟨_, _, hg⟩
  have whole : (s.emptyBay b).bay b = c.bay b := by
    have eq : s.emptyBay b = match (s.bay b).cause with
        | none => c
        | some k => c.sayCleared b k 0 := rfl
    rw [eq]
    split
    · rfl
    · exact State.notify_bay _ _ _ _ _ _
  obtain ⟨g, cap, hb⟩ := cbay
  obtain ⟨band, ceiling, hp⟩ := (s.bay b).withoutPack_eq
  dsimp only
  rw [whole, hb, hp]
  exact ⟨rfl, rfl, rfl, rfl, rfl⟩

/-- The fields of a removal's report, and the bay emptied. -/
def State.vacated (s : State) (b : BayNo) (rep : ShortReport) : State := ((s.heard b).takeFields b rep).emptyBay b

section
variable (s : State) (b : BayNo) (rep : ShortReport)

theorem State.vacated_quiet : (s.based b rep).quiet (s.vacated b rep) :=
  (keptByBay_quiet b _).emptyBay (s.fields_quiet b rep)

theorem State.vacated_inner : (s.based b rep).inner (s.vacated b rep) := State.inner_emptyBay (s.fields_inner b rep) b

theorem State.vacated_bay :
    let r := (s.vacated b rep).bay b
    r.state = .vacant ∧ r.cause = none ∧ r.pack = none ∧ r.role = (s.bay b).role ∧ r.door = rep.door
      ∧ r.sensed = rep.sensed ∧ r.link = .reachable := by
  obtain ⟨state, cause, pack, -⟩ := ((s.heard b).takeFields b rep).emptyBay_bay b
  obtain ⟨door, -, sensed, link⟩ := State.inner_reads (s.vacated_inner b rep) b
  rw [s.based_bay] at door sensed link
  exact ⟨state, cause, pack, ((s.vacated_quiet b rep).still.roles b).trans (s.based_role b rep b), door, sensed, link⟩

theorem State.vacated_exch (x : ExNo) : (s.vacated b rep).exch x = s.exch x :=
  (State.still_exch (s.vacated_quiet b rep).still x).trans (s.based_exch b rep x)

theorem State.vacated_clock : (s.vacated b rep).clock = s.clock :=
  (State.inner_clock (s.vacated_inner b rep)).trans (s.based_clock b rep)

theorem State.vacated_swaps : s.swapKept (s.vacated b rep) :=
  State.swapKept_trans (State.swapKept_of_book s.swapKept_refl (s.heard_book b)) (s.vacated_quiet b rep).swaps

end

/-- A removal that leaves the bay VACANT is the whole of the report's part before the heat. -/
theorem State.packed_gone {s u : State} {b : BayNo} {rep : ShortReport} (hs : (s.bay b).sensed = true)
    (hn : rep.sensed = false)
    (hu : (((s.heard b).takeFields b rep).removePack b).exchangeRemoval b (s.bay b).role = u)
    (hv : (u.bay b).state = .vacant) (back : Bool) : (s.heard b).packed b rep back = u := by
  have removed : (s.heard b).removed b rep = u := by
    have seen : ((s.heard b).bay b).sensed = true := by rw [s.heard_bay_self]; exact hs
    have role : ((s.heard b).bay b).role = (s.bay b).role := by rw [s.heard_bay_self]
    rw [State.removed, seen, hn, role, hu]
    rfl
  have unsensed : (u.bay b).sensed = false := by
    have inner : (s.based b rep).inner u := by
      rw [← hu]
      exact State.inner_exchangeRemoval (State.inner_removePack (s.fields_inner b rep) b) b _
    obtain ⟨-, -, sensed, -⟩ := State.inner_reads inner b
    rw [sensed, s.based_bay]
    exact hn
  have insert : u.insertPack b = u := if_neg (by simp [Bay.admits, unsensed])
  have still : (s.heard b).moved b rep = false := by simp [State.moved, hn]
  have restore : u.restoreLink b = u := by simp only [State.restoreLink, hv]
  rw [State.packed, still, removed, insert, restore, ite_self]
  rfl

/-! ### INTAKE-CHECK (R116) -/

theorem State.polled_intakeCheck_removed {s : State} {b : BayNo} {x : ExNo} {e : Exchange} {rep : ShortReport}
    (hr : (s.bay b).role = .intake x) (he : s.exch x = some e) (hp : e.phase = .intakeCheck)
    (hst : (s.bay b).state = .admitting) (hs : (s.bay b).sensed = true) (hn : rep.sensed = false) :
    let t := s.polled b rep
    s.inPhase b x e .intakeOpen t ∧ s.swapKept t ∧ (t.bay b).state = .vacant ∧ (t.bay b).pack = none
      ∧ (e.abort = false → t.queued b .unlock) ∧ (e.abort = true → t.queued b .unlock → s.queued b .unlock) := by
  obtain ⟨state, -, pack, role, door, sensed, link⟩ := s.vacated_bay b rep
  set m := s.vacated b rep with hm
  have exch : m.exch x = some e := (s.vacated_exch b rep x).trans he
  set q := if (!e.abort) = true then m.queueUnlock b else m with hq
  set u := q.enterPhase x .intakeOpen with hu
  have qinner : m.inner q := State.inner_ite (State.inner_queueUnlock m.inner_refl b) m.inner_refl
  have qrest : q.exch x = some e ∧ q.book = m.book ∧ (q.bay b).role = (s.bay b).role ∧ (q.bay b).state = .vacant
      ∧ (q.bay b).pack = none := by
    rw [hq]
    split
    · rw [State.queueUnlock_exch, State.queueUnlock_book, State.queueUnlock_bay, if_pos rfl]
      exact ⟨exch, rfl, role, state, pack⟩
    · exact ⟨exch, rfl, role, state, pack⟩
  obtain ⟨qexch, qbook, qrole, qstate, qpack⟩ := qrest
  have removal : (((s.heard b).takeFields b rep).removePack b).exchangeRemoval b (s.bay b).role = u := by
    obtain ⟨g, -, hg, -⟩ := s.heard_fields b rep
    have frole : (((s.heard b).takeFields b rep).bay b).role = .intake x := by rw [hg]; exact hr
    have fstate : (((s.heard b).takeFields b rep).bay b).state = .admitting := by rw [hg]; exact hst
    have empty : ((s.heard b).takeFields b rep).removePack b = m := by
      simp only [State.removePack, frole, fstate]
      rfl
    rw [empty, hr]
    simp only [State.exchangeRemoval, exch]
    exact if_pos ⟨hp, state⟩
  have ubay : u.bay b = q.bay b := by rw [hu, State.enterPhase_bay]
  have packed := State.packed_gone hs hn removal (by rw [ubay]; exact qstate) (s.back b)
  have phase : s.inPhase b x e .intakeOpen u := State.inPhase_enter qexch qrole
    ((State.inner_clock qinner).trans (s.vacated_clock b rep)) .intakeOpen
  have last := State.polled_bare_moved (by rw [hr]; rfl) he packed (fun k => by rw [hn] at k; cases k)
    (by rw [ubay]; exact qpack) (by rw [ubay, qstate]; exact nofun) phase.role phase.exch (by rw [hp]; exact nofun)
  obtain ⟨vacant, bare, -⟩ := State.vacant_lasting last (by rw [ubay]; exact qstate)
  have uqueued : ∀ c, u.queued b c ↔ q.queued b c := fun c => by rw [State.queued, State.queued, hu, State.enterPhase_bus]
  refine ⟨State.inPhase_lasting phase last, ?_, vacant, bare.trans (by rw [ubay]; exact qpack), fun ha => ?_,
    fun ha k => ?_⟩
  · exact State.swapKept_trans (State.swapKept_of_book (s.vacated_swaps b rep)
      ((State.enterPhase_book _ _ _).trans qbook)) last.standing.swaps
  · have unlocks : q = m.queueUnlock b := by rw [hq, ha]; rfl
    refine last.unlock (by rw [ubay, unlocks, State.queueUnlock_bay, if_pos rfl]) ((uqueued _).mpr ?_)
    rw [unlocks]
    exact State.queueUnlock_queued (by rw [link]; exact nofun)
  · have stays : q = m := by rw [hq, ha]; rfl
    have waits := (uqueued _).mp (last.unlocked k)
    rw [stays] at waits
    exact s.based_queued b rep rfl ((State.still_queued (s.vacated_quiet b rep).still rfl).mp waits)

/-! ### RETURN-REJECTED with the pack gone (R12, R118) -/

theorem State.polled_returnRejected_emptied {s : State} {b : BayNo} {x : ExNo} {e : Exchange} {rep : ShortReport}
    (hr : (s.bay b).role = .intake x) (he : s.exch x = some e) (hp : e.phase = .returnRejected)
    (hs : (s.bay b).sensed = true) (hst : (s.bay b).state = .faulted) (hc : (s.bay b).cause = some .packError)
    (hn : rep.sensed = false) :
    ((s.polled b rep).bay b).state = .vacant ∧ ((s.polled b rep).bay b).cause = none := by
  obtain ⟨state, cause, pack, role, -⟩ := s.vacated_bay b rep
  set m := s.vacated b rep with hm
  have exch : m.exch x = some e := (s.vacated_exch b rep x).trans he
  have removal : (((s.heard b).takeFields b rep).removePack b).exchangeRemoval b (s.bay b).role = m := by
    obtain ⟨g, -, hg, -⟩ := s.heard_fields b rep
    have frole : (((s.heard b).takeFields b rep).bay b).role = .intake x := by rw [hg]; exact hr
    have fstate : (((s.heard b).takeFields b rep).bay b).state = .faulted := by rw [hg]; exact hst
    have fcause : (((s.heard b).takeFields b rep).bay b).cause = some .packError := by rw [hg]; exact hc
    have empty : ((s.heard b).takeFields b rep).removePack b = m := by
      simp only [State.removePack, frole, fstate]
      exact if_pos fcause
    rw [empty, hr]
    simp only [State.exchangeRemoval, exch, hp]
    exact if_neg nofun
  have packed := State.packed_gone hs hn removal state (s.back b)
  have cool : coolReport rep := fun k => by rw [hn] at k; cases k
  have door : m.takeDoor b = m := State.takeDoor_role (by rw [role, hr]; exact nofun)
  have calm : m.calmSame (s.polled b rep) := by
    rw [State.polled, State.applyReport_eq, packed, State.judged_bare cool pack (by rw [state]; exact nofun) door]
    have K := keptByTrade_calm m
    exact K.toMatch.settle (K.clearLinkDown (K.exchangeReport (K.relockBack (K.dropWatch m.calmSame_refl b) b _) b _ _) b)
  obtain ⟨-, kept, -, -, -, -, -, -, keep⟩ := Bay.calm_fields (calm.1 b)
  exact ⟨(keep (by simp [Bay.holdsCharged, state])).trans state, kept.trans cause⟩

/-! ### The take (R11, R119, R120) -/

/-- The pack of the take bay gone: the claim closed and TAKE-CLOSING entered, the bay VACANT. -/
def State.taken (s : State) (b : BayNo) (x : ExNo) (e : Exchange) (rep : ShortReport) : State :=
  ((s.vacated b rep).closeClaim e.claim .fulfilled).enterPhase x .takeClosing

theorem State.closeClaim_claim? (s : State) (id : ClaimId) (o : CloseOutcome) : (s.closeClaim id o).claim? id = none := by
  cases h : s.claim? id with
  | none => simp only [State.closeClaim, h]
  | some c =>
    simp only [State.closeClaim, h]
    set f := (match c.takeBay with
      | none => s
      | some b => ((s.modBay b (fun r => { r with matched := none })).fillTest b).wantReplan) with hf
    exact (State.close_claim? f id id).trans (if_pos rfl)

section
variable {s : State} {b : BayNo} {x : ExNo} {e : Exchange} {rep : ShortReport}

theorem State.taken_spec (he : s.exch x = some e) :
    let u := s.taken b x e rep
    s.inPhase b x e .takeClosing u ∧ u.claim? e.claim = none ∧ (s.based b rep).inner u
      ∧ (s.vacated b rep).calmSame u := by
  set m := s.vacated b rep with hm
  set c := m.closeClaim e.claim .fulfilled with hc
  have still : m.still c := (keptByMatch_still m).closeClaim m.still_refl e.claim .fulfilled
  have inner : (s.based b rep).inner c := State.inner_closeClaim (s.vacated_inner b rep) e.claim .fulfilled
  have K := keptByTrade_calm m
  obtain ⟨-, -, -, role, -⟩ := s.vacated_bay b rep
  refine ⟨State.inPhase_enter ((State.still_exch still x).trans ((s.vacated_exch b rep x).trans he))
    ((still.roles b).trans role) ((State.inner_clock inner).trans (s.based_clock b rep)) .takeClosing, ?_,
    State.inner_enterPhase inner x .takeClosing, K.enterPhase (K.toMatch.closeClaim m.calmSame_refl e.claim .fulfilled) x .takeClosing⟩
  exact (State.claim?_of_book (State.enterPhase_book _ _ _) e.claim).trans (State.closeClaim_claim? m e.claim .fulfilled)

theorem State.removal_taken (hr : (s.bay b).role = .take x) (he : s.exch x = some e) (hp : e.phase = .takeOpen) :
    (((s.heard b).takeFields b rep).removePack b).exchangeRemoval b (s.bay b).role =
      if rep.door = .closed then (s.taken b x e rep).endExchange x .done [b] [] none else s.taken b x e rep := by
  obtain ⟨g, -, hg, -⟩ := s.heard_fields b rep
  have frole : (((s.heard b).takeFields b rep).bay b).role = .take x := by rw [hg]; exact hr
  have empty : ((s.heard b).takeFields b rep).removePack b = s.vacated b rep := by
    simp only [State.removePack, frole]
    rfl
  obtain ⟨-, -, inner, -⟩ := State.taken_spec (b := b) (rep := rep) he
  obtain ⟨door, -⟩ := State.inner_reads inner b
  rw [s.based_bay] at door
  have shut : ((s.taken b x e rep).bay b).door = .closed ↔ rep.door = .closed := by rw [door]; rfl
  rw [empty, hr]
  simp only [State.exchangeRemoval, s.vacated_exch, he, hp, State.packTaken]
  exact ite_congr (propext shut) (fun _ => rfl) fun _ => rfl

/-- What the taken pack leaves, whatever the door. -/
theorem State.taken_lasting {u : State} (hu : (s.vacated b rep).calmSame u) (hc : u.claim? e.claim = none)
    (k : u.lasting b (s.polled b rep)) :
    (s.polled b rep).claim? e.claim = none ∧ ((s.polled b rep).bay b).state = .vacant
      ∧ ((s.polled b rep).bay b).pack = none ∧ ((s.polled b rep).bay b).cause = none := by
  obtain ⟨state, cause, pack, -⟩ := s.vacated_bay b rep
  have calm := k.kept (keptByTrade_calm (s.vacated b rep)) hu
  obtain ⟨kpack, kcause, -, -, -, -, -, -, keep⟩ := Bay.calm_fields (calm.1 b)
  exact ⟨k.kept (keptByArrival_closed e.claim).toTrade hc, (keep (by simp [Bay.holdsCharged, state])).trans state,
    kpack.trans pack, kcause.trans cause⟩

theorem State.bare_of_calm {u : State} (hu : (s.vacated b rep).calmSame u) :
    (u.bay b).pack = none ∧ (u.bay b).state = .vacant := by
  obtain ⟨state, -, pack, -⟩ := s.vacated_bay b rep
  obtain ⟨kpack, -, -, -, -, -, -, -, keep⟩ := Bay.calm_fields (hu.1 b)
  exact ⟨kpack.trans pack, (keep (by simp [Bay.holdsCharged, state])).trans state⟩

theorem State.polled_taken_open (hr : (s.bay b).role = .take x) (he : s.exch x = some e) (hp : e.phase = .takeOpen)
    (hs : (s.bay b).sensed = true) (hn : rep.sensed = false) (hd : rep.door = .opened) :
    let t := s.polled b rep
    s.inPhase b x e .takeClosing t ∧ t.claim? e.claim = none ∧ (t.bay b).state = .vacant ∧ (t.bay b).pack = none
      ∧ (t.bay b).cause = none := by
  obtain ⟨phase, gone, -, calm⟩ := State.taken_spec (b := b) (rep := rep) he
  obtain ⟨pack, state⟩ := State.bare_of_calm calm
  have removal := State.removal_taken (rep := rep) hr he hp
  rw [if_neg (by rw [hd]; exact nofun)] at removal
  have packed := State.packed_gone hs hn removal state (s.back b)
  have last := State.polled_bare_moved (by rw [hr]; rfl) he packed (fun k => by rw [hn] at k; cases k) pack
    (by rw [state]; exact nofun) phase.role phase.exch (by rw [hp]; exact nofun)
  exact ⟨State.inPhase_lasting phase last, State.taken_lasting calm gone last⟩

theorem State.polled_taken_shut (hr : (s.bay b).role = .take x) (he : s.exch x = some e) (hp : e.phase = .takeOpen)
    (ht : e.take = some b) (hs : (s.bay b).sensed = true) (hn : rep.sensed = false) (hd : rep.door = .closed) :
    let t := s.polled b rep
    s.over x e .done t ∧ t.queued b .lock ∧ (t.bay b).relock = true ∧ t.claim? e.claim = none
      ∧ (t.bay b).state = .vacant ∧ (t.bay b).pack = none ∧ (t.bay b).cause = none := by
  obtain ⟨phase, gone, inner, calm⟩ := State.taken_spec (b := b) (rep := rep) he
  have removal := State.removal_taken (rep := rep) hr he hp
  rw [if_pos hd] at removal
  set c := s.taken b x e rep
  set u := c.endExchange x .done [b] [] none with hu
  obtain ⟨door, -, -, link⟩ := State.inner_reads inner b
  rw [s.based_bay] at door link
  have ended := State.over_endExchange (s := s) phase.exch ((State.inner_clock inner).trans (s.based_clock b rep)) .done [b] none
  have over' : s.over x e .done u := ⟨ended.gone, ended.roles, ended.sent, ended.free⟩
  have ucalm : (s.vacated b rep).calmSame u := (keptByTrade_calm _).endExchange calm x .done [b] none
  obtain ⟨pack, state⟩ := State.bare_of_calm ucalm
  have ugone : u.claim? e.claim = none := (keptByArrival_closed e.claim).toTrade.endExchange gone x .done [b] none
  obtain ⟨queued, relock⟩ := State.locked_endExchange phase.exch .done (b := b) (by rw [link]; exact nofun) none
  have uinner : c.inner u := State.inner_endExchange c.inner_refl x .done [b] [] none
  obtain ⟨udoor, -, -, ulink⟩ := State.inner_reads uinner b
  have packed := State.packed_gone hs hn removal state (s.back b)
  have shut : u.takeDoor b = u := State.takeDoor_closed fun k => by
    rw [udoor, door] at k
    cases hd.symm.trans k
  have last := State.polled_bare_free packed (fun k => by rw [hn] at k; cases k) pack (by rw [state]; exact nofun) shut
    (over'.roles b (.inr ht))
  exact ⟨State.over_lasting over' last, last.lock (by rw [ulink, link]; exact nofun) queued, last.relock relock,
    State.taken_lasting ucalm ugone last⟩

end

end Sys2Proof.Machine
end

section
/-! The replacement search: the bay with the highest SoC, the lowest number among equals, by section (R63, R64, R73). -/

open Sys2Proof Sys2Proof.Machine
namespace Sys2Proof.Machine

/-! ### The best of a list of bays -/

/-- Bay `b` is no worse than bay `c`: a higher SoC, or the same one and no higher number. -/
def State.noWorse (s : State) (b c : BayNo) : Prop :=
  (s.bay c).soc < (s.bay b).soc ∨ ((s.bay c).soc = (s.bay b).soc ∧ b ≤ c)

section
variable (s : State)

theorem State.noWorse_refl (b : BayNo) : s.noWorse b b := .inr ⟨rfl, Nat.le_refl _⟩

theorem State.noWorse_trans {a b c : BayNo} (h : s.noWorse a b) (k : s.noWorse b c) : s.noWorse a c := by
  simp only [State.noWorse, Fin.le_def] at h k ⊢
  omega

theorem State.noWorse_antisymm {a b : BayNo} (h : s.noWorse a b) (k : s.noWorse b a) : a = b := by
  simp only [State.noWorse, Fin.le_def] at h k
  exact Fin.ext (by omega)

theorem State.better_foldl (l : List BayNo) (a : BayNo) (hl : (a :: l).Pairwise (· ≤ ·)) :
    ∃ r, l.foldl s.better (some a) = some r ∧ r ∈ a :: l ∧ ∀ c ∈ a :: l, s.noWorse r c := by
  induction l generalizing a with
  | nil => exact ⟨a, rfl, List.mem_singleton.mpr rfl, fun c hc => by rw [List.mem_singleton.mp hc]; exact s.noWorse_refl a⟩
  | cons c l ih =>
    obtain ⟨ha, hc, hrest⟩ : (∀ d ∈ c :: l, a ≤ d) ∧ (∀ d ∈ l, c ≤ d) ∧ l.Pairwise (· ≤ ·) := by
      simpa only [List.pairwise_cons] using hl
    have step : ∀ k : BayNo, k ∈ [a, c] → s.noWorse k a → s.noWorse k c → (k :: l).Pairwise (· ≤ ·) →
        s.better (some a) c = some k → ∃ r, (c :: l).foldl s.better (some a) = some r ∧ r ∈ a :: c :: l
          ∧ ∀ d ∈ a :: c :: l, s.noWorse r d := by
      intro k hk hka hkc sorted pick
      obtain ⟨r, fold, mem, best⟩ := ih k sorted
      have rk := best k List.mem_cons_self
      refine ⟨r, by rw [List.foldl_cons, pick]; exact fold, ?_, fun d hd => ?_⟩
      · simp only [List.mem_cons, List.not_mem_nil, or_false] at mem hk ⊢
        grind
      · simp only [List.mem_cons] at hd
        obtain rfl | rfl | hd := hd
        · exact s.noWorse_trans rk hka
        · exact s.noWorse_trans rk hkc
        · exact best d (List.mem_cons_of_mem _ hd)
    by_cases hlt : (s.bay a).soc < (s.bay c).soc
    · exact step c (by simp) (.inl hlt) (s.noWorse_refl c) (List.pairwise_cons.mpr ⟨hc, hrest⟩) (if_pos hlt)
    · have hac := ha c List.mem_cons_self
      refine step a (by simp) (s.noWorse_refl a) ?_
        (List.pairwise_cons.mpr ⟨fun d hd => ha d (List.mem_cons_of_mem _ hd), hrest⟩) (if_neg hlt)
      simp only [State.noWorse, Fin.le_def] at hac ⊢
      omega

theorem mem_allBays (b : BayNo) : b ∈ allBays := by
  revert b
  decide

theorem allBays_sorted : allBays.Pairwise (· ≤ ·) := by decide

theorem State.bestBay_none {ok : Bay → Bool} (h : ∀ b, ok (s.bay b) = false) : s.bestBay ok = none := by
  have empty : allBays.filter (fun b => ok (s.bay b)) = [] := List.filter_eq_nil_iff.mpr fun b _ => by rw [h b]; decide
  rw [State.bestBay, empty]
  rfl

theorem State.bestBay_some {ok : Bay → Bool} {b : BayNo} (hb : ok (s.bay b) = true)
    (hbest : ∀ c, ok (s.bay c) = true → s.noWorse b c) : s.bestBay ok = some b := by
  have mem : ∀ c, c ∈ allBays.filter (fun b => ok (s.bay b)) ↔ ok (s.bay c) = true := fun c =>
    List.mem_filter.trans (and_iff_right (mem_allBays c))
  have sorted := allBays_sorted.filter (fun b => ok (s.bay b))
  rw [State.bestBay]
  cases hl : allBays.filter (fun b => ok (s.bay b)) with
  | nil =>
    have here := (mem b).mpr hb
    rw [hl] at here
    cases here
  | cons a l =>
    rw [hl] at mem sorted
    obtain ⟨r, fold, rmem, best⟩ := s.better_foldl l a sorted
    have same : r = b := s.noWorse_antisymm (best b ((mem b).mpr hb)) (hbest r ((mem r).mp rmem))
    exact fold.trans (congrArg some same)

end

/-! ### The replacement search -/

/-- A candidate that would pass the READY test at once (R62, R68). -/
def Bay.fitFor (r : Bay) (c : Claim) : Prop := r.candidate c.cls = true ∧ r.readyFor c.level = true

/-- The section a claim's kind chooses from first (R63, R65). -/
def Claim.own (c : Claim) : BaySection := if c.id.origin = .gateway then .booked else .walkup

/-- The search crosses into the other section: a booking within the horizon, a walk-up where the book is covered. -/
def State.across (s : State) (c : Claim) : Prop :=
  if c.id.origin = .gateway then c.due ≤ s.clock.time + s.params.horizon
  else ∀ k ∈ s.book.claims, k.id.origin = .gateway → k.state = .waiting → s.clock.time + s.params.horizon < k.due

theorem Bay.candidateReady_iff (r : Bay) (sec : BaySection) (c : Claim) :
    r.candidateReady sec c = true ↔ r.fitFor c ∧ r.bsection = sec := by
  simp only [Bay.candidateReady, Bay.candidateIn, Bay.fitFor, Bool.and_eq_true, decide_eq_true_eq]
  tauto

theorem State.covered_iff (s : State) : s.covered = true ↔
    ∀ k ∈ s.book.claims, k.id.origin = .gateway → k.state = .waiting → s.clock.time + s.params.horizon < k.due := by
  simp only [State.covered, Bool.not_eq_true', List.any_eq_false, Claim.isBooking, State.inHorizon,
    Bool.and_eq_true, decide_eq_true_eq]
  refine forall₂_congr fun k _ => ?_
  rw [not_and, and_imp, Nat.not_le]
  rfl

/-- The section a claim's kind chooses from when it crosses. -/
def BaySection.other : BaySection → BaySection
  | .booked => .walkup
  | .walkup => .booked

theorem BaySection.eq_other {a b : BaySection} (h : a ≠ b) : a = b.other := by
  cases a
  · cases b
    · exact absurd rfl h
    · rfl
  · cases b
    · rfl
    · exact absurd rfl h

/-- The model's test of crossing. -/
def State.crosses (s : State) (c : Claim) : Bool := if c.id.origin = .gateway then s.inHorizon c else s.covered

theorem State.crosses_iff (s : State) (c : Claim) : s.crosses c = true ↔ s.across c := by
  unfold State.across State.crosses
  split
  · exact decide_eq_true_iff
  · exact s.covered_iff

theorem State.findReplacement_eq (s : State) (c : Claim) :
    s.findReplacement c = match s.bestBay (fun r => r.candidateReady c.own c) with
      | some b => some b
      | none => if s.crosses c then s.bestBay (fun r => r.candidateReady c.own.other c) else none := by
  by_cases h : c.id.origin = .gateway
  · simp only [State.findReplacement, State.crosses, Claim.isBooking, Claim.own, h, decide_true, if_true]
    rfl
  · simp only [State.findReplacement, State.crosses, Claim.isBooking, Claim.own, h, decide_false, if_false, Bool.false_eq_true]
    rfl

theorem State.findReplacement_none {s : State} {c : Claim}
    (h : ∀ n, (s.bay n).fitFor c → (s.bay n).bsection ≠ c.own ∧ ¬s.across c) : s.findReplacement c = none := by
  have unready : ∀ sec, (∀ n, (s.bay n).fitFor c → (s.bay n).bsection ≠ sec) →
      s.bestBay (fun r => r.candidateReady sec c) = none := fun sec k => by
    refine s.bestBay_none fun n => ?_
    rw [Bool.eq_false_iff, ne_eq, Bay.candidateReady_iff]
    exact fun m => k n m.1 m.2
  rw [State.findReplacement_eq, unready c.own fun n hn => (h n hn).1]
  dsimp only
  split
  · next crosses => exact unready _ fun n hn => absurd ((s.crosses_iff c).mp crosses) (h n hn).2
  · rfl

theorem State.findReplacement_some {s : State} {c : Claim} {n : BayNo} (hn : (s.bay n).fitFor c)
    (hsec : (s.bay n).bsection = c.own ∨ (s.across c ∧ ∀ m, (s.bay m).fitFor c → (s.bay m).bsection ≠ c.own))
    (hbest : ∀ m, (s.bay m).fitFor c → (s.bay m).bsection = (s.bay n).bsection → s.noWorse n m) :
    s.findReplacement c = some n := by
  have best : s.bestBay (fun r => r.candidateReady (s.bay n).bsection c) = some n := by
    refine s.bestBay_some ((Bay.candidateReady_iff _ _ c).mpr ⟨hn, rfl⟩) fun m hm => ?_
    obtain ⟨fit, sec⟩ := (Bay.candidateReady_iff _ _ c).mp hm
    exact hbest m fit sec
  rw [State.findReplacement_eq]
  obtain own | ⟨crosses, away⟩ := hsec
  · rw [← own, best]
  · have none_ : s.bestBay (fun r => r.candidateReady c.own c) = none := by
      refine s.bestBay_none fun m => ?_
      rw [Bool.eq_false_iff, ne_eq, Bay.candidateReady_iff]
      exact fun k => away m k.1 k.2
    rw [none_, if_pos ((s.crosses_iff c).mpr crosses), ← BaySection.eq_other (away n hn)]
    exact best

end Sys2Proof.Machine
end

section
/-! A take bay whose pack may have changed in TAKE-OPEN: the bay bared, and then ABORTED, a replacement or NO-PACK (R36,
R73, R124). -/

open Sys2Proof Sys2Proof.Machine
namespace Sys2Proof.Machine

/-! ### The operations on a bay's own record leave the book and the other bays -/

theorem keptByBay_book (b : BayNo) (k : Book) : KeptByBay b (fun t => t.book = k) where
  aside h a _ := a.book.trans h
  record _ h := h
  queue {t c} _ h := (t.queueCmd_book b c).trans h
  identify h := h
  withdraw h := h

theorem keptByBay_others (b : BayNo) (s : State) : KeptByBay b (fun t => ∀ n, n ≠ b → t.bay n = s.bay n) where
  aside h a _ n hn := (State.bay_of_bays a.bays n).trans (h n hn)
  record _ h n hn := (State.modBay_bay_other _ _ _ _ hn).trans (h n hn)
  queue _ k n hn := (State.queueCmd_bay _ _ _ _).trans (k n hn)
  identify h := h
  withdraw h := h

/-! ### Unbinding from a bay without a pack -/

theorem State.unmatch_bare {s : State} {id : ClaimId} {c : Claim} {b : BayNo} (hc : s.claim? id = some c)
    (hb : c.takeBay = some b) (hp : (s.bay b).pack = none) (cause : LossCause) :
    let t := s.unmatch id cause
    (∀ n, t.bay n = if n = b then { s.bay b with matched := none } else s.bay n) ∧ t.exchanges = s.exchanges
      ∧ t.book.claims = s.book.claims.map (fun k => if k.id = id then k.unbound else k) := by
  set m := (s.modClaim id (fun c => { c with takeBay := none })).modBay b (fun r => { r with matched := none }) with hm
  have idle : m.fillTest b = m := State.fillTest_absent (by rw [hm, State.modBay_bay_self]; exact hp)
  have whole : s.unmatch id cause = ((m.modClaim id (fun c => if c.state = .swapping then c else
      { c with state := .waiting, projected := none })).notify .claimUnmatched (.claim id) cause.code
      (bayNumber b)).wantReplan.wantPass := by
    simp only [State.unmatch, hc, hb, ← hm, idle]
  rw [whole]
  refine ⟨fun n => ?_, rfl, ?_⟩
  · simp only [State.wantPass_bay, State.wantReplan_bay, State.notify_bay, State.modClaim_bay]
    exact State.modBay_bay (s.modClaim id _) b _ n
  show ((s.book.claims.map _).map _) = _
  rw [List.map_map]
  refine List.map_congr_left fun k _ => ?_
  by_cases h : k.id = id
  · by_cases hk : k.state = .swapping
    · simp [Claim.unbound, h, hk]
    · simp [Claim.unbound, h, hk]
  · simp [h]

/-! ### The bay bared -/

/-- What becomes of a take bay whose pack may have changed: no role, match or pack, LOCK waiting, the claim told. -/
structure State.bared (s : State) (b : BayNo) (id : ClaimId) (u : State) : Prop where
  role : (u.bay b).role = .none
  matched : (u.bay b).matched = none
  pack : (u.bay b).pack = none
  idle : (u.bay b).holdsCharged = false
  link : (u.bay b).link ≠ .lost
  relock : (u.bay b).relock = true
  lock : u.queued b .lock
  sent : u.sent .gateway (s.notice .claimUnmatched (.claim id) 5 (bayNumber b))

theorem State.bared_of_bay {s u v : State} {b : BayNo} {id : ClaimId} (h : s.bared b id u) (hb : v.bay b = u.bay b)
    (lock : v.queued b .lock) (i : u.inner v) : s.bared b id v where
  role := by rw [hb]; exact h.role
  matched := by rw [hb]; exact h.matched
  pack := by rw [hb]; exact h.pack
  idle := by rw [hb]; exact h.idle
  link := by rw [hb]; exact h.link
  relock := by rw [hb]; exact h.relock
  lock := lock
  sent := State.inner_sent i h.sent

/-- The report of a changed pack, up to the loss of the match. -/
theorem State.packed_changed {s : State} {b : BayNo} {rep : ShortReport} (hs : rep.sensed = true)
    (hv : (s.bay b).state ≠ .vacant) (hm : rep.count ≠ (s.bay b).count ∨ rep.restart = true) :
    ∃ w, (s.heard b).packed b rep (s.back b) = w.dropMatchChanged b ∧ (s.based b rep).quiet w
      ∧ (s.based b rep).inner w ∧ w.book = s.book ∧ (∀ n, n ≠ b → w.bay n = s.bay n) ∧ (w.bay b).pack = none
      ∧ (w.bay b).holdsCharged = false := by
  obtain ⟨g, -, hg, -⟩ := s.heard_fields b rep
  set f := (s.heard b).takeFields b rep with hf
  have fstate : (f.bay b).state = (s.bay b).state := by rw [hg]; rfl
  have Q := keptByBay_quiet b (s.based b rep)
  have B := keptByBay_book b s.book
  have O := keptByBay_others b s
  have fquiet := s.fields_quiet b rep
  have finner := s.fields_inner b rep
  have fbook : f.book = s.book := B.takeFields (s.heard_book b)
  have fothers : ∀ n, n ≠ b → f.bay n = s.bay n := O.takeFields fun n hn => s.based_bay_other b rep hn
  rw [State.packed_moved hs hv hm, ← hf]
  by_cases hfault : (f.bay b).state = .faulted
  · obtain ⟨g', cap, hc⟩ := f.clearPack_bay b
    obtain ⟨band, ceiling, hw⟩ := (f.bay b).withoutPack_eq
    refine ⟨f.clearPack b, State.readmit_faulted hfault, Q.clearPack fquiet, State.inner_clearPack finner b,
      B.clearPack fbook, O.clearPack fothers, by rw [hc, hw], ?_⟩
    rw [hc, hw]
    simp [Bay.holdsCharged, hfault]
  · have reach : (f.bay b).link ≠ .lost := by rw [hg]; exact nofun
    obtain ⟨⟨g', cap, hb, -⟩, -⟩ := State.startAdmission_insertion reach
    refine ⟨f.startAdmission b .insertion, State.readmit_eq (by rw [fstate]; exact hv) hfault, Q.startAdmission fquiet _,
      State.inner_startAdmission finner b _, B.startAdmission fbook _, O.startAdmission fothers _, by rw [hb], ?_⟩
    rw [hb]
    rfl

/-- The match, the LOCK and the role of a take bay whose pack may have changed. -/
def State.released (w : State) (x : ExNo) (id : ClaimId) (b : BayNo) : State :=
  (((w.unmatch id .packChanged).queueLock b).setRole b .none).modExch x (fun e => { e with take := none })

theorem State.takeChanged_eq (w : State) (x : ExNo) (e : Exchange) (b : BayNo) :
    w.takeChanged x e b =
      if e.abort then (w.released x e.claim b).endExchange x .aborted [] [] none
      else (w.released x e.claim b).seekReplacement x e.claim := rfl

/-- The state in which the exchange of a take bay whose pack may have changed goes on. -/
structure State.loosed (s : State) (b : BayNo) (x : ExNo) (e : Exchange) (c : Claim) (v : State) : Prop where
  bare : s.bared b e.claim v
  exch : v.exch x = some { e with take := none }
  claim : v.claim? e.claim = some c.unbound
  claims : v.book.claims = s.book.claims.map (fun k => if k.id = e.claim then k.unbound else k)
  others : ∀ n, n ≠ b → v.bay n = s.bay n
  clock : v.clock = s.clock
  params : v.params = s.params

theorem State.loosed_of {s r : State} {b : BayNo} {x : ExNo} {e : Exchange} {c : Claim} (bare : s.bared b e.claim r)
    (exch : r.exch x = some e) (claim : r.claim? e.claim = some c.unbound)
    (claims : r.book.claims = s.book.claims.map (fun k => if k.id = e.claim then k.unbound else k))
    (others : ∀ n, n ≠ b → r.bay n = s.bay n) (clock : r.clock = s.clock) (params : r.params = s.params) :
    s.loosed b x e c (r.modExch x (fun e => { e with take := none })) where
  bare := State.bared_of_bay bare (State.modExch_bay _ _ _ _) bare.lock (State.inner_modExch r.inner_refl x _)
  exch := by
    rw [State.modExch_exch, if_pos rfl, exch]
    rfl
  claim := (State.modExch_claim? _ _ _ _).trans claim
  claims := claims
  others := others
  clock := clock
  params := params

theorem State.inner_params {s t : State} (h : s.inner t) : t.params = s.params := congrArg (fun x => x.2.2.2.1) h.1

theorem State.based_params (s : State) (b : BayNo) (rep : ShortReport) : (s.based b rep).params = s.params :=
  (State.modBay_params _ _ _).trans ((State.inner_params (s.heard_inner b)).trans (State.modBay_params _ _ _))

theorem State.released_loosed {s w : State} {b : BayNo} {x : ExNo} {e : Exchange} {c : Claim} {rep : ShortReport}
    (he : s.exch x = some e) (hc : s.claim? e.claim = some c) (ht : c.takeBay = some b)
    (quiet : (s.based b rep).quiet w) (inner : (s.based b rep).inner w) (book : w.book = s.book)
    (others : ∀ n, n ≠ b → w.bay n = s.bay n) (pack : (w.bay b).pack = none) (idle : (w.bay b).holdsCharged = false) :
    s.loosed b x e c (w.released x e.claim b) := by
  have wc : w.claim? e.claim = some c := (State.claim?_of_book book _).trans hc
  obtain ⟨ubay, uex, uclaims⟩ := State.unmatch_bare wc ht pack .packChanged
  set u := w.unmatch e.claim .packChanged with hu
  set l := u.queueLock b with hl
  set r := l.setRole b .none with hr
  have winner : (s.based b rep).inner u := State.inner_unmatch inner e.claim .packChanged
  obtain ⟨-, -, -, link⟩ := State.inner_reads winner b
  rw [s.based_bay] at link
  have reach : (u.bay b).link ≠ .lost := by rw [link]; exact nofun
  obtain ⟨g, rself⟩ := l.setRole_bay b .none b
  rw [if_pos rfl, State.queueLock_bay, if_pos rfl, ubay, if_pos rfl, ← hr] at rself
  have rother : ∀ n, n ≠ b → r.bay n = s.bay n := fun n hn => by
    obtain ⟨g', h⟩ := l.setRole_bay b .none n
    rw [← hr, if_neg hn, State.queueLock_bay, if_neg hn, ubay, if_neg hn, others n hn] at h
    exact h
  have rbook : r.book = u.book := (State.edit_book _ _ _).trans (u.queueLock_book b)
  have rexch : r.exch x = some e := by
    rw [hr, State.setRole_exch, hl, State.queueLock_exch, State.exch_of uex, State.still_exch quiet.still, s.based_exch]
    exact he
  have rinner : (s.based b rep).inner r := State.inner_setRole (State.inner_queueLock winner b) b .none
  have sent : u.sent .gateway (s.notice .claimUnmatched (.claim e.claim) 5 (bayNumber b)) := by
    rw [← State.notice_of_clock ((State.inner_clock inner).trans (s.based_clock b rep))]
    exact State.unmatch_sent wc ht .packChanged
  have lock : r.queued b .lock := by
    rw [State.queued, hr, State.setRole, State.edit_bus]
    exact State.queueLock_queued reach
  have bare : s.bared b e.claim r :=
    { role := by rw [rself], matched := by rw [rself], pack := by rw [rself]; exact pack,
      idle := by rw [rself]; exact idle, link := by
        obtain ⟨-, -, -, k⟩ := State.inner_reads rinner b
        rw [k, s.based_bay]
        exact nofun
      relock := by rw [rself], lock := lock,
      sent := State.inner_sent (State.inner_setRole (State.inner_queueLock u.inner_refl b) b .none) sent }
  exact State.loosed_of bare rexch
    ((State.claim?_of_book rbook e.claim).trans (by rw [State.unmatch_claim? wc ht, if_pos rfl]))
    ((congrArg Book.claims rbook).trans (uclaims.trans (by rw [book]))) rother
    ((State.inner_clock rinner).trans (s.based_clock b rep)) ((State.inner_params rinner).trans (s.based_params b rep))

end Sys2Proof.Machine
end

section
/-! How the exchange of a take bay whose pack may have changed goes on, and the rest of the report (R73, R124). -/

open Sys2Proof Sys2Proof.Machine
namespace Sys2Proof.Machine

/-! ### The judging of a bared bay -/

/-- A bay without role, match and pack, in no charge state. -/
def State.bareBay (t : State) (b : BayNo) : Prop :=
  (t.bay b).role = .none ∧ (t.bay b).matched = none ∧ (t.bay b).pack = none ∧ (t.bay b).holdsCharged = false

theorem State.bareBay_reband {t : State} {b : BayNo} (h : t.bareBay b) : t.rebandBay b = t := by
  obtain ⟨-, -, pack, -⟩ := h
  exact State.rebandBay_none pack

theorem State.bareBay_fill {t : State} {b : BayNo} (h : t.bareBay b) : t.fillTest b = t := by
  obtain ⟨-, -, pack, -⟩ := h
  exact State.fillTest_absent pack

theorem State.bareBay_session {t : State} {b : BayNo} (h : t.bareBay b) (x : Session) : t.takeSession b x = t := by
  obtain ⟨-, -, -, idle⟩ := h
  refine State.takeSession_idle (fun charging => ?_) x
  simp [Bay.holdsCharged, charging] at idle

theorem keptByBay_bond (b : BayNo) : KeptByBay b (fun t => (t.bay b).role = .none ∧ (t.bay b).matched = none) where
  aside h a _ := by rw [State.bay_of_bays a.bays]; exact h
  record {t f} hf h := by
    obtain ⟨role, rest⟩ := Prod.mk.inj (hf (t.bay b))
    obtain ⟨matched, -⟩ := Prod.mk.inj rest
    rw [State.modBay_bay_self]
    exact ⟨role.trans h.1, matched.trans h.2⟩
  queue _ h := by rw [State.queueCmd_bay]; exact h
  identify h := h
  withdraw h := h

section
variable {P : State → Prop} {b : BayNo} (K : KeptByBay b P) {t : State}
include K

/-- A fault of a bay with no match and no role goes no further than its record. -/
theorem KeptByBay.raiseFault (hr : (t.bay b).role = .none) (hm : (t.bay b).matched = none) (h : P t) (k : FaultCause)
    (value : Nat) (ending : Bool) : P (t.raiseFault b k value ending) := by
  unfold State.raiseFault
  split
  · have B := keptByBay_bond b
    obtain ⟨frole, fmatched⟩ := B.faultBay (t := t) ⟨hr, hm⟩ k
    set f := t.faultBay b k with hf
    have stays : f.loseMatch b k.loss = f := by simp only [State.loseMatch, fmatched]
    have unmoved : f.rejectIntake b = f := by simp only [State.rejectIntake, frole]
    have told := K.notify (K.faultBay h k) .bayFault (.bay b) k.code value
    rw [State.becomeFaulted_eq]
    simp only [← hf, stays, unmoved, ite_self]
    exact kept_ite (P := P) (K.watchResult told) told
  · exact kept_ite (P := P) (K.notify (K.edit (by exact fun _ => rfl) h) _ _ _ _) h

theorem KeptByBay.raiseFault_bareBay (h : t.bareBay b ∧ P t) (k : FaultCause) (value : Nat) (ending : Bool) :
    (t.raiseFault b k value ending).bareBay b ∧ P (t.raiseFault b k value ending) := by
  obtain ⟨⟨hr, hm, hp, hi⟩, hP⟩ := h
  obtain ⟨role, matched⟩ := (keptByBay_bond b).raiseFault hr hm ⟨hr, hm⟩ k value ending
  refine ⟨⟨role, matched, ?_⟩, K.raiseFault hr hm hP k value ending⟩
  cases hc : (t.bay b).cause with
  | none =>
    obtain ⟨state, -, pack, -⟩ := State.raiseFault_fresh hc k value ending
    exact ⟨pack.elim id fun e => e.trans hp, by simp [Bay.holdsCharged, state]⟩
  | some old =>
    obtain ⟨g, hg⟩ := State.raiseFault_held hc k value ending
    rw [hg]
    exact ⟨hp, hi⟩

end

/-- A report's judging up to the lists. -/
def State.tried (s : State) (b : BayNo) (rep : ShortReport) : State :=
  (((s.takeHeat b rep).takeSession b rep.session).fillTest b).takeDoor b

/-- On a bared bay the judging is faults alone, and they go no further than its record. -/
theorem KeptByBay.tried_bareBay {P : State → Prop} {b : BayNo} (K : KeptByBay b P) {t : State} (h : t.bareBay b ∧ P t)
    (rep : ShortReport) : (t.tried b rep).bareBay b ∧ P (t.tried b rep) := by
  have heat := kept_ite (P := fun t => t.bareBay b ∧ P t) (c := (rep.sensed && rep.packFault) = true)
    (K.raiseFault_bareBay h .packError 1 false) h
  have hot := kept_ite (P := fun t => t.bareBay b ∧ P t)
    (c := (rep.sensed && decide (faultLimit ≤ clampTemp rep.temp)) = true)
    (K.raiseFault_bareBay heat .hot (clampTemp rep.temp).toNat false) heat
  have band : ∀ {u : State}, u.bareBay b ∧ P u → (u.rebandBay b).bareBay b ∧ P (u.rebandBay b) := fun k => by
    rw [State.bareBay_reband k.1]
    exact k
  have session : ∀ {u : State}, u.bareBay b ∧ P u →
      (u.takeSession b rep.session).bareBay b ∧ P (u.takeSession b rep.session) := fun k => by
    rw [State.bareBay_session k.1]
    exact k
  have fill : ∀ {u : State}, u.bareBay b ∧ P u → (u.fillTest b).bareBay b ∧ P (u.fillTest b) := fun k => by
    rw [State.bareBay_fill k.1]
    exact k
  have weighed := fill (session (band hot))
  exact kept_ite (P := fun t => t.bareBay b ∧ P t) (K.raiseFault_bareBay weighed .doorForced 0 false) weighed

/-- A poll whose report leaves the bay bared. -/
theorem State.polled_tried {s u : State} {b : BayNo} {rep : ShortReport}
    (hu : (s.heard b).packed b rep (s.back b) = u) (h : u.bareBay b) :
    s.polled b rep = (u.tried b rep).listed b (s.back b) := by
  obtain ⟨⟨role, -⟩, -⟩ := (keptByBay_quiet b u).tried_bareBay ⟨h, u.quiet_refl⟩ rep
  set y := u.tried b rep with hy
  have stands := State.standing_trans
    (State.standing_of_quiet ((keptByBay_quiet b y).dropWatch y.quiet_refl)) ((y.dropWatch b).relockBack_standing b (s.back b))
  have judged : u.judged b rep (s.back b) = (y.dropWatch b).relockBack b (s.back b) := rfl
  rw [State.polled, State.applyReport_eq, hu, judged, State.exchangeReport_none ((stands.roles b).trans role)]
  rfl

/-- The lists and the end of the arrival make no match of a bay that is no candidate. -/
theorem State.listed_matched {y : State} {n : BayNo} (h : (y.bay n).unfit) (b : BayNo) (back : Bool) :
    ((y.listed b back).bay n).matched = (y.bay n).matched := by
  obtain ⟨w, l, hb⟩ := y.lists_bay b back n
  set r := (y.dropWatch b).relockBack b back with hr
  have unfit : ((r.clearLinkDown b).bay n).unfit := by
    rw [State.clearLinkDown_bay, hb]
    exact fun cls => h cls
  have settled := ((r.clearLinkDown b).settle_passesBy unfit).1
  have whole : y.listed b back = (r.clearLinkDown b).settle := rfl
  rw [whole, settled, State.clearLinkDown_bay, hb]

/-! ### How the exchange goes on -/

section
variable {s v : State} {b : BayNo} {x : ExNo} {e : Exchange} {c : Claim}

theorem State.bared_bareBay {id : ClaimId} (h : s.bared b id v) : v.bareBay b := ⟨h.role, h.matched, h.pack, h.idle⟩

/-- The exchange over, ABORTED or NO-PACK. -/
theorem State.loosed_ends (h : s.loosed b x e c v) (ht : e.take = some b) {o : Outcome} :
    s.over x e o (v.endExchange x o [] [] none) ∧ s.bared b e.claim (v.endExchange x o [] [] none) := by
  set u := v.endExchange x o [] [] none with hu
  obtain ⟨gone, roles, sent, free⟩ := State.over_endExchange (s := s) h.exch h.clock o [] none
  obtain ⟨-, uroles, urelocks, -⟩ := State.endExchange_spec h.exch o [] none
  have apart : v.apart e.claim b := ⟨h.bare.matched, fun d hd => by
    obtain rfl := Option.some.inj (h.claim.symm.trans hd)
    exact nofun⟩
  have uapart := State.apart_endExchange h.exch apart o [] none
  obtain ⟨pack, -, -, -, -, -, link, idle, -⟩ :=
    Bay.calm_fields (((keptByTrade_calm v).endExchange v.calmSame_refl x o [] none).1 b)
  have free_b : (u.bay b).role = .none := (uroles b).trans (by rw [h.bare.role, ite_self])
  have lock : u.queued b .lock := by
    refine State.endExchange_kept (P := fun t => t.queued b .lock) (keptByMatch_queued b .lock nofun) h.exch ?_
    obtain ⟨-, -, -, -, -, -, bus, -⟩ := v.ending_spec x { e with take := none } o [] none
    rw [State.queued, bus]
    exact h.bare.lock
  refine ⟨⟨gone, fun n hn => ?_, sent, free⟩, ?_⟩
  · obtain hn | hn := hn
    · exact roles n (.inl hn)
    · obtain rfl := Option.some.inj (ht.symm.trans hn)
      exact free_b
  · exact {
      role := free_b, matched := uapart.1, pack := pack.trans h.bare.pack, idle := idle.trans h.bare.idle
      link := by rw [link]; exact h.bare.link
      relock := (urelocks b).trans (by rw [if_neg List.not_mem_nil]; exact h.bare.relock)
      lock := lock
      sent := State.inner_sent (State.inner_endExchange v.inner_refl x o [] [] none) h.bare.sent }

/-- The take begun afresh on another bay. -/
structure State.replaced (s : State) (x : ExNo) (e : Exchange) (c : Claim) (n : BayNo) (r : State) : Prop where
  exch : r.exch x = some { e with phase := .takeOpen, take := some n, deadline := 60, relink := false }
  role : (r.bay n).role = .take x
  matched : (r.bay n).matched = some e.claim
  claim : r.claim? e.claim = some (c.unbound.bound n)
  told : r.sent .gateway (s.notice .claimMatched (.claim e.claim) 4 (bayNumber n))
  phase : r.sent .terminal (s.notice .swapPhase (.claim e.claim) (Phase.takeOpen.code + 1) (x.val + 1))
  unlock : r.queued n .unlock

theorem Claim.rebound_fields (hs : c.state = .swapping) (n : BayNo) :
    (c.unbound.bound n).state = .swapping ∧ (c.unbound.bound n).takeBay = some n
      ∧ (c.unbound.bound n).terms = c.terms := by
  simp [Claim.unbound, Claim.bound, hs, Claim.terms]

theorem State.bound_rest (s : State) (id : ClaimId) (n : BayNo) (d : MatchDetail) :
    ((s.bound id n d).bay n).matched = some id
      ∧ (s.bound id n d).sent .gateway (s.notice .claimMatched (.claim id) d.code (bayNumber n)) := by
  set m := (s.modClaim id (fun c => { c with takeBay := some n })).modBay n (fun r => { r with matched := some id }) with hm
  set w := (m.fillTest n).modClaim id (fun c => if c.state = .swapping then c else { c with state := .matched }) with hw
  have whole : s.bound id n d = (w.notify .claimMatched (.claim id) d.code (bayNumber n)).wantReplan := rfl
  have matched : (w.bay n).matched = some id := by
    rw [hw, State.modClaim_bay, State.fillTest_matched, hm, State.modBay_bay_self]
  have clock : w.clock = s.clock := by
    rw [hw, State.modClaim_clock, State.inner_clock (State.inner_fillTest m.inner_refl n), hm, State.modBay_clock,
      State.modClaim_clock]
  rw [whole, State.wantReplan_bay, State.notify_bay]
  refine ⟨matched, ?_⟩
  rw [← State.notice_of_clock clock]
  exact State.inner_sent (State.inner_wantReplan (State.inner_refl _)) (w.sent_notify rfl)

theorem State.queued_queueUnlock {s : State} {b n : BayNo} {d : BusCmd} (h : s.queued b d) (hn : b ≠ n) :
    (s.queueUnlock n).queued b d := by
  unfold State.queueUnlock
  refine State.queued_queueCmd ?_ n .unlock fun k => hn k.1
  exact h

/-- The claim bound to another bay, and the take begun there. -/
def State.retaken (v : State) (x : ExNo) (id : ClaimId) (n : BayNo) : State :=
  (((v.bindClaim id n .replacement).modExch x (fun e => { e with take := some n })).setRole n (.take x)).enterTakeOpen x n

theorem State.loosed_replaced (h : s.loosed b x e c v) (hs : c.state = .swapping) {n : BayNo} (hn : n ≠ b)
    (hl : (v.bay n).link ≠ .lost) :
    s.replaced x e c n (v.retaken x e.claim n) ∧ s.bared b e.claim (v.retaken x e.claim n) := by
  set k := v.bindClaim e.claim n .replacement with hk
  set m := k.modExch x (fun e => { e with take := some n }) with hm
  set q := m.setRole n (.take x) with hq
  set l := q.queueUnlock n with hl'
  have kstill : v.still k := (keptByMatch_still v).bindClaim v.still_refl e.claim n .replacement
  have kinner : v.inner k := State.inner_bindClaim v.inner_refl e.claim n .replacement
  have qinner : k.inner q := State.inner_setRole (State.inner_modExch k.inner_refl x _) n (.take x)
  have linner : v.inner l := State.inner_queueUnlock (State.inner_trans kinner qinner) n
  have mexch : m.exch x = some { e with take := some n } := by
    rw [hm, State.modExch_exch, if_pos rfl, State.still_exch kstill, h.exch]
    rfl
  have lexch : l.exch x = some { e with take := some n } := by
    rw [hl', State.queueUnlock_exch, hq, State.setRole_exch]
    exact mexch
  obtain ⟨matched, told⟩ := v.bound_rest e.claim n .replacement
  have kbay : (k.bay n).matched = some e.claim := by
    rw [hk, State.bindClaim_eq, State.retest_bay]
    exact matched
  have ksent : k.sent .gateway (s.notice .claimMatched (.claim e.claim) 4 (bayNumber n)) := by
    rw [← State.notice_of_clock h.clock, hk, State.bindClaim_eq]
    exact State.inner_sent (State.inner_retest (State.inner_refl _) e.claim) told
  have kclaim : k.claim? e.claim = some (c.unbound.bound n) := by
    rw [hk, State.bindClaim_eq]
    have bound : (v.bound e.claim n .replacement).claim? e.claim = some (c.unbound.bound n) := by
      rw [State.bound_claim?, if_pos rfl, h.claim]
      rfl
    exact State.retest_swapKept _ e.claim _ _ bound (Claim.rebound_fields hs n).1
  have lbook : l.book = k.book := (State.queueUnlock_book _ _).trans (State.edit_book _ _ _)
  obtain ⟨qrelock, qmatched, -, qlink, -⟩ := m.setRole_rest n (.take x) n
  have lself : (l.bay n).role = .take x ∧ (l.bay n).matched = some e.claim := by
    rw [hl', State.queueUnlock_bay, if_pos rfl]
    exact ⟨by rw [hq, State.setRole_role, if_pos rfl], qmatched.trans kbay⟩
  have lother : l.bay b = v.bay b := by
    obtain ⟨g, hg⟩ := m.setRole_bay n (.take x) b
    rw [hl', State.queueUnlock_bay, if_neg (Ne.symm hn), hq, hg, if_neg (Ne.symm hn), hm, State.modExch_bay, hk,
      State.bindClaim_bay_other _ _ _ (Ne.symm hn)]
  have reach : (q.bay n).link ≠ .lost := by
    obtain ⟨-, -, -, link⟩ := State.inner_reads (State.inner_trans kinner qinner) n
    rw [link]
    exact hl
  have klock : k.queued b .lock := (keptByMatch_queued b .lock nofun).bindClaim h.bare.lock e.claim n .replacement
  have qlock : q.queued b .lock := by
    rw [State.queued, hq, State.setRole, State.edit_bus]
    exact klock
  have llock : l.queued b .lock := State.queued_queueUnlock qlock hn.symm
  have equeued : ∀ a d, (l.enterPhase x .takeOpen).queued a d ↔ l.queued a d := fun a d => by
    rw [State.queued, State.queued, State.enterPhase_bus]
  have einner : l.inner (l.enterPhase x .takeOpen) := State.inner_enterPhase l.inner_refl x .takeOpen
  have phase := State.inPhase_enter (s := l) (b := n) lexch rfl rfl .takeOpen
  have lclock : l.clock = s.clock := (State.inner_clock linner).trans h.clock
  have whole : v.retaken x e.claim n = l.enterPhase x .takeOpen := rfl
  rw [whole]
  constructor
  · exact {
      exch := phase.exch
      role := phase.role.trans lself.1
      matched := (congrArg Bay.matched (State.enterPhase_bay l x .takeOpen n)).trans lself.2
      claim := (State.claim?_of_book (State.enterPhase_book l x .takeOpen) _).trans
        ((State.claim?_of_book lbook _).trans kclaim)
      told := State.inner_sent (State.inner_trans (State.inner_queueUnlock qinner n) einner) ksent
      phase := by
        rw [← State.notice_of_clock lclock]
        exact phase.sent
      unlock := (equeued n .unlock).mpr (State.queueUnlock_queued reach) }
  · exact State.bared_of_bay h.bare ((State.enterPhase_bay l x .takeOpen b).trans lother) ((equeued b .lock).mpr llock)
      (State.inner_trans linner einner)

end

end Sys2Proof.Machine
end

section
/-! The report of a take bay whose pack may have changed, whole (R36, R73, R124). -/

open Sys2Proof Sys2Proof.Machine
namespace Sys2Proof.Machine

/-! ### What the rest of the report leaves -/

section
variable {s u : State} {b : BayNo} {x : ExNo} {e : Exchange} {c : Claim} {rep : ShortReport} {id : ClaimId}

/-- A bared bay's judging leaves the exchanges, the book and the other bays. -/
theorem State.tried_rest (h : s.bared b id u) (rep : ShortReport) :
    let y := u.tried b rep
    u.quiet y ∧ u.inner y ∧ y.book = u.book ∧ (∀ n, n ≠ b → y.bay n = u.bay n) ∧ s.bared b id y := by
  have bare := State.bared_bareBay h
  obtain ⟨⟨role, matched, pack, idle⟩, quiet⟩ := (keptByBay_quiet b u).tried_bareBay ⟨bare, u.quiet_refl⟩ rep
  obtain ⟨-, book⟩ := (keptByBay_book b u.book).tried_bareBay ⟨bare, rfl⟩ rep
  obtain ⟨-, others⟩ := (keptByBay_others b u).tried_bareBay ⟨bare, fun _ _ => rfl⟩ rep
  have inner : u.inner (u.tried b rep) := State.inner_takeDoor (State.inner_fillTest (State.inner_takeSession
    (State.inner_takeHeat u.inner_refl b rep) b rep.session) b) b
  obtain ⟨-, -, -, link⟩ := State.inner_reads inner b
  exact ⟨quiet, inner, book, others, {
    role := role, matched := matched, pack := pack, idle := idle
    link := by rw [link]; exact h.link
    relock := (quiet.still.relocks b).trans h.relock
    lock := (State.still_queued quiet.still rfl).mpr h.lock
    sent := State.inner_sent inner h.sent }⟩

theorem State.bared_listed {y : State} (h : s.bared b id y) (back : Bool) : s.bared b id (y.listed b back) := by
  have last := y.lasting_listed b back
  obtain ⟨pack, -, -, -, -, -, link, idle, -⟩ := Bay.calm_fields ((last.kept (keptByTrade_calm y) y.calmSame_refl).1 b)
  exact {
    role := (last.standing.roles b).trans h.role
    matched := (State.listed_matched (Bay.unfit_of_idle h.idle) b back).trans h.matched
    pack := pack.trans h.pack
    idle := idle.trans h.idle
    link := by rw [link]; exact h.link
    relock := last.relock h.relock
    lock := last.lock h.link h.lock
    sent := last.sent _ _ h.sent }

theorem State.over_quiet {o : Outcome} {y : State} (h : s.over x e o u) (q : u.quiet y) (i : u.inner y)
    (k : y.book = u.book) : s.over x e o y :=
  ⟨(State.still_exch q.still x).trans h.gone, fun n hn => (q.still.roles n).trans (h.roles n hn),
    State.inner_sent i h.sent, fun ho => State.notSwapping_of_book (h.free ho) k⟩

/-- The exchange over before the judging. -/
theorem State.polled_bared_over {o : Outcome} (hu : (s.heard b).packed b rep (s.back b) = u) (h : s.bared b id u)
    (k : s.over x e o u) : s.bared b id (s.polled b rep) ∧ s.over x e o (s.polled b rep) := by
  obtain ⟨quiet, inner, book, -, bare⟩ := State.tried_rest h rep
  rw [State.polled_tried hu (State.bared_bareBay h)]
  exact ⟨State.bared_listed bare _, State.over_lasting (State.over_quiet k quiet inner book) (State.lasting_listed _ b _)⟩

/-- The take begun afresh before the judging. -/
theorem State.polled_bared_replaced {n : BayNo} (hu : (s.heard b).packed b rep (s.back b) = u) (h : s.bared b id u)
    (hn : n ≠ b) (hs : c.state = .swapping) (k : s.replaced x e c n u) :
    s.bared b id (s.polled b rep) ∧ s.replaced x e c n (s.polled b rep) := by
  obtain ⟨quiet, inner, book, others, bare⟩ := State.tried_rest h rep
  rw [State.polled_tried hu (State.bared_bareBay h)]
  set y := u.tried b rep with hy
  have last := y.lasting_listed b (s.back b)
  have role : (y.bay n).role = .take x := by rw [others n hn]; exact k.role
  have unfit : (y.bay n).unfit := Bay.unfit_of_role (by rw [role]; exact nofun)
  refine ⟨State.bared_listed bare _, ?_⟩
  exact {
    exch := (last.standing.exch x).trans ((State.still_exch quiet.still x).trans k.exch)
    role := (last.standing.roles n).trans role
    matched := (State.listed_matched unfit b _).trans (by rw [others n hn]; exact k.matched)
    claim := last.standing.swaps _ _ ((State.claim?_of_book book e.claim).trans k.claim) (Claim.rebound_fields hs n).1
    told := last.sent _ _ (State.inner_sent inner k.told)
    phase := last.sent _ _ (State.inner_sent inner k.phase)
    unlock := last.others n .unlock hn rfl ((State.still_queued quiet.still rfl).mpr k.unlock) }

end

/-! ### The search after the loss is the search before it -/

section
variable {s v : State} {b : BayNo} {x : ExNo} {e : Exchange} {c : Claim}

theorem Bay.not_fit_of_unfit {r : Bay} (h : r.unfit) (c : Claim) : ¬r.fitFor c := fun k => by
  have candidate := k.1
  rw [h c.cls] at candidate
  cases candidate

theorem State.findReplacement_fit {s : State} {c : Claim} {n : BayNo} (h : s.findReplacement c = some n) :
    (s.bay n).fitFor c := by
  have fit : ∀ {sec : BaySection}, s.bestBay (fun r => r.candidateReady sec c) = some n → (s.bay n).fitFor c :=
    fun {sec} k => ((Bay.candidateReady_iff _ sec c).mp (State.bestBay_ok k)).1
  rw [State.findReplacement_eq] at h
  split at h
  · next m hm => exact fit (by rw [hm, h])
  · split at h
    · exact fit h
    · cases h

/-- The bays that fit are those that did: the take bay fits neither before nor after. -/
theorem State.loosed_fit (h : s.loosed b x e c v) (hr : (s.bay b).role = .take x) (n : BayNo) :
    (v.bay n).fitFor c.unbound ↔ (s.bay n).fitFor c := by
  by_cases hn : n = b
  · rw [hn]
    exact iff_of_false (Bay.not_fit_of_unfit (Bay.unfit_of_idle h.bare.idle) c.unbound)
      (Bay.not_fit_of_unfit (Bay.unfit_of_role (by rw [hr]; exact nofun)) c)
  · rw [h.others n hn]
    exact Iff.rfl

theorem State.fit_ne (hr : (s.bay b).role = .take x) {n : BayNo} (h : (s.bay n).fitFor c) : n ≠ b := by
  rintro rfl
  exact Bay.not_fit_of_unfit (Bay.unfit_of_role (by rw [hr]; exact nofun)) c h

theorem State.loosed_across (h : s.loosed b x e c v) (hc : s.claim? e.claim = some c) :
    v.across c.unbound ↔ s.across c := by
  have same : c.unbound.id = c.id ∧ c.unbound.due = c.due := ⟨rfl, rfl⟩
  unfold State.across
  rw [same.1, same.2, h.clock, h.params, h.claims]
  split
  · exact Iff.rfl
  · next walkup =>
    rw [List.forall_mem_map]
    refine forall₂_congr fun k _ => ?_
    split
    · next named =>
      have origin : k.id.origin ≠ .gateway := by
        rw [named, ← s.claim?_id hc]
        exact walkup
      exact iff_of_true (fun a => absurd a origin) fun a => absurd a origin
    · exact Iff.rfl

theorem State.seekReplacement_none {id : ClaimId} (hc : v.claim? id = some c) (h : v.findReplacement c = none) :
    v.seekReplacement x id = v.endExchange x .noPack [] [] none := by
  simp only [State.seekReplacement, hc, h]

theorem State.seekReplacement_some {id : ClaimId} {n : BayNo} (hc : v.claim? id = some c)
    (h : v.findReplacement c = some n) : v.seekReplacement x id = v.retaken x id n := by
  simp only [State.seekReplacement, hc, h]
  rfl

theorem State.loosed_finds_none (h : s.loosed b x e c v) (hr : (s.bay b).role = .take x)
    (hc : s.claim? e.claim = some c) (hn : ∀ n, (s.bay n).fitFor c → (s.bay n).bsection ≠ c.own ∧ ¬s.across c) :
    v.findReplacement c.unbound = none := by
  refine State.findReplacement_none fun n fit => ?_
  have was := (State.loosed_fit h hr n).mp fit
  rw [State.loosed_across h hc, h.others n (State.fit_ne hr was)]
  exact hn n was

theorem State.loosed_finds_some (h : s.loosed b x e c v) (hr : (s.bay b).role = .take x)
    (hc : s.claim? e.claim = some c) {n : BayNo} (hn : (s.bay n).fitFor c)
    (hsec : (s.bay n).bsection = c.own ∨ (s.across c ∧ ∀ m, (s.bay m).fitFor c → (s.bay m).bsection ≠ c.own))
    (hbest : ∀ m, (s.bay m).fitFor c → (s.bay m).bsection = (s.bay n).bsection → s.noWorse n m) :
    v.findReplacement c.unbound = some n := by
  have keep : ∀ m, (s.bay m).fitFor c → v.bay m = s.bay m := fun m hm => h.others m (State.fit_ne hr hm)
  refine State.findReplacement_some ((State.loosed_fit h hr n).mpr hn) ?_ fun m fit sec => ?_
  · rw [keep n hn, State.loosed_across h hc]
    refine hsec.imp id fun k => ⟨k.1, fun m fit => ?_⟩
    have was := (State.loosed_fit h hr m).mp fit
    rw [keep m was]
    exact k.2 m was
  · have was := (State.loosed_fit h hr m).mp fit
    rw [keep m was, keep n hn] at sec
    unfold State.noWorse
    rw [keep m was, keep n hn]
    exact hbest m was sec

end

/-! ### The report whole -/

section
variable {s : State} {b : BayNo} {x : ExNo} {e : Exchange} {c : Claim} {rep : ShortReport}

/-- A changed insertion count, or a node restart, in the report of a take bay of TAKE-OPEN. -/
structure ChangedReport (s : State) (b : BayNo) (x : ExNo) (e : Exchange) (c : Claim) (rep : ShortReport) : Prop where
  role : (s.bay b).role = .take x
  exch : s.exch x = some e
  phase : e.phase = .takeOpen
  take : e.take = some b
  state : (s.bay b).state ≠ .vacant
  sensed : rep.sensed = true
  moved : rep.count ≠ (s.bay b).count ∨ rep.restart = true
  claim : s.claim? e.claim = some c
  swapping : c.state = .swapping
  bay : c.takeBay = some b

/-- The report up to its heat: the bay loosed, and how the exchange goes on. -/
theorem ChangedReport.packed (h : ChangedReport s b x e c rep) : ∃ v, s.loosed b x e c v ∧
    (s.heard b).packed b rep (s.back b)
      = if e.abort then v.endExchange x .aborted [] [] none else v.seekReplacement x e.claim := by
  obtain ⟨w, packed, quiet, inner, book, others, pack, idle⟩ := State.packed_changed h.sensed h.state h.moved
  have role : (w.bay b).role = .take x := (quiet.still.roles b).trans ((s.based_role b rep b).trans h.role)
  have exch : w.exch x = some e := (State.still_exch quiet.still x).trans ((s.based_exch b rep x).trans h.exch)
  have drop : w.dropMatchChanged b = w.takeChanged x e b := by
    simp only [State.dropMatchChanged, role, exch]
    exact if_pos h.phase
  exact ⟨w.released x e.claim b, State.released_loosed h.exch h.claim h.bay quiet inner book others pack idle,
    packed.trans (drop.trans (w.takeChanged_eq x e b))⟩

theorem ChangedReport.aborted (h : ChangedReport s b x e c rep) (ha : e.abort = true) :
    s.bared b e.claim (s.polled b rep) ∧ s.over x e .aborted (s.polled b rep) := by
  obtain ⟨v, loosed, packed⟩ := h.packed
  obtain ⟨ended, bare⟩ := State.loosed_ends loosed h.take (o := .aborted)
  exact State.polled_bared_over (packed.trans (if_pos ha)) bare ended

theorem ChangedReport.seeks (h : ChangedReport s b x e c rep) (ha : e.abort = false) : ∃ v, s.loosed b x e c v ∧
    (v.findReplacement c.unbound = none →
      s.bared b e.claim (s.polled b rep) ∧ s.over x e .noPack (s.polled b rep))
    ∧ ∀ n, v.findReplacement c.unbound = some n →
      s.bared b e.claim (s.polled b rep) ∧ s.replaced x e c n (s.polled b rep) := by
  obtain ⟨v, loosed, packed⟩ := h.packed
  have seeks := packed.trans (if_neg (by rw [ha]; exact nofun))
  refine ⟨v, loosed, fun hf => ?_, fun n hf => ?_⟩
  · obtain ⟨ended, bare⟩ := State.loosed_ends loosed h.take (o := .noPack)
    exact State.polled_bared_over (seeks.trans (State.seekReplacement_none loosed.claim hf)) bare ended
  · have fit := State.findReplacement_fit hf
    have hn : n ≠ b := State.fit_ne h.role ((State.loosed_fit loosed h.role n).mp fit)
    have reach : (v.bay n).link ≠ .lost := fun k =>
      Bay.not_fit_of_unfit (Bay.unfit_of_link (by rw [k]; exact nofun)) c.unbound fit
    obtain ⟨replaced, bare⟩ := State.loosed_replaced loosed h.swapping hn reach
    exact State.polled_bared_replaced (seeks.trans (State.seekReplacement_some loosed.claim hf)) bare hn h.swapping replaced

theorem ChangedReport.bared (h : ChangedReport s b x e c rep) : s.bared b e.claim (s.polled b rep) := by
  cases ha : e.abort with
  | true => exact (h.aborted ha).1
  | false =>
    obtain ⟨v, -, ends, takes⟩ := h.seeks ha
    cases hf : v.findReplacement c.unbound with
    | none => exact (ends hf).1
    | some n => exact (takes n hf).1

theorem ChangedReport.noPack (h : ChangedReport s b x e c rep) (ha : e.abort = false)
    (hn : ∀ n, (s.bay n).fitFor c → (s.bay n).bsection ≠ c.own ∧ ¬s.across c) : s.over x e .noPack (s.polled b rep) := by
  obtain ⟨v, loosed, ends, -⟩ := h.seeks ha
  exact (ends (State.loosed_finds_none loosed h.role h.claim hn)).2

theorem ChangedReport.replaced (h : ChangedReport s b x e c rep) (ha : e.abort = false) {n : BayNo}
    (hn : (s.bay n).fitFor c)
    (hsec : (s.bay n).bsection = c.own ∨ (s.across c ∧ ∀ m, (s.bay m).fitFor c → (s.bay m).bsection ≠ c.own))
    (hbest : ∀ m, (s.bay m).fitFor c → (s.bay m).bsection = (s.bay n).bsection → s.noWorse n m) :
    s.replaced x e c n (s.polled b rep) := by
  obtain ⟨v, loosed, -, takes⟩ := h.seeks ha
  exact (takes n (State.loosed_finds_some loosed h.role h.claim hn hsec hbest)).2

end

end Sys2Proof.Machine
end

section
/-! O48: what a report of an exchange's bay does to the exchange. -/

open Sys2Proof Sys2Proof.Machine
namespace Sys2Proof.Machine

/-- A SWAPPING claim stays SWAPPING, with its terms and its bay. -/
theorem State.swapKept_fields {s t : State} (h : s.swapKept t) (id : ClaimId) (c : Claim) (hc : s.claim? id = some c)
    (hs : c.state = .swapping) :
    ∃ d, t.claim? id = some d ∧ d.state = .swapping ∧ d.terms = c.terms ∧ d.takeBay = c.takeBay :=
  ⟨c, h id c hc hs, hs, rfl, rfl⟩

/-- Settles O48: the exchange's moves at an accepted poll report, phase by phase. -/
theorem packTakenClosesClaim : Obligations.PackTakenClosesClaim := by
  unfold Obligations.PackTakenClosesClaim
  intro s x e b rep ans hflight he
  refine ⟨s.polled b rep, exec_poll hflight rep ans, ?_, ?_, ?_, ?_, ?_, ?_, ?_, ?_, ?_⟩
  case refine_1 =>
    intro hr y hy
    refine State.polled_other ?_ hy rep
    obtain hr | hr := hr
    · rw [hr]; rfl
    · rw [hr]; rfl
  case refine_2 =>
    rintro ⟨hp, -, hr⟩ hs
    refine ⟨fun hd hsensed cool => ?_, fun ha hd hl hn => ?_, fun h => ?_⟩
    · obtain ⟨phase, swaps, admitted, lock, relock⟩ := State.polled_intakeOpen_shut hr he hp hs ⟨hsensed, hd, cool⟩
      obtain ⟨admitting, -, -, -, -, -, identify⟩ := admitted
      exact ⟨⟨phase.exch, phase.role, phase.sent⟩, State.swapKept_fields swaps e.claim, admitting, identify, lock, relock⟩
    · have ended := State.polled_intakeOpen_aborted hr he hp hs ha hd hl hn
      exact ⟨⟨ended.gone, ended.roles, ended.sent⟩, fun _ _ => State.over_handedBack ended rfl⟩
    · exact State.polled_intakeOpen_waits hr he hp hs h
  case refine_3 =>
    intro hi hc hs hot
    have rejected : s.rejected b x e (s.polled b rep) := by
      obtain ⟨hp, -, hr⟩ | ⟨hp, -, hr⟩ := hi
      · exact State.polled_rejected hr he (.inl hp) hc hs hot
      · exact State.polled_rejected hr he (.inr hp) hc hs hot
    exact ⟨⟨rejected.phase.exch, rejected.phase.role, rejected.phase.sent⟩,
      State.swapKept_fields rejected.swaps e.claim, rejected.state, rejected.unlock⟩
  case refine_4 =>
    rintro ⟨hp, -, hr⟩ hst hs hn
    obtain ⟨phase, swaps, rest⟩ := State.polled_intakeCheck_removed hr he hp hst hs hn
    exact ⟨⟨phase.exch, phase.role, phase.sent⟩, State.swapKept_fields swaps e.claim, rest⟩
  case refine_5 =>
    rintro ⟨hp, -, hr⟩ hn hd
    obtain ⟨ended, lock, relock⟩ := State.polled_returnRejected hr he hp hn hd
    exact ⟨⟨ended.gone, ended.roles, ended.sent⟩, fun _ _ => State.over_handedBack ended rfl, lock, relock,
      fun hs hst hc => State.polled_returnRejected_emptied hr he hp hs hst hc hn⟩
  case refine_6 =>
    rintro ⟨hp, ht, hr⟩ - hs hn
    cases hd : rep.door with
    | opened =>
      obtain ⟨phase, closed, state, pack, cause⟩ := State.polled_taken_open hr he hp hs hn hd
      exact ⟨closed, state, pack, cause, fun _ => ⟨phase.exch, phase.role, phase.sent⟩, nofun⟩
    | closed =>
      obtain ⟨ended, lock, relock, closed, state, pack, cause⟩ := State.polled_taken_shut hr he hp ht hs hn hd
      exact ⟨closed, state, pack, cause, nofun, fun _ => ⟨⟨ended.gone, ended.roles, ended.sent⟩, lock, relock⟩⟩
  case refine_7 =>
    rintro ⟨hp, -, hr⟩ ha hs hcount hrestart hd hl
    have ended := State.polled_takeOpen_aborted hr he hp ha hs hcount hrestart hd hl
    exact ⟨⟨ended.gone, ended.roles, ended.sent⟩, fun _ _ => State.over_handedBack ended rfl⟩
  case refine_8 =>
    rintro c ⟨hp, ht, hr⟩ hv hs hm hc hsw hb
    have changed : ChangedReport s b x e c rep := ⟨hr, he, hp, ht, hv, hs, hm, hc, hsw, hb⟩
    have bare := changed.bared
    refine ⟨bare.role, bare.matched, bare.pack, bare.lock, bare.relock, bare.sent, fun ha => ?_, fun ha hn => ?_,
      fun ha n fit hsec hbest => ?_⟩
    · obtain ⟨-, ended⟩ := changed.aborted ha
      exact ⟨⟨ended.gone, ended.roles, ended.sent⟩, fun _ _ => State.over_handedBack ended rfl⟩
    · have ended := changed.noPack ha hn
      exact ⟨⟨ended.gone, ended.roles, ended.sent⟩, fun _ _ => State.over_handedBack ended rfl⟩
    · have again := changed.replaced ha fit hsec hbest
      exact ⟨again.exch, again.role, again.matched, ⟨_, again.claim, Claim.rebound_fields hsw n⟩, again.told, again.phase,
        again.unlock⟩
  case refine_9 =>
    rintro ⟨hp, -, hr⟩
    refine ⟨fun hd => ?_, fun hd => State.polled_closing_open hr he hp hd⟩
    obtain ⟨ended, lock, relock⟩ := State.polled_closing_done hr he hp hd
    exact ⟨⟨ended.gone, ended.roles, ended.sent⟩, lock, relock⟩

end Sys2Proof.Machine
end

section
/-! Profile resolution and the staged set (R26, R33). -/

open Sys2Proof Sys2Proof.Machine
namespace Sys2Proof.Machine

/-! ### Resolution (R26) -/

/-- A profile that may be resolved: shared, and not above the ceiling (R26). -/
def resolvable (a v : AbilitySet) (health : Health) (ceiling : Option Profile) (k : Profile) : Prop :=
  a.getLsbD k.index = true ∧ v.getLsbD k.index = true ∧ ¬(health = .worn ∧ k = .p3)
    ∧ ∀ c, ceiling = some c → k.index ≤ c.index

theorem underCeiling_iff (ceiling : Option Profile) (k : Profile) :
    underCeiling ceiling k = true ↔ ∀ c, ceiling = some c → k.index ≤ c.index := by
  cases ceiling <;> simp [underCeiling]

theorem resolvable_iff (a v : AbilitySet) (health : Health) (ceiling : Option Profile) (k : Profile) :
    (profileShared a v health k && underCeiling ceiling k) = true ↔ resolvable a v health ceiling k := by
  simp only [profileShared, AbilitySet.holds, resolvable, Bool.and_eq_true, underCeiling_iff, Bool.not_eq_true',
    Bool.and_eq_false_iff, decide_eq_false_iff_not]
  tauto

theorem resolveProfile_none_iff (a v : AbilitySet) (health : Health) (ceiling : Option Profile) :
    resolveProfile a v health ceiling = none ↔ ∀ k, ¬ resolvable a v health ceiling k := by
  rw [resolveProfile, List.find?_eq_none]
  refine ⟨fun h k hk => h k (by cases k <;> decide) ((resolvable_iff a v health ceiling k).mpr hk), fun h k _ hk => ?_⟩
  exact h k ((resolvable_iff a v health ceiling k).mp hk)

/-- What is found going down from P3 is the highest there is. -/
theorem resolveProfile_some_iff (a v : AbilitySet) (health : Health) (ceiling : Option Profile) (k : Profile) :
    resolveProfile a v health ceiling = some k ↔
      resolvable a v health ceiling k ∧ ∀ j, resolvable a v health ceiling j → j.index ≤ k.index := by
  have found : ∀ {k}, resolveProfile a v health ceiling = some k →
      resolvable a v health ceiling k ∧ ∀ j, resolvable a v health ceiling j → j.index ≤ k.index := fun {k} h =>
    ⟨(resolvable_iff a v health ceiling k).mp (List.find?_some
        (p := fun p => profileShared a v health p && underCeiling ceiling p) h),
      fun j hj => profilesDown_find_max h ((resolvable_iff a v health ceiling j).mpr hj)⟩
  refine ⟨found, fun ⟨hk, hmax⟩ => ?_⟩
  cases e : resolveProfile a v health ceiling with
  | none => exact absurd hk ((resolveProfile_none_iff a v health ceiling).mp e k)
  | some j =>
    obtain ⟨hj, above⟩ := found e
    exact congrArg some (Profile.index_inj (Nat.le_antisymm (hmax j hj) (above k hk)))

/-- Settles O25. -/
theorem resolutionHighest : Obligations.ResolutionHighest := fun a v health ceiling =>
  ⟨fun k => resolveProfile_some_iff a v health ceiling k, resolveProfile_none_iff a v health ceiling⟩

/-! ### SET-BAY-ABILITY (R33) -/

theorem exec_setBayAbility (n a : Byte) (s : State) :
    exec (.setBayAbility .gateway n a) s = .next (s.takeRequest .gateway (.setBayAbility n a)) := rfl

theorem setByte_eq (a : AbilitySet) : setByte a = [a.setWidth 8] := by
  rw [setByte, u8_eq, BitVec.ofNat_toNat]

/-- A bay out of range, or no ability in the bits that are read. -/
theorem State.setBayAbility_badField (s : State) {n a : Byte} (h : bayOfByte n = none ∨ a.extractLsb' 0 4 = 0) :
    s.setBayAbility n a = s.refuse .badField := by
  unfold State.setBayAbility
  split
  · rfl
  · next b hb => exact if_pos (h.resolve_left (by rw [hb]; exact nofun))

theorem State.setBayAbility_done (s : State) {n a : Byte} {b : BayNo} (hb : n.toNat = bayNumber b)
    (ha : a.extractLsb' 0 4 ≠ 0) :
    s.setBayAbility n a = (s.modBay b (fun r => { r with staged := a.extractLsb' 0 4 })).reply
      [n, (a.extractLsb' 0 4).setWidth 8, (s.bay b).inForce.setWidth 8] := by
  simp only [State.setBayAbility, bayOfByte_some hb, abilitiesOfByte, if_neg ha, State.modBay_bay_self, setByte_eq,
    u8_bayNumber hb]
  rfl

/-- Settles O19. -/
theorem setBayAbility : Obligations.SetBayAbility := by
  intro n a s hfree
  refine ⟨fun h => ?_, fun b hb ha => ?_⟩
  · have bad : bayOfByte n = none ∨ a.extractLsb' 0 4 = 0 := by
      rcases h with h | h | h
      · exact .inl (bayOfByte_none (.inl h))
      · exact .inl (bayOfByte_none (.inr h))
      · exact .inr h
    rw [exec_setBayAbility, s.takeRequest_refused .gateway (.setBayAbility n a) hfree rfl .badField [] (s.setBayAbility_badField bad)]
    rfl
  · rw [exec_setBayAbility, s.takeRequest_ok .gateway (.setBayAbility n a) hfree rfl _ _ (s.setBayAbility_done hb ha)]

end Sys2Proof.Machine
end

section
/-! RESTART-BAY (R34). -/

open Sys2Proof Sys2Proof.Machine
namespace Sys2Proof.Machine

/-! ### The start of an admission, whatever its cause and the bay's link (R22 to R24) -/

/-- A new admission: one attempt queued, or held on a LOST bay. -/
def Admission.anew (l : Link) (k : AdmissionCause) (n : Nat) : Admission :=
  { cause := k, attempts := if l = .lost then 0 else 1, held := decide (l = .lost), number := n }

/-- The record an admission starts from, before IDENTIFY is queued for it (R22). -/
def Bay.admitted (r : Bay) (k : AdmissionCause) (n : Nat) : Bay :=
  { r.admitAs k with
    state := .admitting
    cause := none
    admission := some { cause := k, attempts := 0, held := false, number := n } }

/-- An admission, up to its IDENTIFY. -/
def State.openAdmission (s : State) (b : BayNo) (k : AdmissionCause) : State :=
  let t := ({ s.withdrawIdentify b with admissions := s.admissions + 1 } : State).edit b
    (fun r => r.admitted k (s.admissions + 1))
  if (s.bay b).pack.isSome && decide (k = .insertion) then t.recap b else t

theorem State.startAdmission_eq (s : State) (b : BayNo) (k : AdmissionCause) :
    s.startAdmission b k = (s.openAdmission b k).queueIdentify b := rfl

theorem Bay.admitted_idle (r : Bay) (k : AdmissionCause) (n : Nat) : (r.admitted k n).ownEligible = false := by
  simp [Bay.ownEligible, Bay.admitted]

/-- An admission cuts the grant of an eligible bay; without INSERTION nothing else is cut (R101). -/
theorem State.openAdmission_bay (s : State) (b : BayNo) (k : AdmissionCause) :
    ∃ g cap, (s.openAdmission b k).bay b = { (s.bay b).admitted k (s.admissions + 1) with grant := g, cap := cap }
      ∧ (k ≠ .insertion → cap = ((s.bay b).admitted k (s.admissions + 1)).cap
          ∧ g = if s.eligible b then 0 else ((s.bay b).admitted k (s.admissions + 1)).grant) := by
  set w : State := { s.withdrawIdentify b with admissions := s.admissions + 1 } with hw
  set f : Bay → Bay := fun r => r.admitted k (s.admissions + 1) with hf
  have ended : (w.modBay b f).eligible b = false := by
    simp only [State.eligible, State.modBay_bay_self, hf, Bay.admitted_idle, Bool.false_and]
  have ebay : (w.edit b f).bay b
      = { f (s.bay b) with grant := if s.eligible b then 0 else (f (s.bay b)).grant } := by
    rw [State.edit_bay, if_pos rfl, ended]
    simp only [and_true]
    rfl
  rw [State.openAdmission]
  dsimp only
  split
  · next h => exact ⟨_, _, by rw [State.recap_bay, if_pos rfl, ebay], fun hk => by simp [hk] at h⟩
  · exact ⟨_, _, ebay, fun _ => ⟨rfl, rfl⟩⟩

/-- IDENTIFY is queued for an admission, or the admission of a LOST bay is held (R22, R24). -/
theorem State.queueIdentify_record {s : State} {b : BayNo} {a : Admission} (ha : (s.bay b).admission = some a) :
    (s.queueIdentify b).bay b = { s.bay b with
      admission := some (if (s.bay b).link = .lost then { a with held := true } else { a with attempts := a.attempts + 1 }) } := by
  by_cases hl : (s.bay b).link = .lost
  · simp only [State.queueIdentify, ha, if_pos hl, State.modBay_bay_self]
  · rw [(State.queueIdentify_bay ha hl).1, if_neg hl]

/-- The record of a bay whose admission has started. -/
theorem State.startAdmission_bay (s : State) (b : BayNo) (k : AdmissionCause) :
    ∃ g cap, (s.startAdmission b k).bay b = { (s.bay b).admitAs k with
        state := .admitting, cause := none, admission := some (.anew (s.bay b).link k (s.admissions + 1)),
        grant := g, cap := cap }
      ∧ (k ≠ .insertion → cap = ((s.bay b).admitAs k).cap
          ∧ g = if s.eligible b then 0 else ((s.bay b).admitAs k).grant) := by
  obtain ⟨g, cap, hb, hk⟩ := s.openAdmission_bay b k
  have link : ((s.bay b).admitAs k).link = (s.bay b).link := by cases k <;> rfl
  refine ⟨g, cap, ?_, hk⟩
  rw [State.startAdmission_eq, State.queueIdentify_record
    (a := { cause := k, attempts := 0, held := false, number := s.admissions + 1 }) (by rw [hb]; rfl), hb]
  simp only [Bay.admitted, link, Admission.anew]
  by_cases hl : (s.bay b).link = .lost <;> simp [hl]

/-- IDENTIFY stands in the queue for an admission of a bay that is not LOST (R22). -/
theorem State.startAdmission_queued {s : State} {b : BayNo} (hl : (s.bay b).link ≠ .lost) (k : AdmissionCause) :
    (s.startAdmission b k).queued b (.identify (s.admissions + 1)) := by
  obtain ⟨g, cap, hb, -⟩ := s.openAdmission_bay b k
  have link : ((s.bay b).admitAs k).link = (s.bay b).link := by cases k <;> rfl
  rw [State.startAdmission_eq]
  exact (State.queueIdentify_bay (a := { cause := k, attempts := 0, held := false, number := s.admissions + 1 })
    (by rw [hb]; rfl) (by rw [hb]; exact link ▸ hl)).2

/-! ### What RESTART-BAY does by the bay's state (R34) -/

section
variable {P : State → Prop} {b : BayNo} (K : KeptByBay b P) {t : State}
include K

theorem KeptByBay.liftFault (h : P t) (k : FaultCause) (kept : AdmissionCause) : P (t.liftFault b k kept) := by
  unfold State.liftFault
  exact kept_ite (K.notify (K.startAdmission h _) _ _ _ _) (kept_ite (K.notify (K.startAdmission h _) _ _ _ _)
    (K.notify (K.edit (by exact fun _ => rfl) h) _ _ _ _))

theorem KeptByBay.restart (h : P t) : P (t.restart b) := by
  have m : P (t.modBay b (fun r => { r.copyStaged with ceiling := none })) := K.record (by exact fun _ => rfl) h
  unfold State.restart
  dsimp only
  split
  · exact K.record (by exact fun _ => rfl) h
  · exact K.startAdmission m _
  · exact K.startAdmission (K.queue (by decide) h) _
  · exact K.startAdmission (K.queue (by decide) h) _
  · exact K.startAdmission h _
  · split
    · exact K.liftFault m _ _
    · exact K.liftFault m _ _
    · exact m

end

/-- The record with the staged set in force and the ceiling cleared, from which a FAULTED or ADMITTING bay restarts. -/
def State.restaged (s : State) (b : BayNo) : State := s.modBay b (fun r => { r.copyStaged with ceiling := none })

theorem State.restaged_bay (s : State) (b : BayNo) :
    (s.restaged b).bay b = { s.bay b with inForce := (s.bay b).staged, ceiling := none } := State.modBay_bay_self _ _ _

variable {s : State} {b : BayNo}

theorem State.restart_vacant (h : (s.bay b).state = .vacant) : s.restart b = s.modBay b Bay.copyStaged := by
  simp only [State.restart, h]

theorem State.restart_admitting (h : (s.bay b).state = .admitting) :
    s.restart b = (s.restaged b).startAdmission b (Admission.restarted (s.bay b).admission) := by
  simp only [State.restart, h]
  rfl

/-- A bay with an admitted pack starts a RESTART admission; a charge command may be queued first (R28). -/
theorem State.restart_held (h : (s.bay b).state = .charging ∨ (s.bay b).state = .topped ∨ (s.bay b).state = .withheld) :
    ∃ w : State, s.restart b = w.startAdmission b .restart ∧ w.bay b = s.bay b ∧ w.eligible b = s.eligible b
      ∧ w.admissions = s.admissions := by
  have queued : ∀ c, (s.queueCmd b c).bay b = s.bay b ∧ (s.queueCmd b c).eligible b = s.eligible b
      ∧ (s.queueCmd b c).admissions = s.admissions := fun c =>
    ⟨s.queueCmd_bay b c b, by rw [State.eligible, State.queueCmd_bay, State.queueCmd_grants]; rfl,
      s.queueCmd_admissions b c⟩
  rcases h with h | h | h
  · exact ⟨s.queueCmd b (.chargeStop true), by simp only [State.restart, h], queued _⟩
  · exact ⟨s.queueCmd b (.chargeStop true), by simp only [State.restart, h], queued _⟩
  · exact ⟨s, by simp only [State.restart, h], rfl, rfl, rfl⟩

theorem State.restart_lifted (h : (s.bay b).state = .faulted) {k : FaultCause} (hc : (s.bay b).cause = some k)
    (hk : k = .profile ∨ k = .charge) : s.restart b = (s.restaged b).liftFault b k .restart := by
  rcases hk with rfl | rfl <;> simp only [State.restart, h, hc] <;> rfl

theorem State.restart_faulted (h : (s.bay b).state = .faulted) (hp : (s.bay b).cause ≠ some .profile)
    (hc : (s.bay b).cause ≠ some .charge) : s.restart b = s.restaged b := by
  simp only [State.restart, h]
  rfl

/-- The cause of the admission that replaces a running one (R34). -/
theorem Admission.restarted_some (a : Admission) :
    Admission.restarted (some a) = if a.cause = .insertion then .insertion else .restart := by
  obtain ⟨k, n, h, m⟩ := a
  cases k <;> rfl

theorem Admission.restarted_ne (a : Option Admission) : Admission.restarted a ≠ .faultClear := by
  cases a with
  | none => exact nofun
  | some a =>
    rw [Admission.restarted_some]
    split <;> exact nofun

/-- A lifted fault starts an admission where there is a pack, and leaves the bay VACANT where there is none (R34). -/
theorem State.liftFault_pack (h : (s.bay b).pack.isSome = true) (k : FaultCause) (kept : AdmissionCause) :
    s.liftFault b k kept = (s.startAdmission b kept).sayCleared b k 1 := if_pos h

theorem State.liftFault_sensed (h : (s.bay b).pack = none) (hs : (s.bay b).sensed = true) (k : FaultCause)
    (kept : AdmissionCause) : s.liftFault b k kept = (s.startAdmission b .insertion).sayCleared b k 1 := by
  simp only [State.liftFault, h, hs, Option.isSome_none, Bool.false_eq_true, if_false, if_true]

theorem State.liftFault_empty (h : (s.bay b).pack = none) (hs : (s.bay b).sensed = false) (k : FaultCause)
    (kept : AdmissionCause) :
    s.liftFault b k kept = (s.edit b (fun r => { r with state := .vacant, cause := none })).sayCleared b k 0 := by
  simp only [State.liftFault, h, hs, Option.isSome_none, Bool.false_eq_true, if_false]

/-! ### The bay after RESTART-BAY -/

/-- What every restart makes of a bay: the staged set in force, no pack charged, and for an admission IDENTIFY. -/
structure State.restaging (s : State) (b : BayNo) (w : State) : Prop where
  inForce : (w.bay b).inForce = (s.bay b).staged
  idle : (w.bay b).holdsCharged = false
  identify : (s.bay b).link ≠ .lost → (w.bay b).state = .admitting → w.queued b (.identify (s.admissions + 1))

/-- A restart that is an admission, of INSERTION or RESTART. -/
structure State.readmitted (s : State) (b : BayNo) (k : AdmissionCause) (w : State) : Prop where
  restaging : s.restaging b w
  state : (w.bay b).state = .admitting
  cause : (w.bay b).cause = none
  ceiling : (w.bay b).ceiling = none
  admission : (w.bay b).admission = some (.anew (s.bay b).link k (s.admissions + 1))

theorem State.readmitted_start {m : State} {k : AdmissionCause} (hk : k ≠ .faultClear)
    (staged : (m.bay b).staged = (s.bay b).staged) (link : (m.bay b).link = (s.bay b).link)
    (number : m.admissions = s.admissions) : s.readmitted b k (m.startAdmission b k) := by
  obtain ⟨g, cap, hb, -⟩ := m.startAdmission_bay b k
  have fresh : ((m.bay b).admitAs k).inForce = (m.bay b).staged ∧ ((m.bay b).admitAs k).ceiling = none := by
    cases k with
    | insertion => exact ⟨rfl, rfl⟩
    | restart => exact ⟨rfl, rfl⟩
    | faultClear => exact absurd rfl hk
  refine ⟨⟨?_, ?_, fun hl _ => number ▸ State.startAdmission_queued (link ▸ hl) k⟩, ?_, ?_, ?_, ?_⟩ <;> rw [hb]
  · exact fresh.1.trans staged
  · rfl
  · exact fresh.2
  · rw [link, number]

theorem State.readmitted_restaged {k : AdmissionCause} (hk : k ≠ .faultClear) :
    s.readmitted b k ((s.restaged b).startAdmission b k) :=
  State.readmitted_start hk (by rw [State.restaged_bay]) (by rw [State.restaged_bay]) rfl

theorem State.readmitted_cleared {w : State} {k : AdmissionCause} (h : s.readmitted b k w) (c : FaultCause) (v : Nat) :
    s.readmitted b k (w.sayCleared b c v) :=
  ⟨⟨h.restaging.inForce, h.restaging.idle, h.restaging.identify⟩, h.state, h.cause, h.ceiling, h.admission⟩

theorem State.restart_admits (h : (s.bay b).state = .admitting) :
    s.readmitted b (Admission.restarted (s.bay b).admission) (s.restart b) := by
  rw [State.restart_admitting h]
  exact State.readmitted_restaged (Admission.restarted_ne _)

theorem State.restart_lifts_pack (h : (s.bay b).state = .faulted) {k : FaultCause} (hc : (s.bay b).cause = some k)
    (hk : k = .profile ∨ k = .charge) (hp : (s.bay b).pack.isSome = true) : s.readmitted b .restart (s.restart b) := by
  rw [State.restart_lifted h hc hk, State.liftFault_pack (by rw [State.restaged_bay]; exact hp)]
  exact State.readmitted_cleared (State.readmitted_restaged (by decide)) k 1

theorem State.restart_lifts_sensed (h : (s.bay b).state = .faulted) {k : FaultCause} (hc : (s.bay b).cause = some k)
    (hk : k = .profile ∨ k = .charge) (hp : (s.bay b).pack = none) (hs : (s.bay b).sensed = true) :
    s.readmitted b .insertion (s.restart b) := by
  rw [State.restart_lifted h hc hk, State.liftFault_sensed (by rw [State.restaged_bay]; exact hp)
    (by rw [State.restaged_bay]; exact hs)]
  exact State.readmitted_cleared (State.readmitted_restaged (by decide)) k 1

theorem State.restart_lifts_empty (h : (s.bay b).state = .faulted) {k : FaultCause} (hc : (s.bay b).cause = some k)
    (hk : k = .profile ∨ k = .charge) (hp : (s.bay b).pack = none) (hs : (s.bay b).sensed = false) :
    s.restaging b (s.restart b) ∧ ((s.restart b).bay b).state = .vacant ∧ ((s.restart b).bay b).cause = none
      ∧ ((s.restart b).bay b).ceiling = none := by
  obtain ⟨g, -, hg⟩ := (s.restaged b).edit_bay_self b (fun r => { r with state := .vacant, cause := none })
  have hb : ((s.restart b).bay b)
      = { s.bay b with inForce := (s.bay b).staged, ceiling := none, state := .vacant, cause := none, grant := g } := by
    rw [State.restart_lifted h hc hk, State.liftFault_empty (by rw [State.restaged_bay]; exact hp)
      (by rw [State.restaged_bay]; exact hs), State.sayCleared, State.notify_bay, hg, State.restaged_bay]
  refine ⟨⟨by rw [hb], by rw [hb]; rfl, fun _ k => ?_⟩, by rw [hb], by rw [hb], by rw [hb]⟩
  rw [hb] at k
  exact nomatch k

/-- A FAULTED bay after RESTART-BAY where the cause is one that RESTART-BAY removes (R34). -/
theorem State.restart_lifts (h : (s.bay b).state = .faulted)
    (hc : (s.bay b).cause = some .profile ∨ (s.bay b).cause = some .charge) :
    let w := s.restart b
    s.restaging b w ∧ (w.bay b).cause = none ∧ (w.bay b).ceiling = none
      ∧ (w.bay b).state = (if (s.bay b).pack.isSome || (s.bay b).sensed then .admitting else .vacant)
      ∧ ((s.bay b).pack.isSome = true → s.readmitted b .restart w)
      ∧ ((s.bay b).pack = none → (s.bay b).sensed = true → s.readmitted b .insertion w) := by
  obtain ⟨k, hc, hk⟩ : ∃ k, (s.bay b).cause = some k ∧ (k = .profile ∨ k = .charge) := by
    rcases hc with hc | hc
    · exact ⟨_, hc, .inl rfl⟩
    · exact ⟨_, hc, .inr rfl⟩
  dsimp only
  cases hp : (s.bay b).pack with
  | some p =>
    have a := State.restart_lifts_pack h hc hk (by rw [hp]; rfl)
    exact ⟨a.restaging, a.cause, a.ceiling, a.state, fun _ => a, nofun⟩
  | none =>
    cases hs : (s.bay b).sensed with
    | true =>
      have a := State.restart_lifts_sensed h hc hk hp hs
      exact ⟨a.restaging, a.cause, a.ceiling, a.state, nofun, fun _ _ => a⟩
    | false =>
      obtain ⟨a, state, cause, ceiling⟩ := State.restart_lifts_empty h hc hk hp hs
      exact ⟨a, cause, ceiling, state, nofun, nofun⟩

/-- The exact record of a bay that is restarted with its pack admitted: the match and the pack stay (R34, R101). -/
theorem State.restart_holds
    (h : (s.bay b).state = .charging ∨ (s.bay b).state = .topped ∨ (s.bay b).state = .withheld) :
    s.readmitted b .restart (s.restart b)
      ∧ (s.restart b).bay b = { s.bay b with
          inForce := (s.bay b).staged, ceiling := none, state := .admitting, cause := none,
          admission := some (.anew (s.bay b).link .restart (s.admissions + 1)),
          grant := if s.eligible b then 0 else (s.bay b).grant } := by
  obtain ⟨w, start, same, eligible, number⟩ := State.restart_held h
  obtain ⟨g, cap, hb, rest⟩ := w.startAdmission_bay b .restart
  obtain ⟨hcap, hg⟩ := rest nofun
  rw [start]
  refine ⟨State.readmitted_start nofun (by rw [same]) (by rw [same]) number, ?_⟩
  rw [hb, hg, hcap, same, eligible, number]
  rfl

theorem State.restaging_still {f : Bay → Bay} (inForce : (f (s.bay b)).inForce = (s.bay b).staged)
    (state : (f (s.bay b)).state = .vacant ∨ (f (s.bay b)).state = .faulted) : s.restaging b (s.modBay b f) := by
  have out : ∀ {st}, st = .vacant ∨ st = .faulted → st ≠ BayState.charging ∧ st ≠ .topped ∧ st ≠ .admitting := by
    rintro _ (rfl | rfl) <;> exact ⟨nofun, nofun, nofun⟩
  obtain ⟨hc, ht, ha⟩ := out state
  refine ⟨by rw [State.modBay_bay_self, inForce], ?_, fun _ k => absurd (State.modBay_bay_self s b f ▸ k) ha⟩
  rw [State.modBay_bay_self, Bay.holdsCharged, decide_eq_false hc, decide_eq_false ht]
  rfl

theorem State.restart_restages (s : State) (b : BayNo) : s.restaging b (s.restart b) := by
  cases hs : (s.bay b).state with
  | vacant => rw [State.restart_vacant hs]; exact State.restaging_still rfl (.inl hs)
  | admitting => exact (State.restart_admits hs).restaging
  | charging => exact (State.restart_holds (.inl hs)).1.restaging
  | topped => exact (State.restart_holds (.inr (.inl hs))).1.restaging
  | withheld => exact (State.restart_holds (.inr (.inr hs))).1.restaging
  | faulted =>
    by_cases hp : (s.bay b).cause = some .profile
    · exact (State.restart_lifts hs (.inl hp)).1
    · by_cases hc : (s.bay b).cause = some .charge
      · exact (State.restart_lifts hs (.inr hc)).1
      · rw [State.restart_faulted hs hp hc]
        exact State.restaging_still rfl (.inr hs)

/-! ### RESTART-BAY -/

theorem exec_restartBay (n : Byte) (s : State) :
    exec (.restartBay .gateway n) s = .next (s.takeRequest .gateway (.restartBay n)) := rfl

theorem exec_restartBay_refused (s : State) {n : Byte} (hfree : s.free .gateway) {c : RefusalCode}
    (h : s.restartBay n = s.refuse c) : exec (.restartBay .gateway n) s = .next (s.refusal .gateway 0x19 c []) := by
  rw [exec_restartBay, s.takeRequest_refused .gateway (.restartBay n) hfree rfl c [] h]
  rfl

theorem exec_restartBay_done (s : State) {n : Byte} {b : BayNo} (hfree : s.free .gateway) (hb : n.toNat = bayNumber b)
    (hr : (s.bay b).role = .none) :
    let u := (s.restart b).settle
    exec (.restartBay .gateway n) s = .next (u.success .gateway (.restartBay n)
      [n, BitVec.ofNat 8 (u.bay b).state.code, (u.bay b).staged.setWidth 8, (u.bay b).inForce.setWidth 8]) := by
  have done : s.restartBay n = ((s.restart b).settle).reply [n, BitVec.ofNat 8 (((s.restart b).settle).bay b).state.code,
      (((s.restart b).settle).bay b).staged.setWidth 8, (((s.restart b).settle).bay b).inForce.setWidth 8] := by
    simp only [State.restartBay, bayOfByte_some hb, hr, ne_eq, not_true_eq_false, if_false, u8_bayNumber hb, u8_eq,
      setByte_eq]
    rfl
  dsimp only
  rw [exec_restartBay, s.takeRequest_ok .gateway (.restartBay n) hfree rfl _ _ done]

/-- Settles O20. -/
theorem restartBay : Obligations.RestartBay := by
  intro n s hfree
  refine ⟨fun h => exec_restartBay_refused s hfree ?_, fun b hb => ⟨fun hr => exec_restartBay_refused s hfree ?_,
    fun hr => ?_⟩⟩
  · simp only [State.restartBay, bayOfByte_none h]
  · simp only [State.restartBay, bayOfByte_some hb, if_pos hr]
  have restages := s.restart_restages b
  have inner : s.inner (s.restart b).settle := State.inner_settle (State.inner_restart s.inner_refl b)
  have same : (s.restart b).sameButMatches (s.restart b).settle := State.same_settle (State.sameButMatches_refl _)
  have bay : (s.restart b).settle.bay b = (s.restart b).bay b :=
    (State.settle_passesBy _ (Bay.unfit_of_idle restages.idle)).1
  have exchanges : (s.restart b).exchanges = s.exchanges := ((keptByBay_still b s).restart s.still_refl).exchanges
  have others : ∀ c, c ≠ b → (s.restart b).bay c = s.bay c := (keptByBay_others b s).restart fun _ _ => rfl
  obtain ⟨settings, -, -, faults, -⟩ := inner
  obtain ⟨-, -, -, exchanges', -, -, -, bases, -⟩ := same
  have staged := (State.inner_bay (State.inner_settle (State.inner_restart s.inner_refl b)) b).2.2.1
  refine ⟨(s.restart b).settle, exec_restartBay_done s hfree hb hr, staged, by rw [bay]; exact restages.inForce, settings,
    exchanges'.trans exchanges, faults, fun c hc => (bases c).trans (by rw [others c hc]), fun hs => ?vacant,
    fun hs => ?held, fun a hs ha => ?admitting, fun hs hc => ?lifted, fun hs hp hc => ?faulted, fun hl hs => ?identify⟩
  case vacant =>
    rw [bay, State.restart_vacant hs]
    exact ⟨State.same_settle (State.sameButMatches_refl _), by rw [State.modBay_bay_self]; exact hs⟩
  case held =>
    rw [bay]
    exact (State.restart_holds hs).2
  case admitting =>
    have r := State.restart_admits hs
    rw [ha, Admission.restarted_some] at r
    rw [bay]
    exact ⟨r.state, r.ceiling, r.admission⟩
  case lifted =>
    obtain ⟨-, cause, ceiling, state, pack, sensed⟩ := State.restart_lifts hs hc
    rw [bay]
    exact ⟨cause, ceiling, state, fun h => (pack h).admission, fun h k => (sensed h k).admission⟩
  case faulted =>
    rw [bay, State.restart_faulted hs hp hc]
    exact ⟨State.same_settle (State.sameButMatches_refl _), by rw [State.restaged_bay]; exact hs⟩
  case identify =>
    rw [bay] at hs
    exact (keptByMatch_queued b _ (by exact nofun)).settle (restages.identify hl hs)

end Sys2Proof.Machine
end

section
/-! What the end of an arrival leaves of one bay and its claim: the open claims' names, a bay whose pack no claim's class
asks for, a match that stands, and a match lost for the pack's class (R60, R62, R66, R69). -/

open Sys2Proof Sys2Proof.Machine
namespace Sys2Proof.Machine

/-! ### The arrival's end as READY tests and takings -/

/-- A condition that every READY test and every taking of a pass keeps outlasts the end of an arrival. -/
theorem State.settle_kept {P : State → Prop} {s : State} (aside : ∀ t : State, P t → P { t with passDue := false })
    (take : ∀ t id, P t → P (t.takeWaiting id)) (h : P s.retestAll) : P s.settle := aside _ (kept_ite (P := P) (kept_foldl take _ h) h)

theorem State.retestAll_kept {P : State → Prop} {s : State} (test : ∀ t id, P t → P (t.retest id)) (h : P s) :
    P s.retestAll := kept_foldl test _ h

/-- What a pass does with one claim of its list: nothing, or a match with a candidate for the claim (R61, R62). -/
theorem State.takeWaiting_cases (s : State) (id : ClaimId) :
    s.takeWaiting id = s ∨ ∃ c n d, s.claim? id = some c ∧ c.state = .waiting ∧ (s.bay n).candidate c.cls = true
      ∧ s.takeWaiting id = s.bindClaim id n d := by
  unfold State.takeWaiting
  split
  · exact .inl rfl
  · next c hc =>
    split
    · next hw =>
      split
      · next n d hn => exact .inr ⟨c, n, d, hc, hw, State.chooseBay_candidate hn, rfl⟩
      · exact .inl rfl
    · exact .inl rfl

/-! ### The names of the open claims -/

theorem State.claimIds_of_book {s t : State} (h : t.book = s.book) : t.claimIds = s.claimIds := by
  rw [State.claimIds, h, State.claimIds]

theorem Trading.claimIds {f : Claim → Claim} (hf : Trading f) (s : State) (id : ClaimId) :
    (s.modClaim id f).claimIds = s.claimIds := by
  rw [State.claimIds, State.modClaim_claims, List.map_map]
  refine List.map_congr_left fun c _ => ?_
  show (if c.id = id then f c else c).id = c.id
  split
  · exact hf.keeps_id c
  · rfl

theorem State.enterReady_claimIds (s : State) (id : ClaimId) (b : BayNo) : (s.enterReady id b).claimIds = s.claimIds := by
  rcases s.enterReady_book id b with e | ⟨f, hf, e⟩
  · rw [e]
  · exact (State.claimIds_of_book e).trans
      (Trading.claimIds (fun c => ⟨(hf c).1, fun k => nomatch (hf c).2.1.symm.trans k⟩) s id)

theorem State.fallUnready_claimIds (s : State) (id : ClaimId) (b : BayNo) (level : Nat) :
    (s.fallUnready id b level).claimIds = s.claimIds :=
  Trading.claimIds (f := fun c => { c with state := .matched }) (fun _ => ⟨rfl, nofun⟩) s id

theorem State.retest_claimIds (s : State) (id : ClaimId) : (s.retest id).claimIds = s.claimIds := by
  unfold State.retest
  split
  · rfl
  · split
    · exact kept_ite (P := fun t => t.claimIds = s.claimIds) (s.enterReady_claimIds id _) rfl
    · exact kept_ite (P := fun t => t.claimIds = s.claimIds) rfl (s.fallUnready_claimIds id _ _)
    · rfl

/-- Two changes of the claims of a name, with a fill test between them, leave the names. -/
theorem State.twice_claimIds {s t : State} {id : ClaimId} {f g : Claim → Claim} (hf : Trading f) (hg : Trading g)
    (h : t.book = (s.modClaim id f).book) : (t.modClaim id g).claimIds = s.claimIds :=
  (hg.claimIds t id).trans ((State.claimIds_of_book h).trans (hf.claimIds s id))

theorem State.bindClaim_claimIds (s : State) (id : ClaimId) (b : BayNo) (d : MatchDetail) :
    (s.bindClaim id b d).claimIds = s.claimIds := by
  rw [State.bindClaim_eq, State.retest_claimIds]
  exact State.twice_claimIds (f := fun c => { c with takeBay := some b }) (fun _ => ⟨rfl, fun k => k⟩)
    (trading_unless (f := fun c => { c with state := .matched }) fun _ => ⟨rfl, nofun⟩) (State.fillTest_book _ _)

theorem State.takeWaiting_claimIds (s : State) (id : ClaimId) : (s.takeWaiting id).claimIds = s.claimIds := by
  rcases s.takeWaiting_cases id with e | ⟨c, n, d, -, -, -, e⟩
  · rw [e]
  · rw [e, State.bindClaim_claimIds]

/-- The end of an arrival opens and closes no claim. -/
theorem State.settle_claimIds (s : State) : s.settle.claimIds = s.claimIds :=
  State.settle_kept (P := fun t => t.claimIds = s.claimIds) (fun _ h => h)
    (fun t id h => (t.takeWaiting_claimIds id).trans h)
    (State.retestAll_kept (P := fun t => t.claimIds = s.claimIds) (fun t id h => (t.retest_claimIds id).trans h) rfl)

theorem State.mem_claimIds {s : State} {id : ClaimId} : id ∈ s.claimIds ↔ ∃ c, s.claim? id = some c := by
  rw [← Option.isSome_iff_exists, State.claim?, List.find?_isSome, State.claimIds, List.mem_map]
  simp only [decide_eq_true_eq]

/-- A claim that no operation has closed is open on the same terms. -/
theorem State.claim_stays {s t : State} (ids : t.claimIds = s.claimIds) (terms : s.termsKept t) {id : ClaimId} {c : Claim}
    (hc : s.claim? id = some c) : ∃ d, t.claim? id = some d ∧ d.terms = c.terms := by
  obtain ⟨d, hd⟩ := State.mem_claimIds.mp (ids ▸ State.mem_claimIds.mpr ⟨c, hc⟩)
  obtain ⟨c', hc', same, -⟩ := terms id d hd
  exact ⟨d, hd, same.trans (by rw [Option.some.inj (hc'.symm.trans hc)])⟩

theorem State.settle_claim_stays {s : State} {id : ClaimId} {c : Claim} (hc : s.claim? id = some c) :
    ∃ d, s.settle.claim? id = some d ∧ d.terms = c.terms :=
  State.claim_stays s.settle_claimIds ((keptByArrival_terms s).toTrade.toMatch.settle s.termsKept_refl) hc

/-! ### A bay that no claim's class fits -/

/-- No class is asked for that was not asked for before. -/
def State.classesKept (s t : State) : Prop := ∀ k ∈ t.book.claims, ∃ j ∈ s.book.claims, k.cls = j.cls

theorem State.classesKept_refl (s : State) : s.classesKept s := fun k hk => ⟨k, hk, rfl⟩

theorem State.classesKept_of_book {s t u : State} (h : s.classesKept t) (k : u.book = t.book) : s.classesKept u :=
  fun c hc => h c (k ▸ hc)

theorem Trading.keeps_cls {f : Claim → Claim} (hf : Trading f) (c : Claim) : (f c).cls = c.cls :=
  congrArg (fun x => x.2.2.2.1) (hf c).1

theorem keptByArrival_classes (s : State) : KeptByArrival s.classesKept where
  aside h k := State.classesKept_of_book h k.book
  claim {t id f} hf h := by
    intro k hk
    obtain ⟨c, hc, rfl⟩ := List.mem_map.mp hk
    obtain ⟨j, hj, e⟩ := h c hc
    refine ⟨j, hj, Eq.trans ?_ e⟩
    split
    · exact hf.keeps_cls c
    · rfl
  close h k hk := h k (List.mem_of_mem_filter hk)
  record h := h
  queue {t b c} h := State.classesKept_of_book h (t.queueCmd_book b c)
  identify h := h
  withdraw h := h

/-- The end of an arrival leaves a bay that is a candidate for no open claim's class. -/
theorem State.settle_unasked {s : State} {b : BayNo} (h : ∀ k ∈ s.book.claims, (s.bay b).candidate k.cls = false) :
    s.settle.bay b = s.bay b := by
  have K := (keptByArrival_classes s).toTrade.toMatch
  have test : ∀ t : State, ∀ id, (t.bay b = s.bay b ∧ s.classesKept t) →
      (t.retest id).bay b = s.bay b ∧ s.classesKept (t.retest id) :=
    fun t id k => ⟨(t.retest_bay id b).trans k.1, K.retest k.2 id⟩
  refine (State.settle_kept (P := fun t => t.bay b = s.bay b ∧ s.classesKept t) (fun _ k => k) (fun t id k => ?_)
    (State.retestAll_kept (P := fun t => t.bay b = s.bay b ∧ s.classesKept t) test ⟨rfl, s.classesKept_refl⟩)).1
  refine ⟨?_, K.takeWaiting k.2 id⟩
  rcases t.takeWaiting_cases id with e | ⟨c, n, d, hc, -, fit, e⟩
  · rw [e, k.1]
  · have other : b ≠ n := by
      rintro rfl
      obtain ⟨j, hj, same⟩ := k.2 c (List.mem_of_find?_eq_some hc)
      rw [k.1, same, h j hj] at fit
      cases fit
    rw [e, State.bindClaim_bay_other _ _ _ other, k.1]

/-- A pack serves no claim of another class (R62). -/
theorem Bay.candidate_cls {r : Bay} {p : Pack} (hp : r.pack = some p) {cls : PackClass} (h : p.cls ≠ cls) :
    r.candidate cls = false := by
  simp [Bay.candidate, hp, Pack.serves, h]

/-! ### The claims of another name -/

theorem State.enterReady_claim?_other (s : State) {id i : ClaimId} (h : i ≠ id) (b : BayNo) :
    (s.enterReady id b).claim? i = s.claim? i := by
  rcases s.enterReady_book id b with e | ⟨f, hf, e⟩
  · rw [e]
  · rw [State.claim?_of_book e,
      Trading.claim? (fun c => ⟨(hf c).1, fun k => nomatch (hf c).2.1.symm.trans k⟩), if_neg h]

theorem State.fallUnready_claim? (s : State) (id : ClaimId) (b : BayNo) (level : Nat) (i : ClaimId) :
    (s.fallUnready id b level).claim? i
      = if i = id then (s.claim? id).map (fun c => { c with state := .matched }) else s.claim? i :=
  Trading.claim? (f := fun c => { c with state := .matched }) (fun _ => ⟨rfl, nofun⟩) s id i

theorem State.retest_claim?_other (s : State) {id i : ClaimId} (h : i ≠ id) : (s.retest id).claim? i = s.claim? i := by
  unfold State.retest
  split
  · rfl
  · split
    · exact kept_ite (P := fun t => t.claim? i = s.claim? i) (s.enterReady_claim?_other h _) rfl
    · exact kept_ite (P := fun t => t.claim? i = s.claim? i) rfl ((s.fallUnready_claim? id _ _ i).trans (if_neg h))
    · rfl

theorem State.bindClaim_claim?_other (s : State) {id i : ClaimId} (h : i ≠ id) (b : BayNo) (d : MatchDetail) :
    (s.bindClaim id b d).claim? i = s.claim? i := by
  rw [State.bindClaim_eq, State.retest_claim?_other _ h, State.bound_claim?, if_neg h]

/-! ### A match that stands -/

/-- A claim of these terms, matched with this bay and MATCHED or READY. -/
def State.heldOn (s : State) (id : ClaimId) (c : Claim) (b : BayNo) (ok : ClaimState → Prop) : Prop :=
  ∃ d, s.claim? id = some d ∧ d.terms = c.terms ∧ d.takeBay = some b ∧ (d.state = .matched ∨ d.state = .ready) ∧ ok d.state

/-- The state the READY test gives a claim on its bay (R69). -/
def Bay.verdict (r : Bay) (level : Nat) : ClaimState := if r.readyFor level then .ready else .matched

/-- An open claim that enters READY: the change of the claims, which writes no expiry after the first entry (R55, R69). -/
theorem State.enterReady_open {s : State} {id : ClaimId} {c : Claim} (hc : s.claim? id = some c) (b : BayNo) :
    ∃ f : Claim → Claim, (∀ k, (f k).terms = k.terms ∧ (f k).state = .ready ∧ (f k).takeBay = k.takeBay)
      ∧ (c.firstReady ≠ none → ∀ k, (f k).expiry = k.expiry)
      ∧ (s.enterReady id b).claim? id = some (f c) := by
  suffices change : ∃ f : Claim → Claim, (∀ k, (f k).terms = k.terms ∧ (f k).state = .ready ∧ (f k).takeBay = k.takeBay)
      ∧ (c.firstReady ≠ none → ∀ k, (f k).expiry = k.expiry) ∧ (s.enterReady id b).book = (s.modClaim id f).book by
    obtain ⟨f, hf, expiry, book⟩ := change
    refine ⟨f, hf, expiry, ?_⟩
    rw [State.claim?_of_book book,
      Trading.claim? (fun c => ⟨(hf c).1, fun k => nomatch (hf c).2.1.symm.trans k⟩), if_pos rfl, hc]
    rfl
  simp only [State.enterReady, hc]
  split
  · exact ⟨fun c => { c with state := .ready }, fun _ => ⟨rfl, rfl, rfl⟩, fun _ _ => rfl, rfl⟩
  · next first =>
    split
    · exact ⟨fun c => { c with state := .ready, firstReady := some s.now }, fun _ => ⟨rfl, rfl, rfl⟩,
        fun h => absurd first h, rfl⟩
    · exact ⟨fun c => { c with state := .ready, firstReady := some s.now, expiry := s.storedTime (s.now + walkupHold) },
        fun _ => ⟨rfl, rfl, rfl⟩, fun h => absurd first h, by
          rw [State.notify_book, State.countTime_book]⟩

/-- The READY test of a claim leaves it on its bay in the state of R69. -/
theorem State.retest_heldOn {s : State} {id : ClaimId} {c : Claim} {b : BayNo} {ok : ClaimState → Prop}
    (h : s.heldOn id c b ok) : (s.retest id).heldOn id c b (· = (s.bay b).verdict c.level) := by
  obtain ⟨d, hd, terms, bay, state, -⟩ := h
  have level : d.level = c.level := congrArg (fun x => x.2.2.2.2.1) terms
  by_cases ready : (s.bay b).readyFor c.level = true
  · rcases state with hs | hs
    · have enters : s.retest id = s.enterReady id b := by
        simp only [State.retest, hd, bay, hs, level, ready, if_true]
      obtain ⟨f, hf, -, he⟩ := State.enterReady_open hd b
      rw [enters]
      exact ⟨f d, he, (hf d).1.trans terms, (hf d).2.2.trans bay, .inr (hf d).2.1,
        by rw [(hf d).2.1, Bay.verdict, if_pos ready]⟩
    · have stays : s.retest id = s := by simp only [State.retest, hd, bay, hs, level, ready, if_true]
      rw [stays]
      exact ⟨d, hd, terms, bay, .inr hs, by rw [hs, Bay.verdict, if_pos ready]⟩
  · rcases state with hs | hs
    · have stays : s.retest id = s := by
        simp only [State.retest, hd, bay, hs, level, ready, Bool.false_eq_true, if_false]
      rw [stays]
      exact ⟨d, hd, terms, bay, .inl hs, by rw [hs, Bay.verdict, if_neg ready]⟩
    · have falls : s.retest id = s.fallUnready id b c.level := by
        simp only [State.retest, hd, bay, hs, level, ready, Bool.false_eq_true, if_false]
      rw [falls]
      refine ⟨{ d with state := .matched }, ?_, terms, bay, .inl rfl, by rw [Bay.verdict, if_neg ready]⟩
      rw [State.fallUnready_claim?, if_pos rfl, hd]
      rfl

/-- A fold over a list of names that holds the claim's own makes its READY test at least once. -/
theorem State.retests_heldOn {id : ClaimId} {c : Claim} {b : BayNo} (l : List ClaimId) {s : State} {ok : ClaimState → Prop}
    (h : s.heldOn id c b ok) (hl : id ∈ l ∨ ok = (· = (s.bay b).verdict c.level)) :
    (l.foldl State.retest s).heldOn id c b (· = (s.bay b).verdict c.level) := by
  induction l generalizing s ok with
  | nil =>
    rcases hl with hl | hl
    · cases hl
    · exact hl ▸ h
  | cons i l ih =>
    rw [List.foldl_cons, ← s.retest_bay i b]
    by_cases e : id = i
    · obtain rfl := e
      exact ih (State.retest_heldOn h) (.inr (by rw [State.retest_bay]))
    · refine ih (ok := ok) ?_ (hl.imp (fun k => (List.mem_cons.mp k).resolve_left e) fun k => by rw [k, State.retest_bay])
      obtain ⟨d, hd, rest⟩ := h
      exact ⟨d, (s.retest_claim?_other e).trans hd, rest⟩

/-- A MATCHED or READY claim stands on its bay at the end of an arrival, in the state of R69. -/
theorem State.settle_heldOn {s : State} {id : ClaimId} {c : Claim} {b : BayNo} (hm : (s.bay b).matched ≠ none)
    (hc : s.claim? id = some c) (hb : c.takeBay = some b) (hs : c.state = .matched ∨ c.state = .ready) :
    s.settle.bay b = s.bay b ∧ s.settle.heldOn id c b (· = (s.bay b).verdict c.level) := by
  have start : s.heldOn id c b (fun _ => True) := ⟨c, hc, rfl, hb, hs, trivial⟩
  have tested := State.retests_heldOn s.claimIds start (.inl (State.mem_claimIds.mpr ⟨c, hc⟩))
  refine State.settle_kept (P := fun t => t.bay b = s.bay b ∧ t.heldOn id c b (· = (s.bay b).verdict c.level))
    (fun _ k => k) (fun t i k => ?_) ⟨s.retestAll_bay b, tested⟩
  obtain ⟨bay, d, hd, terms, on, state, ok⟩ := k
  rcases t.takeWaiting_cases i with e | ⟨c', n, m, hc', waits, fit, e⟩
  · rw [e]
    exact ⟨bay, d, hd, terms, on, state, ok⟩
  · have other : b ≠ n := by
      rintro rfl
      rw [bay] at fit
      simp [Bay.candidate, Option.isNone_iff_eq_none, hm] at fit
    have name : id ≠ i := by
      rintro rfl
      obtain rfl := Option.some.inj (hd.symm.trans hc')
      rcases state with k | k <;> exact nomatch k.symm.trans waits
    rw [e, State.bindClaim_bay_other _ _ _ other]
    exact ⟨bay, d, (t.bindClaim_claim?_other name n m).trans hd, terms, on, state, ok⟩

/-! ### A match lost for the pack's class -/

/-- A bay and a claim apart, the bay's pack of another class than the claim's. -/
def State.unlike (s : State) (id : ClaimId) (cls : PackClass) (b : BayNo) : Prop :=
  (s.bay b).matched ≠ some id ∧ s.notOn id b ∧ (∀ d, s.claim? id = some d → d.cls = cls)
    ∧ ∃ p, (s.bay b).pack = some p ∧ p.cls ≠ cls

/-- They stay apart to the end of an arrival, whatever claim the bay is matched with. -/
theorem State.settle_unlike {s : State} {id : ClaimId} {cls : PackClass} {b : BayNo} (h : s.unlike id cls b) :
    s.settle.unlike id cls b := by
  have classes : ∀ {t u : State}, t.termsKept u → (∀ d, t.claim? id = some d → d.cls = cls) →
      ∀ d, u.claim? id = some d → d.cls = cls := fun terms k d hd => by
    obtain ⟨c, hc, same, -⟩ := terms id d hd
    exact (congrArg (fun x => x.2.2.2.1) same).trans (k c hc)
  have test : ∀ t : State, ∀ i, t.unlike id cls b → (t.retest i).unlike id cls b := fun t i k => by
    obtain ⟨matched, notOn, named, pack⟩ := k
    refine ⟨by rwa [State.retest_bay], State.retest_notOn notOn i, classes ?_ named, by rwa [State.retest_bay]⟩
    exact (keptByArrival_terms t).toTrade.toMatch.retest t.termsKept_refl i
  refine State.settle_kept (P := fun t => t.unlike id cls b) (fun _ k => k) (fun t i k => ?_) (State.retestAll_kept test h)
  rcases t.takeWaiting_cases i with e | ⟨c, n, m, hc, -, fit, e⟩
  · rw [e]; exact k
  obtain ⟨matched, notOn, named, p, hp, unlike⟩ := k
  have pack : ((t.bindClaim i n m).bay b).pack = some p := (Bay.calm_fields
    (((keptByTrade_calm t).toMatch.bindClaim t.calmSame_refl i n m).1 b)).1.trans hp
  rw [e]
  have named' := classes ((keptByArrival_terms t).toTrade.toMatch.bindClaim t.termsKept_refl i n m) named
  by_cases hn : b = n
  · obtain rfl := hn
    have name : id ≠ i := by
      rintro rfl
      rw [Bay.candidate_cls hp (by rw [named c hc]; exact unlike)] at fit
      cases fit
    refine ⟨?_, fun d hd => ?_, named', p, pack, unlike⟩
    · rw [State.bindClaim_eq, State.retest_bay, (t.bound_rest i b m).1]
      exact fun k => name (Option.some.inj k).symm
    · rw [State.bindClaim_claim?_other _ name] at hd
      exact notOn d hd
  · refine ⟨?_, State.bindClaim_notOn notOn i m hn, named', p, pack, unlike⟩
    rw [State.bindClaim_bay_other _ _ _ hn]
    exact matched

end Sys2Proof.Machine
end

section
/-! The result of an admission on the bay's own record: the pack record, the state and the cause, and then the match
(R25 to R28, R67, R70). -/

open Sys2Proof Sys2Proof.Machine
namespace Sys2Proof.Machine

/-! ### Operations that keep to one bay's own record -/

/-- Nothing but a bay's own record, the bus, the ports and the grants has been written, and neither its role nor its
match. -/
structure State.within (s : State) (b : BayNo) (t : State) : Prop where
  book : t.book = s.book
  exchanges : t.exchanges = s.exchanges
  others : ∀ n, n ≠ b → t.bay n = s.bay n
  role : (t.bay b).role = (s.bay b).role
  matched : (t.bay b).matched = (s.bay b).matched

theorem State.within_refl (s : State) (b : BayNo) : s.within b s := ⟨rfl, rfl, fun _ _ => rfl, rfl, rfl⟩

theorem State.within_trans {s t u : State} {b : BayNo} (h : s.within b t) (k : t.within b u) : s.within b u :=
  ⟨k.book.trans h.book, k.exchanges.trans h.exchanges, fun n hn => (k.others n hn).trans (h.others n hn),
    k.role.trans h.role, k.matched.trans h.matched⟩

theorem State.within_modBay {s t : State} {b : BayNo} (h : s.within b t) {f : Bay → Bay}
    (hf : ∀ r, (f r).role = r.role ∧ (f r).matched = r.matched) : s.within b (t.modBay b f) :=
  ⟨h.book, h.exchanges, fun n hn => (State.modBay_bay_other _ _ _ _ hn).trans (h.others n hn),
    by rw [State.modBay_bay_self, (hf _).1, h.role], by rw [State.modBay_bay_self, (hf _).2, h.matched]⟩

theorem State.within_of {s t u : State} {b : BayNo} (h : s.within b t) (bays : ∀ n, u.bay n = t.bay n)
    (book : u.book = t.book) (exchanges : u.exchanges = t.exchanges) : s.within b u :=
  ⟨book.trans h.book, exchanges.trans h.exchanges, fun n hn => (bays n).trans (h.others n hn),
    by rw [bays, h.role], by rw [bays, h.matched]⟩

theorem keptByBay_within (b : BayNo) (s : State) : KeptByBay b (s.within b) where
  aside h a e := State.within_of h (State.bay_of_bays a.bays) a.book e
  record hf h := State.within_modBay h fun r => ⟨congrArg (·.1) (hf r), congrArg (·.2.1) (hf r)⟩
  queue {t c} _ h := State.within_of h (t.queueCmd_bay b c) (t.queueCmd_book b c) (t.queueCmd_exchanges b c)
  identify h := State.within_of h (fun _ => rfl) rfl rfl
  withdraw h := State.within_of h (fun _ => rfl) rfl rfl

theorem State.within_exch {s t : State} {b : BayNo} (h : s.within b t) (x : ExNo) : t.exch x = s.exch x :=
  State.exch_of h.exchanges x

theorem State.within_claim? {s t : State} {b : BayNo} (h : s.within b t) (id : ClaimId) : t.claim? id = s.claim? id :=
  State.claim?_of_book h.book id

/-! ### The record an admission's result leaves (R27) -/

/-- The state and the cause an admission ends with (R27). -/
def admissionResult (health : Health) (resolved : Option Profile) (full : Bool) : BayState × Option FaultCause :=
  if health = .retire then (.withheld, none)
  else if resolved = none then (.faulted, some .profile)
  else (if full then .topped else .charging, none)

/-- The pack record and the result, before the match is tested. -/
def State.recorded (w : State) (b : BayNo) (p : Pack) (resolved : Option Profile) : State :=
  let v := w.writePack b p
  if p.health = .retire then v.admitTo b .withheld
  else
    match resolved with
    | none => v.faultBay b .profile
    | some q =>
      if v.fillTarget b ≤ p.soc then (v.admitTo b .topped).queueCmd b (.chargeStop false)
      else (v.admitTo b .charging).queueCmd b (.chargeStart q)

theorem State.writePack_bay (w : State) (b : BayNo) (p : Pack) :
    ∃ band cap g, (w.writePack b p).bay b = { w.bay b with pack := some p, band := band, cap := cap, grant := g } :=
  ⟨_, _, _, by rw [State.writePack, State.recap_bay, if_pos rfl, State.wantPass_bay, State.modBay_bay_self]⟩

theorem State.admitTo_bay (s : State) (b : BayNo) (st : BayState) :
    ∃ g, (s.admitTo b st).bay b = { s.bay b with state := st, admission := none, grant := g } := by
  obtain ⟨g, -, hg⟩ := s.edit_bay_self b (fun r => { r with state := st, admission := none })
  exact ⟨g, hg⟩

theorem KeptByBay.recorded {b : BayNo} {P : State → Prop} (K : KeptByBay b P) {w : State} (h : P w) (p : Pack)
    (resolved : Option Profile) : P (w.recorded b p resolved) := by
  have k := K.writePack h p
  unfold State.recorded
  dsimp only
  split
  · exact K.admitTo k _
  · split
    · exact K.faultBay k _
    · exact kept_ite (K.queue (by exact nofun) (K.admitTo k _)) (K.queue (by exact nofun) (K.admitTo k _))

theorem State.recorded_within (w : State) (b : BayNo) (p : Pack) (resolved : Option Profile) :
    w.within b (w.recorded b p resolved) := (keptByBay_within b w).recorded (w.within_refl b) p resolved

theorem State.recorded_inner (w : State) (b : BayNo) (p : Pack) (resolved : Option Profile) :
    w.inner (w.recorded b p resolved) := by
  have k := State.inner_writePack w.inner_refl b p
  unfold State.recorded
  dsimp only
  split
  · exact State.inner_admitTo k b _
  · split
    · exact State.inner_trans k (State.faultBay_inner _ b _)
    · exact State.inner_ite (State.inner_queueCmd (State.inner_admitTo k b _) b _)
        (State.inner_queueCmd (State.inner_admitTo k b _) b _)

theorem State.fillTarget_of {s t : State} {b : BayNo} (matched : (t.bay b).matched = (s.bay b).matched)
    (book : t.book = s.book) (params : t.params = s.params) : t.fillTarget b = s.fillTarget b := by
  have claims : t.claim? = s.claim? := funext fun id => State.claim?_of_book book id
  simp only [State.fillTarget, matched, params, claims]

/-- The record at the result of an admission of a bay that holds no cause. -/
theorem State.recorded_bay {w : State} {b : BayNo} (hc : (w.bay b).cause = none) (p : Pack) (resolved : Option Profile) :
    ∃ band cap g, (w.recorded b p resolved).bay b = { w.bay b with
      pack := some p, admission := none, band := band, cap := cap, grant := g
      state := (admissionResult p.health resolved (decide (w.fillTarget b ≤ p.soc))).1
      cause := (admissionResult p.health resolved (decide (w.fillTarget b ≤ p.soc))).2 } := by
  obtain ⟨band, cap, g, hv⟩ := w.writePack_bay b p
  have written := (keptByBay_within b w).writePack (w.within_refl b) p
  have target : (w.writePack b p).fillTarget b = w.fillTarget b := State.fillTarget_of written.matched written.book
    (State.inner_params (State.inner_writePack w.inner_refl b p))
  have admitted : ∀ st, ∃ g, ((w.writePack b p).admitTo b st).bay b = { w.bay b with
      pack := some p, admission := none, band := band, cap := cap, grant := g, state := st, cause := none } := fun st => by
    obtain ⟨g, hg⟩ := (w.writePack b p).admitTo_bay b st
    exact ⟨g, by rw [hg, hv, ← hc]⟩
  unfold State.recorded admissionResult
  dsimp only
  by_cases hr : p.health = .retire
  · simp only [hr, if_true]
    obtain ⟨g, hg⟩ := admitted .withheld
    exact ⟨band, cap, g, hg⟩
  · simp only [hr, if_false]
    cases resolved with
    | none =>
      obtain ⟨g', q, band', ceiling, cap', hb, kept, -⟩ := (w.writePack b p).faultBay_bay b .profile
      obtain ⟨rfl, rfl, rfl, -⟩ := kept nofun
      exact ⟨band', _, g', by rw [hb, hv]; rfl⟩
    | some q =>
      simp only [target, reduceCtorEq, if_false]
      by_cases full : w.fillTarget b ≤ p.soc
      · obtain ⟨g, hg⟩ := admitted .topped
        exact ⟨band, cap, g, by simp only [full, if_true, decide_true, State.queueCmd_bay, hg]⟩
      · obtain ⟨g, hg⟩ := admitted .charging
        exact ⟨band, cap, g, by
          simp only [full, if_false, decide_false, Bool.false_eq_true, State.queueCmd_bay, hg]⟩

/-! ### The result, and then the match (R67, R70) -/

/-- The result delivered to the Bay Table, the Matcher and the return watch. -/
def State.resulted (w : State) (b : BayNo) (p : Pack) (resolved : Option Profile) : State :=
  (((w.writePack b p).deliverResult b p resolved).holdTest b).watchResult b

theorem State.deliverResult_eq {w : State} {b : BayNo} (hc : (w.bay b).cause = none) (p : Pack)
    (resolved : Option Profile) :
    (w.writePack b p).deliverResult b p resolved =
      if p.health ≠ .retire ∧ resolved = none then
        ((w.recorded b p resolved).loseMatch b .fault).notify .bayFault (.bay b) 1 0
      else w.recorded b p resolved := by
  obtain ⟨band, cap, g, hv⟩ := w.writePack_bay b p
  unfold State.deliverResult State.recorded
  dsimp only
  by_cases hr : p.health = .retire
  · simp only [hr, if_true, ne_eq, not_true_eq_false, false_and, if_false]
  · cases resolved with
    | none =>
      simp only [hr, if_false, ne_eq, not_false_eq_true, and_self, if_true]
      rw [State.raiseFault_new (by rw [hv]; exact hc), State.becomeFaulted_eq]
      simp [FaultCause.loss, FaultCause.code]
    | some q => simp only [hr, if_false, reduceCtorEq, and_false]

/-- A condition of matching and the exchanges that the record meets outlasts the rest of the result. -/
theorem State.resulted_kept {P : State → Prop} (K : KeptByTrade P) {w : State} {b : BayNo} (hc : (w.bay b).cause = none)
    {p : Pack} {resolved : Option Profile} (h : P (w.recorded b p resolved)) : P (w.resulted b p resolved) := by
  rw [State.resulted, State.deliverResult_eq hc]
  exact K.watchResult (K.holdTest (kept_ite (K.toMatch.notify (K.loseMatch h b _) _ _ _ _) h) b) b

/-- What ends an admission after the match has been tested: BAY-FAULT for a fault, and the return watch. -/
def State.reportedFrom (y : State) (b : BayNo) (u : State) : Prop :=
  u = y.watchResult b ∨ ∃ d v, u = (y.notify .bayFault (.bay b) d v).watchResult b

theorem KeptByBay.reportedFrom {b : BayNo} {P : State → Prop} (K : KeptByBay b P) {y u : State} (h : y.reportedFrom b u)
    (k : P y) : P u := by
  rcases h with rfl | ⟨d, v, rfl⟩
  · exact K.watchResult k
  · exact K.watchResult (K.notify k _ _ _ _)

theorem State.reportedFrom_inner {b : BayNo} {y u : State} (h : y.reportedFrom b u) : y.inner u := by
  rcases h with rfl | ⟨d, v, rfl⟩
  · exact State.inner_watchResult y.inner_refl b
  · exact State.inner_watchResult (State.inner_notify y.inner_refl _ _ _ _) b

theorem State.reportedFrom_bay {b : BayNo} {y u : State} (h : y.reportedFrom b u) :
    ∃ o, u.bay b = { y.bay b with watch := o } := by
  have watch : ∀ t : State, ∃ o, (t.watchResult b).bay b = { t.bay b with watch := o } := fun t => by
    unfold State.watchResult
    split
    · exact ⟨_, rfl⟩
    · exact ⟨none, by rw [State.notify_bay, State.modBay_bay_self]⟩
  rcases h with rfl | ⟨d, v, rfl⟩
  · exact watch y
  · exact watch _

/-- A claim and the bay it is matched with, MATCHED or READY. -/
structure State.pairs (s : State) (b : BayNo) (c : Claim) : Prop where
  matched : (s.bay b).matched = some c.id
  claim : s.claim? c.id = some c
  bay : c.takeBay = some b
  state : c.state = .matched ∨ c.state = .ready

theorem State.pairs_within {s t : State} {b : BayNo} {c : Claim} (h : s.pairs b c) (k : s.within b t) : t.pairs b c :=
  ⟨k.matched.trans h.matched, (State.within_claim? k _).trans h.claim, h.bay, h.state⟩

theorem State.pairs_loses {s : State} {b : BayNo} {c : Claim} (h : s.pairs b c) (cause : LossCause) :
    s.loseMatch b cause = s.unmatch c.id cause :=
  State.loseMatch_unmatch h.matched h.claim (by rcases h.state with k | k <;> rw [k] <;> exact nofun) cause

theorem State.holdTest_free {s : State} {b : BayNo} (h : (s.bay b).matched = none) : s.holdTest b = s := by
  simp only [State.holdTest, h]

theorem State.loseMatch_free {s : State} {b : BayNo} (h : (s.bay b).matched = none) (cause : LossCause) :
    s.loseMatch b cause = s := by
  simp only [State.loseMatch, h]

/-- The holding test of a pair that fails it (R67, R70). -/
theorem State.holdTest_loses {s : State} {b : BayNo} {c : Claim} (h : s.pairs b c) {cause : LossCause}
    (hl : (s.bay b).lossFor c.cls = some cause) : s.holdTest b = s.unmatch c.id cause := by
  simp only [State.holdTest, h.matched, h.claim, hl, State.pairs_loses h]

theorem State.holdTest_holds {s : State} {b : BayNo} {c : Claim} (h : s.pairs b c)
    (hl : (s.bay b).lossFor c.cls = none) : s.holdTest b = s := by
  simp only [State.holdTest, h.matched, h.claim, hl]

theorem Bay.lossFor_fault {r : Bay} {k : FaultCause} (h : r.cause = some k) (cls : PackClass) :
    r.lossFor cls = some .fault := by
  simp [Bay.lossFor, h]

/-- The fault of a bay is the loss of its match with cause FAULT, and then BAY-FAULT (R151). -/
theorem State.faulted_reports {f : State} {b : BayNo} {k : FaultCause} (hk : (f.bay b).cause = some k)
    (hm : (f.bay b).matched = none ∨ ∃ c, f.pairs b c) :
    f.loseMatch b .fault = f.holdTest b ∧ ((f.holdTest b).bay b).matched = none := by
  rcases hm with hm | ⟨c, hp⟩
  · rw [State.loseMatch_free hm, State.holdTest_free hm]
    exact ⟨rfl, hm⟩
  · rw [State.holdTest_loses hp (Bay.lossFor_fault hk _), State.pairs_loses hp]
    exact ⟨rfl, State.unmatch_bay_matched hp.claim hp.bay _⟩

/-- The result tests the match of the record once (R27, R67). -/
theorem State.resulted_reports {w : State} {b : BayNo} (hc : (w.bay b).cause = none) {p : Pack}
    {resolved : Option Profile} (hm : (w.bay b).matched = none ∨ ∃ c, w.pairs b c) :
    ((w.recorded b p resolved).holdTest b).reportedFrom b (w.resulted b p resolved) := by
  have inside := w.recorded_within b p resolved
  have hm' : ((w.recorded b p resolved).bay b).matched = none ∨ ∃ c, (w.recorded b p resolved).pairs b c :=
    hm.imp inside.matched.trans fun ⟨c, k⟩ => ⟨c, State.pairs_within k inside⟩
  rw [State.resulted, State.deliverResult_eq hc]
  split
  · next hf =>
    obtain ⟨band, cap, g, hb⟩ := State.recorded_bay hc p resolved
    obtain ⟨loses, free⟩ := State.faulted_reports (k := .profile)
      (by rw [hb]; simp [admissionResult, hf.1, hf.2]) hm'
    rw [loses]
    exact .inr ⟨1, 0, by rw [State.holdTest_free (by rw [State.notify_bay]; exact free)]⟩
  · exact .inl rfl

end Sys2Proof.Machine
end

section
/-! What an admission's result comes to at the end of its arrival: the match that is lost, stands or was never there (R35,
R67, R70). -/

open Sys2Proof Sys2Proof.Machine
namespace Sys2Proof.Machine

/-! ### The three ends of a match at a result -/

/-- A claim has lost its bay, is open on the same terms, and CLAIM-UNMATCHED has been sent with this cause (R70). -/
def State.toldUnmatched (s : State) (b : BayNo) (c : Claim) (cause : Nat) (t : State) : Prop :=
  (∃ d, t.claim? c.id = some d ∧ d.terms = c.terms)
    ∧ t.sent .gateway (s.notice .claimUnmatched (.claim c.id) cause (bayNumber b))

/-- A bay and a claim no longer matched with each other. -/
def State.goneFrom (t : State) (b : BayNo) (c : Claim) : Prop := (t.bay b).matched ≠ some c.id ∧ t.notOn c.id b

section
variable {s f u : State} {b : BayNo} {c : Claim}

/-- A claim unbound within an arrival, at the arrival's end. -/
theorem State.unmatched_settled {y : State} (hp : y.pairs b c) (clock : y.clock = s.clock) {cause : LossCause}
    (book : u.book = (y.unmatch c.id cause).book) (inner : (y.unmatch c.id cause).inner u) :
    s.toldUnmatched b c cause.code u.settle := by
  refine ⟨?_, ?_⟩
  · refine State.settle_claim_stays (c := c.unbound) ?_
    rw [State.claim?_of_book book, State.unmatch_claim? hp.claim hp.bay, if_pos rfl]
  · rw [← State.notice_of_clock clock]
    exact State.inner_sent (State.inner_settle (State.inner_refl _)) (State.inner_sent inner
      (State.unmatch_sent hp.claim hp.bay cause))

/-- The match fails the holding test at the result. -/
theorem State.result_loses (hp : f.pairs b c) (clock : f.clock = s.clock) (hu : (f.holdTest b).reportedFrom b u)
    {cause : LossCause} (hl : (f.bay b).lossFor c.cls = some cause) :
    s.toldUnmatched b c cause.code u.settle
      ∧ ((f.bay b).holdsCharged = false → u.settle.goneFrom b c)
      ∧ ∀ p, (f.bay b).pack = some p → p.cls ≠ c.cls → u.settle.goneFrom b c := by
  rw [State.holdTest_loses hp hl] at hu
  set z := f.unmatch c.id cause with hz
  have book : u.book = z.book := (keptByBay_book b z.book).reportedFrom hu rfl
  obtain ⟨o, ho⟩ := State.reportedFrom_bay hu
  obtain ⟨pack, -, -, -, -, -, -, charged, -⟩ :=
    Bay.calm_fields (((keptByTrade_calm f).toMatch.unmatch f.calmSame_refl c.id cause).1 b)
  have matched : (u.bay b).matched = none := by rw [ho]; exact State.unmatch_bay_matched hp.claim hp.bay cause
  have notOn : u.notOn c.id b := State.notOn_of_book (State.unmatch_notOn hp.claim hp.bay cause b) book
  refine ⟨State.unmatched_settled hp clock book (State.reportedFrom_inner hu), fun idle => ?_, fun p hpack hcls => ?_⟩
  · obtain ⟨bay, claims⟩ := u.settle_passesBy (b := b)
      (Bay.unfit_of_idle (by rw [ho]; exact charged.trans idle))
    exact ⟨by rw [bay, matched]; exact nofun, claims _ notOn⟩
  · have apart : u.unlike c.id c.cls b := by
      refine ⟨by rw [matched]; exact nofun, notOn, fun d hd => ?_, p, by rw [ho]; exact pack.trans hpack, hcls⟩
      rw [State.claim?_of_book book, hz, State.unmatch_claim? hp.claim hp.bay, if_pos rfl] at hd
      obtain rfl := Option.some.inj hd
      rfl
    exact ⟨(State.settle_unlike apart).1, (State.settle_unlike apart).2.1⟩

/-- The match passes the holding test at the result. -/
theorem State.result_stands (hp : f.pairs b c) (hu : (f.holdTest b).reportedFrom b u)
    (hl : (f.bay b).lossFor c.cls = none) :
    (u.settle.bay b).matched = some c.id
      ∧ ∃ d, u.settle.claim? c.id = some d ∧ d.terms = c.terms ∧ d.takeBay = some b
        ∧ d.state = if (u.settle.bay b).readyFor c.level then .ready else .matched := by
  rw [State.holdTest_holds hp hl] at hu
  have pairs := State.pairs_within hp ((keptByBay_within b f).reportedFrom hu (f.within_refl b))
  obtain ⟨bay, d, hd, terms, on, -, state⟩ := State.settle_heldOn (by rw [pairs.matched]; exact nofun) pairs.claim
    pairs.bay pairs.state
  rw [bay]
  exact ⟨pairs.matched, d, hd, terms, on, state⟩

/-- There is no match at the result, and no claim asks for the pack's class. -/
theorem State.result_alone (hm : (f.bay b).matched = none) (hu : (f.holdTest b).reportedFrom b u)
    (hk : ∀ k ∈ f.book.claims, (f.bay b).candidate k.cls = false) :
    (u.settle.bay b).matched = none ∧ (u.settle.bay b).state = (f.bay b).state := by
  rw [State.holdTest_free hm] at hu
  obtain ⟨o, ho⟩ := State.reportedFrom_bay hu
  have book : u.book = f.book := (keptByBay_book b f.book).reportedFrom hu rfl
  have bay := State.settle_unasked (s := u) (b := b) fun k hk' => by
    rw [ho]
    exact hk k (book ▸ hk')
  rw [bay, ho]
  exact ⟨hm, rfl⟩

end

/-! ### An admission's fault before its record (R25) -/

theorem State.clearPack_pack (s : State) (b : BayNo) : ((s.clearPack b).bay b).pack = none := by
  obtain ⟨g, cap, hc⟩ := s.clearPack_bay b
  obtain ⟨band, ceiling, hn⟩ := (s.bay b).withoutPack_eq
  rw [hc, hn]

/-- PACK-ERROR in an admission takes the pack record (R25, R151). -/
theorem State.faultBay_packError {s : State} {b : BayNo} (h : (s.bay b).admission.isSome = true) :
    ∃ band ceiling cap g, (s.faultBay b .packError).bay b = { s.bay b with
      state := .faulted, cause := some .packError, admission := none, pack := none, band := band, ceiling := ceiling
      cap := cap, grant := g } := by
  obtain ⟨g, p, band, ceiling, cap, hb, -, -⟩ := s.faultBay_bay b .packError
  have pack : ((s.faultBay b .packError).bay b).pack = none := by
    simp only [State.faultBay, h, Bool.true_and, decide_true, if_true]
    exact State.clearPack_pack _ b
  rw [hb] at pack
  obtain rfl : p = none := pack
  exact ⟨band, ceiling, cap, g, hb⟩

/-- A fault of a bay without a role is its record, the loss of its match, and what is reported. -/
theorem State.raiseFault_reports {s : State} {b : BayNo} (hc : (s.bay b).cause = none) (hr : (s.bay b).role = .none)
    (ha : (s.bay b).admission.isSome = true) (hm : (s.bay b).matched = none ∨ ∃ c, s.pairs b c) (value : Nat) :
    ((s.faultBay b .packError).holdTest b).reportedFrom b (s.raiseFault b .packError value false) := by
  have inside : s.within b (s.faultBay b .packError) := (keptByBay_within b s).faultBay (s.within_refl b) _
  obtain ⟨band, ceiling, cap, g, hb⟩ := State.faultBay_packError ha
  obtain ⟨loses, -⟩ := State.faulted_reports (f := s.faultBay b .packError) (k := .packError) (by rw [hb])
    (hm.imp inside.matched.trans fun ⟨c, k⟩ => ⟨c, State.pairs_within k inside⟩)
  have role : (((s.faultBay b .packError).holdTest b).bay b).role = .none := by
    have still := State.loseMatch_quiet (s := s.faultBay b .packError) (b := b)
      (fun x e hx _ => nomatch (inside.role.trans hr).symm.trans hx) .fault
    rw [← loses, still.still.roles, inside.role, hr]
  refine .inr ⟨6, value, ?_⟩
  rw [State.raiseFault_new hc, State.becomeFaulted_eq]
  simp only [FaultCause.loss, loses, State.rejectIntake, role, ite_self, ha, Bool.true_and, decide_true, if_true,
    FaultCause.code]

end Sys2Proof.Machine
end

section
/-! The reply to the present admission's IDENTIFY, up to the identity (R6, R23, R131). -/

open Sys2Proof Sys2Proof.Machine
namespace Sys2Proof.Machine

/-! ### The report of a reply that carries the identity -/

/-- A reply of an ADMITTING bay that neither removes, changes nor heats its pack. -/
structure IdentifyReport (s : State) (b : BayNo) (a : Admission) (rep : ShortReport) : Prop where
  link : (s.bay b).link = .reachable
  state : (s.bay b).state = .admitting
  admission : (s.bay b).admission = some a
  cause : (s.bay b).cause = none
  sensed : rep.sensed = true
  door : rep.door = .closed
  count : rep.count = (s.bay b).count
  restart : rep.restart = false
  fault : rep.packFault = false
  temp : rep.temp < 65

/-- The state in which the identity is judged: the transaction ended and the report taken. -/
def State.reportTaken (s : State) (b : BayNo) (rep : ShortReport) : State :=
  (((s.heard b).takeFields b rep).rebandBay b).clearLinkDown b

/-- The exchange of the bay has nothing to follow in a report that leaves its phase. -/
def State.unfollowed (s : State) (b : BayNo) : Prop :=
  ∀ t : State, (t.bay b).role = (s.bay b).role → t.exchanges = s.exchanges →
    ∀ follow, t.exchangeReport b ((s.heard b).exchangeAt b) follow = t

theorem State.unfollowed_none {s : State} {b : BayNo} (h : (s.bay b).role = .none) : s.unfollowed b :=
  fun _ role _ follow => State.exchangeReport_none (role.trans h) _ follow

theorem State.unfollowed_intakeCheck {s : State} {b : BayNo} {x : ExNo} {e : Exchange} (hr : (s.bay b).role = .intake x)
    (he : s.exch x = some e) (hp : e.phase = .intakeCheck) : s.unfollowed b := fun t role exchanges follow => by
  have role' : (t.bay b).role = .intake x := role.trans hr
  rw [State.exchangeAt_heard (by rw [hr]; rfl) he,
    State.exchangeReport_follow (by rw [role']; rfl) ((State.exch_of exchanges x).trans he)]
  simp only [State.exchangeFollow, hp, role']

section
variable {s : State} {b : BayNo} {a : Admission} {rep : ShortReport}

/-- The record with the report's fields. -/
theorem State.fieldsTaken_bay (s : State) (b : BayNo) (rep : ShortReport) :
    ∃ band cap g, (((s.heard b).takeFields b rep).rebandBay b).bay b
      = { (s.bay b).answered.report rep with band := band, cap := cap, grant := g } := by
  obtain ⟨g, -, hg, -⟩ := s.heard_fields b rep
  obtain ⟨band, cap, g', -, hb⟩ := ((s.heard b).takeFields b rep).rebandBay_bay b
  exact ⟨band, cap, g', by rw [hb, hg]⟩

theorem State.fieldsTaken_within (s : State) (b : BayNo) (rep : ShortReport) :
    s.within b (((s.heard b).takeFields b rep).rebandBay b) := by
  have K := keptByBay_within b s
  have heard : s.within b (s.heard b) := State.heard_kept K ⟨rfl, rfl, fun _ _ => rfl, rfl, rfl⟩
  exact K.rebandBay (K.takeFields (State.within_modBay heard fun _ => ⟨rfl, rfl⟩))

theorem State.reportTaken_bay (s : State) (b : BayNo) (rep : ShortReport) :
    ∃ band cap g, (s.reportTaken b rep).bay b
      = { (s.bay b).answered.report rep with band := band, cap := cap, grant := g } := by
  obtain ⟨band, cap, g, hb⟩ := s.fieldsTaken_bay b rep
  exact ⟨band, cap, g, by rw [State.reportTaken, State.clearLinkDown_bay, hb]⟩

theorem State.reportTaken_within (s : State) (b : BayNo) (rep : ShortReport) : s.within b (s.reportTaken b rep) :=
  State.within_of (s.fieldsTaken_within b rep) (State.clearLinkDown_bay _ b) (State.clearLinkDown_book _ b)
    (State.clearLinkDown_quiet _ b).still.exchanges

theorem State.reportTaken_settings (s : State) (b : BayNo) (rep : ShortReport) :
    (s.reportTaken b rep).settings = s.settings :=
  (State.clearLinkDown_spec _ b).1.trans
    ((State.inner_rebandBay (s.fields_inner b rep) b).1.trans (s.heard_inner b).1)

theorem State.reportTaken_clock (s : State) (b : BayNo) (rep : ShortReport) : (s.reportTaken b rep).clock = s.clock :=
  congrArg (fun x => x.2.2.1) (s.reportTaken_settings b rep)

theorem State.reportTaken_params (s : State) (b : BayNo) (rep : ShortReport) : (s.reportTaken b rep).params = s.params :=
  congrArg (fun x => x.2.2.2.1) (s.reportTaken_settings b rep)

variable (h : IdentifyReport s b a rep)
include h

/-- The record in which the identity is judged: ADMITTING without a cause, the kept pack with the report's figures. -/
theorem IdentifyReport.record :
    let r := (s.reportTaken b rep).bay b
    r.state = .admitting ∧ r.admission = some a ∧ r.cause = none ∧ r.link = .reachable
      ∧ r.inForce = (s.bay b).inForce ∧ r.ceiling = (s.bay b).ceiling ∧ r.service = (s.bay b).service
      ∧ r.pack = (s.bay b).pack.map (fun p => { p with soc := clampSoc rep.soc, temp := clampTemp rep.temp }) := by
  obtain ⟨band, cap, g, hb⟩ := s.reportTaken_bay b rep
  dsimp only
  rw [hb]
  exact ⟨h.state, h.admission, h.cause, rfl, rfl, rfl, rfl, rfl⟩

theorem IdentifyReport.packed :
    (s.heard b).packed b rep (s.back b) = (s.heard b).takeFields b rep := by
  obtain ⟨g, -, hg, -⟩ := s.heard_fields b rep
  have still : (s.heard b).moved b rep = false := by
    simp [State.moved, State.heard_bay_self, h.count, h.restart]
  have back : s.back b = false := by simp [State.back, h.link]
  rw [State.packed_present h.sensed, still, back,
    State.insertPack_held (by rw [hg]; exact fun k => nomatch h.state.symm.trans k)]
  rfl

/-- Such a report is its fields and the band of its temperature (R6). -/
theorem IdentifyReport.applied (hx : s.unfollowed b) :
    (s.heard b).applyReport b rep (s.back b) = ((s.heard b).takeFields b rep).rebandBay b := by
  set t := ((s.heard b).takeFields b rep).rebandBay b with ht
  obtain ⟨band, cap, g, hb⟩ := s.fieldsTaken_bay b rep
  have admitting : (t.bay b).state = .admitting := by rw [hb]; exact h.state
  have session : t.takeSession b rep.session = t := State.takeSession_idle (by rw [admitting]; exact nofun) _
  have fill : t.fillTest b = t := State.fillTest_else (fun _ _ k => nomatch admitting.symm.trans k)
    fun _ _ k => nomatch admitting.symm.trans k
  have door : t.takeDoor b = t := State.takeDoor_closed (by rw [hb]; exact fun k => nomatch h.door.symm.trans k)
  have watch : t.dropWatch b = t := if_neg (by rw [hb]; exact fun k => nomatch h.sensed.symm.trans k.1)
  have back : s.back b = false := by simp [State.back, h.link]
  have relock : t.relockBack b (s.back b) = t := if_neg (by rw [back]; exact fun k => nomatch k.1)
  have judged : ((s.heard b).takeFields b rep).judged b rep (s.back b) = t := by
    rw [State.judged, State.takeHeat_cool _ (fun _ => ⟨h.fault, h.temp⟩), ← ht, session, fill, door, watch, relock]
  have inside := s.fieldsTaken_within b rep
  rw [State.applyReport_eq, h.packed, judged]
  exact hx t inside.role inside.exchanges _

/-- The reply is the identity's acceptance after its report, and the arrival's end (R23). -/
theorem IdentifyReport.replied (hx : s.unfollowed b) (attempts : Nat) (held : Bool) (i : Identity) :
    s.replied (.command { bay := b, cmd := .identify a.number, attempts := attempts } held) b rep (.identity i)
      = ((s.reportTaken b rep).acceptIdentity b a i rep).settle := by
  obtain ⟨state, admission, -⟩ := h.record
  rw [State.replied, State.answered_eq, h.applied hx]
  show (State.takeAnswer (s.reportTaken b rep) b a.number (.identity i) rep).settle = _
  simp only [State.takeAnswer, admission, state, and_self, if_true]

end

/-! ### What the identity says (R25, R27) -/

theorem classOf_none {n : Nat} (h : n < 800 ∨ 4000 < n) : classOf n = none := by
  unfold classOf
  split
  · rfl
  · rw [if_neg (by omega), if_neg (by omega), if_neg (by omega)]

theorem classOf_some {n : Nat} (h : 800 ≤ n) (k : n ≤ 4000) :
    classOf n = some (if n ≤ 1600 then .s else if n ≤ 2800 then .m else .l) := by
  rw [classOf, if_neg (by omega)]
  split
  · rfl
  · split <;> rfl

theorem newPack_cool {rep : ShortReport} (h : rep.temp < 65) (i : Identity) (cls : PackClass) (k : Profile) :
    newPack i cls rep k =
      { id := i.packId, capacity := i.capacity, cls := cls, soc := min 1000 rep.soc, temp := max (-40) rep.temp,
        abilities := i.abilities, health := i.health, profile := k, refusals := 0, socUsed := none } := by
  rw [newPack, clampTemp_cool h]
  rfl

end Sys2Proof.Machine
end

section
/-! The identity of a pack in a bay without a role (R25 to R27, R35, R37). -/

open Sys2Proof Sys2Proof.Machine
namespace Sys2Proof.Machine

/-! ### A pack id that differs from the kept record's (R35, R37) -/

theorem State.settleOther_same {v : State} {b : BayNo} {a : Admission} {i : Identity}
    (h : (v.bay b).otherPack i = false ∨ a.cause = .insertion) : v.settleOther b a i = v := by
  rcases h with h | h
  · simp only [State.settleOther, h, Bool.false_eq_true, if_false]
  · simp only [State.settleOther, h, ite_self]

theorem State.settleOther_restart {v : State} {b : BayNo} {a : Admission} {i : Identity}
    (h : (v.bay b).otherPack i = true) (ha : a.cause = .restart) : v.settleOther b a i = v.loseMatch b .packChanged := by
  simp only [State.settleOther, h, ha, if_true]

theorem State.settleOther_faultClear {v : State} {b : BayNo} {a : Admission} {i : Identity}
    (h : (v.bay b).otherPack i = true) (ha : a.cause = .faultClear) :
    v.settleOther b a i = v.modBay b (fun r => { r with ceiling := none }) := by
  simp only [State.settleOther, h, ha, if_true]

/-- The ceiling under which a re-identified pack's profile is resolved (R26, R37). -/
def Bay.ceilingFor (r : Bay) (a : Admission) (i : Identity) : Option Profile :=
  if a.cause = .faultClear ∧ r.otherPack i = true then none else r.ceiling

/-- Only a RESTART admission's match goes before the result. -/
theorem State.settleOther_within {v : State} {b : BayNo} {a : Admission} {i : Identity}
    (h : ¬(a.cause = .restart ∧ (v.bay b).otherPack i = true)) :
    v.within b (v.settleOther b a i) ∧ (v.settleOther b a i).bay b
      = { v.bay b with ceiling := (v.bay b).ceilingFor a i } := by
  cases ho : (v.bay b).otherPack i with
  | false =>
    rw [State.settleOther_same (.inl ho), Bay.ceilingFor, ho, if_neg (by simp)]
    exact ⟨v.within_refl b, rfl⟩
  | true =>
    cases ha : a.cause with
    | insertion =>
      rw [State.settleOther_same (.inr ha), Bay.ceilingFor, ha, if_neg (by simp)]
      exact ⟨v.within_refl b, rfl⟩
    | restart => exact absurd ⟨ha, ho⟩ h
    | faultClear =>
      rw [State.settleOther_faultClear ho ha, Bay.ceilingFor, ha, ho, if_pos ⟨rfl, rfl⟩, State.modBay_bay_self]
      exact ⟨State.within_modBay (v.within_refl b) fun _ => ⟨rfl, rfl⟩, rfl⟩

/-- What every identity leaves of a bay without a role before the result. -/
theorem State.settleOther_spec {v : State} {b : BayNo} (hr : (v.bay b).role = .none) (a : Admission) (i : Identity) :
    let w := v.settleOther b a i
    v.quiet w ∧ v.classesKept w ∧ (w.bay b).cause = (v.bay b).cause ∧ (w.bay b).inForce = (v.bay b).inForce
      ∧ (w.bay b).ceiling = (v.bay b).ceilingFor a i := by
  dsimp only
  by_cases h : a.cause = .restart ∧ (v.bay b).otherPack i = true
  · obtain ⟨-, cause, -, ceiling, inForce, -⟩ :=
      Bay.calm_fields (((keptByTrade_calm v).loseMatch v.calmSame_refl b .packChanged).1 b)
    rw [State.settleOther_restart h.2 h.1]
    exact ⟨State.loseMatch_quiet (fun x e hx _ => nomatch hr.symm.trans hx) _,
      (keptByArrival_classes v).toTrade.loseMatch v.classesKept_refl b _, cause, inForce,
      ceiling.trans (by simp [Bay.ceilingFor, h.1])⟩
  · obtain ⟨inside, hb⟩ := State.settleOther_within h
    refine ⟨?_, State.classesKept_of_book v.classesKept_refl inside.book, by rw [hb], by rw [hb], by rw [hb]⟩
    unfold State.settleOther
    refine kept_ite_of (P := v.quiet) (fun ho => ?_) fun _ => v.quiet_refl
    split
    · next ha => exact absurd ⟨ha, ho⟩ h
    · exact (keptByBay_quiet b v).record (by exact fun _ => rfl) v.quiet_refl
    · exact v.quiet_refl

/-! ### The result of a bay without a role -/

theorem State.holdTest_quiet {s : State} {b : BayNo} (hr : (s.bay b).role = .none) : s.quiet (s.holdTest b) := by
  unfold State.holdTest
  split
  · exact s.quiet_refl
  · split
    · exact s.quiet_refl
    · split
      · exact s.quiet_refl
      · exact State.loseMatch_quiet (fun x e hx _ => nomatch hr.symm.trans hx) _

theorem State.resulted_quiet {w : State} {b : BayNo} (hc : (w.bay b).cause = none) (hr : (w.bay b).role = .none) (p : Pack)
    (resolved : Option Profile) : w.quiet (w.resulted b p resolved) := by
  have K := keptByBay_quiet b w
  have recorded : w.quiet (w.recorded b p resolved) := K.recorded w.quiet_refl p resolved
  have free : ∀ {u : State}, w.quiet u → (u.bay b).role = .none := fun k => (k.still.roles b).trans hr
  have lost := State.quiet_trans recorded
    (State.loseMatch_quiet (fun x e hx _ => nomatch (free recorded).symm.trans hx) .fault)
  have delivered : w.quiet ((w.writePack b p).deliverResult b p resolved) := by
    rw [State.deliverResult_eq hc]
    exact kept_ite (P := w.quiet) (K.notify lost _ _ _ _) recorded
  exact K.watchResult (State.quiet_trans delivered (State.holdTest_quiet (free delivered)))

/-- The state in which the result is found: the report taken, and what another pack id does. -/
def State.judgedAs (s : State) (b : BayNo) (a : Admission) (rep : ShortReport) (i : Identity) : State :=
  (s.reportTaken b rep).settleOther b a i

/-- The profile of R26 for an identity in a bay. -/
def Bay.resolved (r : Bay) (i : Identity) : Option Profile := resolveProfile i.abilities r.inForce i.health r.ceiling

/-- The profile of R26 for an identity that answers an admission, whose cause may clear the ceiling (R37). -/
def Bay.resolvedFor (r : Bay) (a : Admission) (i : Identity) : Option Profile :=
  resolveProfile i.abilities r.inForce i.health (r.ceilingFor a i)

/-- The pack record of an identity with the profile resolved for it (R27). -/
def identityRecord (i : Identity) (cls : PackClass) (rep : ShortReport) (resolved : Option Profile) : Pack :=
  newPack i cls rep (resolved.getD .p0)

theorem State.acceptIdentity_none {v : State} {i : Identity} (h : classOf i.capacity = none) (b : BayNo) (a : Admission)
    (rep : ShortReport) : v.acceptIdentity b a i rep = v.raiseFault b .packError 3 false := by
  simp only [State.acceptIdentity, h]

theorem State.acceptIdentity_some {v : State} {i : Identity} {cls : PackClass} (h : classOf i.capacity = some cls)
    (b : BayNo) (a : Admission) (rep : ShortReport) :
    let w := v.settleOther b a i
    v.acceptIdentity b a i rep
      = (w.resulted b (identityRecord i cls rep ((w.bay b).resolved i)) ((w.bay b).resolved i)).intakeResult b i.packId := by
  simp only [State.acceptIdentity, h]
  rfl

theorem State.intakeResult_none {s : State} {b : BayNo} (h : (s.bay b).role = .none) (id : PackId) :
    s.intakeResult b id = s := by
  simp only [State.intakeResult, h]

/-- The loss cause of a bay at an admission's result, by health, cause and class (R35, R67). -/
theorem Bay.lossFor_retire {r : Bay} {p : Pack} (hc : r.cause = none) (hs : r.service = .inService)
    (hl : r.link = .reachable) (hp : r.pack = some p) (hh : p.health = .retire) (cls : PackClass) :
    r.lossFor cls = some .retire := by
  simp [Bay.lossFor, hc, hs, hl, hp, hh]

theorem Bay.lossFor_charged {r : Bay} {p : Pack} (hc : r.cause = none) (hs : r.service = .inService)
    (hl : r.link = .reachable) (hp : r.pack = some p) (hh : p.health ≠ .retire) (hx : r.holdsCharged = true)
    (cls : PackClass) : r.lossFor cls = if p.cls ≠ cls then some .cls else none := by
  simp [Bay.lossFor, hc, hs, hl, hp, hh, hx]

section
variable {s : State} {b : BayNo} {a : Admission} {rep : ShortReport} (h : IdentifyReport s b a rep)
  (hr : (s.bay b).role = .none) (i : Identity)
include h

/-- The kept record's id is compared as it stood before the report. -/
theorem IdentifyReport.otherPack : ((s.reportTaken b rep).bay b).otherPack i = (s.bay b).otherPack i := by
  obtain ⟨-, -, -, -, -, -, -, pack⟩ := h.record
  simp only [Bay.otherPack, pack]
  cases (s.bay b).pack <;> rfl

theorem IdentifyReport.ceilingFor : ((s.reportTaken b rep).bay b).ceilingFor a i = (s.bay b).ceilingFor a i := by
  obtain ⟨-, -, -, -, -, ceiling, -⟩ := h.record
  simp only [Bay.ceilingFor, h.otherPack, ceiling]

include hr

theorem IdentifyReport.judged :
    let w := s.judgedAs b a rep i
    (w.bay b).cause = none ∧ (w.bay b).role = .none ∧ (w.bay b).inForce = (s.bay b).inForce
      ∧ (w.bay b).ceiling = (s.bay b).ceilingFor a i ∧ s.classesKept w ∧ w.clock = s.clock ∧ w.params = s.params
      ∧ w.exchanges = s.exchanges := by
  obtain ⟨-, -, cause, -, inForce, -⟩ := h.record
  have inside := s.reportTaken_within b rep
  have role := inside.role.trans hr
  obtain ⟨quiet, classes, cause', inForce', ceiling⟩ := State.settleOther_spec role a i
  have inner := State.inner_settleOther (s.reportTaken b rep).inner_refl b a i
  dsimp only [State.judgedAs]
  refine ⟨cause'.trans cause, (quiet.still.roles b).trans role, inForce'.trans inForce, ceiling.trans (h.ceilingFor i),
    fun k hk => ?_, (State.inner_clock inner).trans (s.reportTaken_clock b rep),
    (State.inner_params inner).trans (s.reportTaken_params b rep), quiet.still.exchanges.trans inside.exchanges⟩
  obtain ⟨j, hj, e⟩ := classes k hk
  exact ⟨j, inside.book ▸ hj, e⟩

/-- An identity outside the classes (R25): PACK-ERROR, no record, and the match lost with FAULT. -/
theorem IdentifyReport.refused {i : Identity} (hi : classOf i.capacity = none) :
    let t := ((s.reportTaken b rep).acceptIdentity b a i rep).settle
    (t.bay b).state = .faulted ∧ (t.bay b).cause = some .packError ∧ (t.bay b).pack = none ∧ (t.bay b).admission = none
      ∧ (t.bay b).inForce = (s.bay b).inForce ∧ t.exchanges = s.exchanges
      ∧ ∀ c, s.pairs b c → s.toldUnmatched b c 1 t ∧ t.goneFrom b c := by
  obtain ⟨-, admission, cause, -, inForce, -⟩ := h.record
  have inside := s.reportTaken_within b rep
  set v := s.reportTaken b rep with hv
  obtain ⟨band, ceiling, cap, g, hb⟩ := State.faultBay_packError (s := v) (b := b) (by rw [admission]; rfl)
  have raised : v.acceptIdentity b a i rep = v.becomeFaulted b .packError 3 false := by
    rw [State.acceptIdentity_none hi, State.raiseFault_new cause]
  have K := keptByTrade_calm (v.faultBay b .packError)
  have calm := K.toMatch.settle (v.becomeFaulted_calm b .packError 3 false)
  obtain ⟨-, -, adm, -, inf, -⟩ := Bay.calm_fields (calm.1 b)
  obtain ⟨state, pack, cause'⟩ := calm.faulted (b := b) (by rw [hb])
  have quiet : v.quiet (v.becomeFaulted b .packError 3 false).settle :=
    State.quiet_trans (State.becomeFaulted_quiet (State.holdsFast_of_none (inside.role.trans hr)) _ _ _)
      (State.settle_quiet _)
  dsimp only
  refine ⟨by rw [raised, state], by rw [raised, cause', hb], by rw [raised, pack, hb], by rw [raised, adm, hb],
    by rw [raised, inf, hb, ← inForce], by rw [raised, quiet.still.exchanges, inside.exchanges], fun c hp => ?_⟩
  have hp' := State.pairs_within hp inside
  have faulted : v.within b (v.faultBay b .packError) := (keptByBay_within b v).faultBay (v.within_refl b) _
  have reports := State.raiseFault_reports cause (inside.role.trans hr) (by rw [admission]; rfl) (.inr ⟨c, hp'⟩) 3
  obtain ⟨told, gone, -⟩ := State.result_loses (s := s) (State.pairs_within hp' faulted)
    ((State.inner_clock (v.faultBay_inner b .packError)).trans (s.reportTaken_clock b rep)) reports
    (Bay.lossFor_fault (k := .packError) (by rw [hb]) c.cls)
  rw [State.acceptIdentity_none hi]
  exact ⟨told, gone (by rw [hb]; rfl)⟩

end

/-! ### The result, and the arrival's end -/

/-- The bay's record at the result, before its match is tested. -/
def State.recordedAs (s : State) (b : BayNo) (a : Admission) (rep : ShortReport) (i : Identity) (cls : PackClass) : State :=
  (s.judgedAs b a rep i).recorded b (identityRecord i cls rep ((s.bay b).resolvedFor a i)) ((s.bay b).resolvedFor a i)

/-- The state of the result, before the arrival's end. -/
def State.resultedAs (s : State) (b : BayNo) (a : Admission) (rep : ShortReport) (i : Identity) (cls : PackClass) : State :=
  (s.judgedAs b a rep i).resulted b (identityRecord i cls rep ((s.bay b).resolvedFor a i)) ((s.bay b).resolvedFor a i)

section
variable {s : State} {b : BayNo} {a : Admission} {rep : ShortReport} (h : IdentifyReport s b a rep)
  (hr : (s.bay b).role = .none) (i : Identity) (cls : PackClass)
include h hr

theorem IdentifyReport.accepted (hi : classOf i.capacity = some cls) :
    (s.reportTaken b rep).acceptIdentity b a i rep = s.resultedAs b a rep i cls := by
  obtain ⟨cause, role, inForce, ceiling, -⟩ := h.judged hr i
  have resolved : ((s.judgedAs b a rep i).bay b).resolved i = (s.bay b).resolvedFor a i := by
    rw [Bay.resolved, inForce, ceiling, Bay.resolvedFor]
  have quiet := State.resulted_quiet cause role (identityRecord i cls rep ((s.bay b).resolvedFor a i))
    ((s.bay b).resolvedFor a i)
  rw [State.acceptIdentity_some hi]
  show ((s.judgedAs b a rep i).resulted b (identityRecord i cls rep (((s.judgedAs b a rep i).bay b).resolved i))
    (((s.judgedAs b a rep i).bay b).resolved i)).intakeResult b i.packId = _
  rw [resolved]
  exact State.intakeResult_none ((quiet.still.roles b).trans role) _

/-- The bay's record at the result (R27). -/
theorem IdentifyReport.recordedAs_bay :
    ∃ full, (((s.judgedAs b a rep i).bay b).matched = none → full = decide (s.params.fill ≤ min 1000 rep.soc))
      ∧ ∃ band cap g, (s.recordedAs b a rep i cls).bay b = { (s.judgedAs b a rep i).bay b with
          pack := some (identityRecord i cls rep ((s.bay b).resolvedFor a i)), admission := none, band := band, cap := cap, grant := g
          state := (admissionResult i.health ((s.bay b).resolvedFor a i) full).1
          cause := (admissionResult i.health ((s.bay b).resolvedFor a i) full).2 } := by
  obtain ⟨cause, -, -, -, -, -, params, -⟩ := h.judged hr i
  refine ⟨_, fun free => ?_, State.recorded_bay cause _ _⟩
  rw [State.fillTarget, free, params]
  rfl

theorem IdentifyReport.resulted_calm :
    (s.recordedAs b a rep i cls).calmSame (s.resultedAs b a rep i cls).settle :=
  (keptByTrade_calm _).toMatch.settle
    (State.resulted_kept (keptByTrade_calm _) (h.judged hr i).1 (State.calmSame_refl _))

/-- The record, the ceiling and the result at the arrival's end (R26, R27). -/
theorem IdentifyReport.resulted_record :
    let t := (s.resultedAs b a rep i cls).settle
    let resolved := (s.bay b).resolvedFor a i
    (t.bay b).admission = none ∧ (t.bay b).inForce = (s.bay b).inForce ∧ t.exchanges = s.exchanges
      ∧ (t.bay b).pack = some (identityRecord i cls rep resolved) ∧ (t.bay b).ceiling = (s.bay b).ceilingFor a i
      ∧ (i.health = .retire → (t.bay b).state = .withheld)
      ∧ (i.health ≠ .retire → resolved = none → (t.bay b).state = .faulted ∧ (t.bay b).cause = some .profile) := by
  dsimp only
  obtain ⟨cause, role, inForce, ceiling, -, -, -, exchanges⟩ := h.judged hr i
  obtain ⟨full, -, band, cap, g, hb⟩ := h.recordedAs_bay hr i cls
  obtain ⟨pack, cause', admission, ceiling', inForce', -, -, -, state⟩ := Bay.calm_fields ((h.resulted_calm hr i cls).1 b)
  have quiet := State.quiet_trans (State.resulted_quiet cause role (identityRecord i cls rep ((s.bay b).resolvedFor a i))
    ((s.bay b).resolvedFor a i)) (State.settle_quiet _)
  refine ⟨by rw [admission, hb], by rw [inForce', hb, ← inForce], quiet.still.exchanges.trans exchanges,
    by rw [pack, hb], by rw [ceiling', hb, ← ceiling], fun retire => ?_, fun sound none => ?_⟩
  · rw [state (by rw [hb]; simp [Bay.holdsCharged, admissionResult, retire]), hb]
    simp [admissionResult, retire]
  · rw [state (by rw [hb]; simp [Bay.holdsCharged, admissionResult, sound, none]), cause', hb]
    simp [admissionResult, sound, none]

end

end Sys2Proof.Machine
end

section
/-! The match of a bay without a role at the result of its admission (R35, R37, R67, R70). -/

open Sys2Proof Sys2Proof.Machine
namespace Sys2Proof.Machine

theorem State.recordedAs_within (s : State) (b : BayNo) (a : Admission) (rep : ShortReport) (i : Identity)
    (cls : PackClass) : (s.judgedAs b a rep i).within b (s.recordedAs b a rep i cls) :=
  State.recorded_within _ b _ _

section
variable {s : State} {b : BayNo} {a : Admission} {rep : ShortReport} (h : IdentifyReport s b a rep)
  (hr : (s.bay b).role = .none) (i : Identity) (cls : PackClass)
include h hr

theorem IdentifyReport.resulted_reports
    (hm : ((s.judgedAs b a rep i).bay b).matched = none ∨ ∃ c, (s.judgedAs b a rep i).pairs b c) :
    ((s.recordedAs b a rep i cls).holdTest b).reportedFrom b (s.resultedAs b a rep i cls) :=
  State.resulted_reports (h.judged hr i).1 hm

theorem IdentifyReport.recordedAs_clock : (s.recordedAs b a rep i cls).clock = s.clock := by
  obtain ⟨-, -, -, -, -, clock, -⟩ := h.judged hr i
  exact (State.inner_clock ((s.judgedAs b a rep i).recorded_inner b _ _)).trans clock

/-- Without a match at the result the bay is taken only by a claim of its pack's class (R27, R62). -/
theorem IdentifyReport.resulted_alone (free : ((s.judgedAs b a rep i).bay b).matched = none)
    (hk : ∀ k ∈ s.book.claims, k.cls ≠ cls) :
    let t := (s.resultedAs b a rep i cls).settle
    (t.bay b).matched = none
      ∧ (i.health ≠ .retire → (s.bay b).resolvedFor a i ≠ none →
          (t.bay b).state = if s.params.fill ≤ min 1000 rep.soc then .topped else .charging) := by
  dsimp only
  obtain ⟨-, -, -, -, classes, -⟩ := h.judged hr i
  obtain ⟨full, target, band, cap, g, hb⟩ := h.recordedAs_bay hr i cls
  have inside := s.recordedAs_within b a rep i cls
  have unasked : ∀ k ∈ (s.recordedAs b a rep i cls).book.claims,
      ((s.recordedAs b a rep i cls).bay b).candidate k.cls = false := fun k hk' => by
    obtain ⟨j, hj, same⟩ := classes k (inside.book ▸ hk')
    exact Bay.candidate_cls (by rw [hb]) (fun e => hk j hj (same ▸ e.symm))
  obtain ⟨matched, state⟩ := State.result_alone (inside.matched.trans free)
    (h.resulted_reports hr i cls (.inl free)) unasked
  refine ⟨matched, fun sound found => ?_⟩
  rw [state, hb, target free]
  simp only [admissionResult, sound, found, if_false, decide_eq_true_eq]

/-- The match a RESTART admission's other pack id ends before the result (R35). -/
theorem IdentifyReport.resulted_other {c : Claim} (hp : s.pairs b c) (restart : a.cause = .restart)
    (other : (s.bay b).otherPack i = true) :
    s.toldUnmatched b c 5 (s.resultedAs b a rep i cls).settle ∧ ((s.judgedAs b a rep i).bay b).matched = none := by
  have pairs := State.pairs_within hp (s.reportTaken_within b rep)
  have judged : s.judgedAs b a rep i = (s.reportTaken b rep).unmatch c.id .packChanged := by
    rw [State.judgedAs, State.settleOther_restart ((h.otherPack i).trans other) restart, State.pairs_loses pairs]
  have free : ((s.judgedAs b a rep i).bay b).matched = none := by
    rw [judged]
    exact State.unmatch_bay_matched pairs.claim pairs.bay _
  refine ⟨?_, free⟩
  have inside := s.recordedAs_within b a rep i cls
  have reports := h.resulted_reports hr i cls (.inl free)
  rw [State.holdTest_free (inside.matched.trans free)] at reports
  refine State.unmatched_settled pairs (s.reportTaken_clock b rep) (cause := .packChanged) ?_ ?_
  · exact judged ▸ ((keptByBay_book b _).reportedFrom reports rfl).trans inside.book
  · exact judged ▸ State.inner_trans ((s.judgedAs b a rep i).recorded_inner b _ _) (State.reportedFrom_inner reports)

/-- A match that outlasts the comparison of the ids is tested with the new record (R35, R67). -/
theorem IdentifyReport.resulted_pairs {c : Claim} (hp : s.pairs b c)
    (keeps : ¬(a.cause = .restart ∧ (s.bay b).otherPack i = true)) :
    (s.recordedAs b a rep i cls).pairs b c
      ∧ ((s.recordedAs b a rep i cls).holdTest b).reportedFrom b (s.resultedAs b a rep i cls)
      ∧ ((s.judgedAs b a rep i).bay b).link = .reachable
      ∧ ((s.judgedAs b a rep i).bay b).service = (s.bay b).service := by
  obtain ⟨-, -, -, link, -, -, service, -⟩ := h.record
  obtain ⟨inside, hb⟩ := State.settleOther_within (v := s.reportTaken b rep) (by rw [h.otherPack]; exact keeps)
  have judged : (s.judgedAs b a rep i).pairs b c :=
    State.pairs_within hp (State.within_trans (s.reportTaken_within b rep) inside)
  refine ⟨State.pairs_within judged (s.recordedAs_within b a rep i cls),
    h.resulted_reports hr i cls (.inr ⟨c, judged⟩), ?_, ?_⟩
  · rw [State.judgedAs, hb, link]
  · rw [State.judgedAs, hb, service]

/-- The match of a bay in service by the new record: lost with RETIRE, FAULT or CLASS, or standing (R35, R67). -/
theorem IdentifyReport.resulted_held {c : Claim} (hp : s.pairs b c)
    (keeps : ¬(a.cause = .restart ∧ (s.bay b).otherPack i = true)) (served : (s.bay b).service = .inService) :
    let t := (s.resultedAs b a rep i cls).settle
    let resolved := (s.bay b).resolvedFor a i
    (i.health = .retire → s.toldUnmatched b c 6 t ∧ t.goneFrom b c)
      ∧ (i.health ≠ .retire → resolved = none → s.toldUnmatched b c 1 t ∧ t.goneFrom b c)
      ∧ (i.health ≠ .retire → resolved ≠ none → cls ≠ c.cls → s.toldUnmatched b c 7 t ∧ t.goneFrom b c)
      ∧ (i.health ≠ .retire → resolved ≠ none → cls = c.cls → (t.bay b).matched = some c.id
          ∧ ∃ d, t.claim? c.id = some d ∧ d.terms = c.terms ∧ d.takeBay = some b
            ∧ d.state = if (t.bay b).readyFor c.level then .ready else .matched) := by
  dsimp only
  obtain ⟨pairs, reports, link, service⟩ := h.resulted_pairs hr i cls hp keeps
  obtain ⟨full, -, band, cap, g, hb⟩ := h.recordedAs_bay hr i cls
  have loses := fun cause => State.result_loses (cause := cause) pairs (h.recordedAs_clock hr i cls) reports
  have serves : ((s.recordedAs b a rep i cls).bay b).service = .inService := by
    rw [hb]
    dsimp only
    rw [service, served]
  have reaches : ((s.recordedAs b a rep i cls).bay b).link = .reachable := by
    rw [hb]
    dsimp only
    rw [link]
  have charged : i.health ≠ .retire → (s.bay b).resolvedFor a i ≠ none → ((s.recordedAs b a rep i cls).bay b).lossFor c.cls
      = if cls ≠ c.cls then some .cls else none := fun sound found =>
    Bay.lossFor_charged (p := identityRecord i cls rep ((s.bay b).resolvedFor a i))
      (by rw [hb]; simp [admissionResult, sound, found]) serves reaches (by rw [hb]) sound (by rw [hb]; cases full <;> simp [Bay.holdsCharged, admissionResult, sound, found]) c.cls
  refine ⟨fun retire => ?_, fun sound none => ?_, fun sound found differs => ?_, fun sound found same => ?_⟩
  · have lost : ((s.recordedAs b a rep i cls).bay b).lossFor c.cls = some .retire :=
      Bay.lossFor_retire (by rw [hb]; simp [admissionResult, retire]) serves reaches (by rw [hb]) retire c.cls
    obtain ⟨told, gone, -⟩ := loses _ lost
    exact ⟨told, gone (by rw [hb]; simp [Bay.holdsCharged, admissionResult, retire])⟩
  · have lost : ((s.recordedAs b a rep i cls).bay b).lossFor c.cls = some .fault :=
      Bay.lossFor_fault (k := .profile) (by rw [hb]; simp [admissionResult, sound, none]) c.cls
    obtain ⟨told, gone, -⟩ := loses _ lost
    exact ⟨told, gone (by rw [hb]; simp [Bay.holdsCharged, admissionResult, sound, none])⟩
  · obtain ⟨told, -, gone⟩ := loses _ ((charged sound found).trans (if_pos differs))
    exact ⟨told, gone _ (by rw [hb]) differs⟩
  · exact State.result_stands pairs reports ((charged sound found).trans (if_neg (not_not.mpr same)))

end

end Sys2Proof.Machine
end

section
/-! The exchange of an intake bay after its admission's result (R57, R72, R73, R116, R117, R121, R127). -/

open Sys2Proof Sys2Proof.Machine
namespace Sys2Proof.Machine

/-! ### A claim handed back before its expiry (R72) -/

section
variable {s : State} {id : ClaimId} {c : Claim}

/-- A claim with a first READY entry keeps its expiry when it is handed back. -/
theorem State.handBack_open (hc : s.claim? id = some c) (ready : c.firstReady ≠ none) :
    ∃ d, (s.handBack id).claim? id = some d ∧ d.expiry = c.expiry := by
  simp only [State.handBack, hc]
  cases on : c.takeBay with
  | none =>
    refine ⟨{ c with state := .waiting, projected := none }, ?_, rfl⟩
    dsimp only
    rw [Trading.claim? (by exact fun _ => ⟨rfl, nofun⟩), if_pos rfl, hc]
    rfl
  | some b =>
    dsimp only
    cases (s.bay b).lossFor c.cls with
    | some cause =>
      have matched : (s.modClaim id (fun c => { c with state := .matched })).claim? id
          = some { c with state := .matched } := by
        rw [Trading.claim? (by exact fun _ => ⟨rfl, nofun⟩), if_pos rfl, hc]
        rfl
      exact ⟨_, (State.unmatch_claim? matched on cause id).trans (if_pos rfl), rfl⟩
    | none =>
      dsimp only
      split
      · obtain ⟨f, -, expiry, hf⟩ := State.enterReady_open hc b
        exact ⟨f c, hf, expiry ready c⟩
      · exact ⟨{ c with state := .matched }, by rw [State.fallUnready_claim?, if_pos rfl, hc]; rfl, rfl⟩

theorem State.expireIfDue_open (hc : s.claim? id = some c) (h : s.clock.time < c.expiry) : s.expireIfDue id = s := by
  simp only [State.expireIfDue, hc]
  exact if_neg fun k => Nat.not_le_of_lt h k.1

end

theorem State.ending_inner (s : State) (x : ExNo) (e : Exchange) (o : Outcome) (locks : List BayNo)
    (watch : Option BayNo) : s.inner (s.ending x e o locks watch) :=
  State.inner_notify (State.inner_setExch (State.inner_placeWatch (State.inner_clearRole (State.inner_clearRole
    (State.inner_foldl (fun t b => State.inner_queueLock t.inner_refl b) locks s.inner_refl) e.intake) e.take) watch _)
    x none) _ _ _ _

/-! ### The credited claim -/

/-- A claim with a pack credited to it (R57). -/
def Claim.credited (c : Claim) (id : PackId) : Claim := { c with returned := some id }

/-- The state in which an exchange goes on to the take: the pack id credited to its claim. -/
structure State.credited (s : State) (b : BayNo) (x : ExNo) (e : Exchange) (c : Claim) (id : PackId) (q : State) :
    Prop where
  exch : q.exch x = some e
  role : (q.bay b).role = .intake x
  claim : q.claim? e.claim = some (c.credited id)
  claims : q.book.claims = s.book.claims.map (fun k => if k.id = e.claim then k.credited id else k)
  others : ∀ n, n ≠ b → q.bay n = s.bay n
  links : ∀ n, (s.bay n).link ≠ .lost → (q.bay n).link ≠ .lost
  clock : q.clock = s.clock
  params : q.params = s.params

/-- The exchange over, and its claim, credited, handed back. -/
structure State.creditEnded (s : State) (b : BayNo) (x : ExNo) (e : Exchange) (c : Claim) (id : PackId) (t : State) :
    Prop where
  exch : t.exch x = none
  role : (t.bay b).role = .none
  claim : ∀ d, t.claim? e.claim = some d → d.returned = some id ∧ d.state ≠ .swapping
  stays : c.firstReady ≠ none → s.clock.time < c.expiry → (t.claim? e.claim).isSome = true

/-- The take begun on a bay, the claim credited. -/
structure State.takes (s : State) (b : BayNo) (x : ExNo) (e : Exchange) (d : Claim) (n : BayNo) (t : State) : Prop where
  exch : t.exch x = some { e with phase := .takeOpen, take := some n, deadline := 60, relink := false }
  role : (t.bay b).role = .intake x
  claim : t.claim? e.claim = some d
  swapping : d.state = .swapping
  unlock : (s.bay n).link ≠ .lost → t.queued n .unlock

theorem State.takes_settle {s : State} {b : BayNo} {x : ExNo} {e : Exchange} {d : Claim} {n : BayNo} {t : State}
    (h : s.takes b x e d n t) : s.takes b x e d n t.settle := by
  have quiet := State.settle_quiet t
  exact {
    exch := (State.still_exch quiet.still x).trans h.exch
    role := (quiet.still.roles b).trans h.role
    claim := quiet.swaps _ _ h.claim h.swapping
    swapping := h.swapping
    unlock := fun k => (State.still_queued quiet.still rfl).mpr (h.unlock k) }

section
variable {s q : State} {b : BayNo} {x : ExNo} {e : Exchange} {c : Claim} {id : PackId}
  (h : s.credited b x e c id q)
include h

theorem State.credited_ends (hb : e.intake = some b) {o : Outcome} (ho : o.handsBack = true) :
    s.creditEnded b x e c id (q.endExchange x o [] [] none).settle := by
  set u := q.endExchange x o [] [] none with hu
  obtain ⟨exch, roles, -, -, free⟩ := State.endExchange_spec h.exch o [] none
  obtain ⟨-, -, -, -, -, book, -⟩ := q.ending_spec x e o [] none
  have ending := q.ending_inner x e o [] none
  set w := q.ending x e o [] none with hw
  have quiet := State.settle_quiet u
  have K := keptByArrival_terms w
  have terms : w.termsKept u.settle := K.toTrade.toMatch.settle
    (State.endExchange_kept K.toTrade.toMatch h.exch w.termsKept_refl)
  have claim : w.claim? e.claim = some (c.credited id) := (State.claim?_of_book book _).trans h.claim
  refine ⟨(State.still_exch quiet.still x).trans ((exch x).trans (if_pos rfl)),
    (quiet.still.roles b).trans ((roles b).trans (if_pos (.inl hb))), fun d hd => ?_, fun ready early => ?_⟩
  · obtain ⟨c', hc', same, -⟩ := terms e.claim d hd
    obtain rfl := Option.some.inj (hc'.symm.trans claim)
    exact ⟨congrArg (fun k => k.2.2.2.2.2.2.2.2) same,
      (keptByArrival_notSwapping e.claim).toTrade.toMatch.settle (free ho) d hd⟩
  · obtain ⟨d, hd, expiry⟩ := State.handBack_open claim ready
    have clock : (w.handBack e.claim).clock = s.clock :=
      (State.inner_clock (State.inner_handBack ending _)).trans h.clock
    have stands : u.claim? e.claim = some d := by
      rw [hu, State.endExchange_eq h.exch, if_pos ho, State.wantPass_claim?,
        State.expireIfDue_open hd (by rw [clock, expiry]; exact early), hd]
    obtain ⟨d', hd', -⟩ := State.settle_claim_stays stands
    rw [hd']
    rfl

theorem State.credited_takes (hs : c.state = .swapping) {n : BayNo} (hn : e.take = some n) :
    s.takes b x e (c.credited id) n (q.enterTakeOpen x n).settle := by
  have phase := State.enterPhase_exch ((State.queueUnlock_exch q n x).trans h.exch) .takeOpen x
  refine State.takes_settle ⟨?_, ?_, ?_, hs, fun k => ?_⟩
  · rw [← hn]
    exact phase.trans (if_pos rfl)
  · rw [State.enterTakeOpen, State.enterPhase_bay, State.queueUnlock_bay, ← h.role]
    split
    · next e => rw [e]
    · rfl
  · exact (State.claim?_of_book ((State.enterPhase_book _ _ _).trans (q.queueUnlock_book n)) _).trans h.claim
  · rw [State.queued, State.enterTakeOpen, State.enterPhase_bus]
    exact State.queueUnlock_queued (h.links n k)

/-- The take begun on another bay than was reserved: the claim bound to it, CLAIM-MATCHED with REPLACEMENT (R73). -/
theorem State.credited_retaken (hs : c.state = .swapping) {n : BayNo} (hn : n ≠ b) :
    let t := q.retaken x e.claim n
    s.takes b x e ((c.credited id).bound n) n t ∧ (t.bay n).role = .take x ∧ (t.bay n).matched = some e.claim
      ∧ t.sent .gateway (s.notice .claimMatched (.claim e.claim) 4 (bayNumber n)) := by
  set k := q.bindClaim e.claim n .replacement with hk
  set m := k.modExch x (fun e => { e with take := some n }) with hm
  set r := m.setRole n (.take x) with hr
  set l := r.queueUnlock n with hl
  have swaps : ((c.credited id).bound n).state = .swapping := if_pos hs
  have kstill : q.still k := (keptByMatch_still q).bindClaim q.still_refl e.claim n .replacement
  have kinner : q.inner k := State.inner_bindClaim q.inner_refl e.claim n .replacement
  have rinner : k.inner r := State.inner_setRole (State.inner_modExch k.inner_refl x _) n (.take x)
  have linner : k.inner (l.enterPhase x .takeOpen) :=
    State.inner_enterPhase (State.inner_queueUnlock rinner n) x .takeOpen
  obtain ⟨matched, told⟩ := q.bound_rest e.claim n .replacement
  have kmatched : (k.bay n).matched = some e.claim := by
    rw [hk, State.bindClaim_eq, State.retest_bay]
    exact matched
  have ktold : k.sent .gateway (s.notice .claimMatched (.claim e.claim) 4 (bayNumber n)) := by
    rw [← State.notice_of_clock h.clock, hk, State.bindClaim_eq]
    exact State.inner_sent (State.inner_retest (State.inner_refl _) e.claim) told
  have kclaim : k.claim? e.claim = some ((c.credited id).bound n) := by
    have bound : (q.bound e.claim n .replacement).claim? e.claim = some ((c.credited id).bound n) := by
      rw [State.bound_claim?, if_pos rfl, h.claim]
      rfl
    rw [hk, State.bindClaim_eq]
    exact State.retest_swapKept _ e.claim _ _ bound swaps
  have lexch : l.exch x = some { e with take := some n } := by
    rw [hl, State.queueUnlock_exch, hr, State.setRole_exch, hm, State.modExch_exch, if_pos rfl, State.still_exch kstill,
      h.exch]
    rfl
  have lself : (l.bay n).role = .take x ∧ (l.bay n).matched = some e.claim := by
    obtain ⟨-, rmatched, -⟩ := m.setRole_rest n (.take x) n
    rw [hl, State.queueUnlock_bay, if_pos rfl]
    dsimp only
    exact ⟨by rw [hr, State.setRole_role, if_pos rfl], by rw [hr, rmatched, hm, State.modExch_bay, kmatched]⟩
  have lother : (l.bay b).role = .intake x := by
    rw [hl, State.queueUnlock_bay, if_neg hn.symm, hr, State.setRole_role, if_neg hn.symm, hm, State.modExch_bay,
      kstill.roles, h.role]
  have lbook : l.book = k.book := (State.queueUnlock_book _ _).trans (State.edit_book _ _ _)
  have reach : (s.bay n).link ≠ .lost → (r.bay n).link ≠ .lost := fun live => by
    obtain ⟨-, -, -, link⟩ := State.inner_reads (State.inner_trans kinner rinner) n
    rw [link]
    exact h.links n live
  have equeued : ∀ a d, (l.enterPhase x .takeOpen).queued a d ↔ l.queued a d := fun a d => by
    rw [State.queued, State.queued, State.enterPhase_bus]
  have begun : s.takes b x e ((c.credited id).bound n) n (l.enterPhase x .takeOpen) := {
    exch := (State.enterPhase_exch lexch .takeOpen x).trans (if_pos rfl)
    role := (congrArg Bay.role (State.enterPhase_bay l x .takeOpen b)).trans lother
    claim := (State.claim?_of_book ((State.enterPhase_book l x .takeOpen).trans lbook) _).trans kclaim
    swapping := swaps
    unlock := fun live => (equeued n .unlock).mpr (State.queueUnlock_queued (reach live)) }
  have whole : q.retaken x e.claim n = l.enterPhase x .takeOpen := rfl
  dsimp only
  rw [whole]
  exact ⟨begun, (congrArg Bay.role (State.enterPhase_bay l x .takeOpen n)).trans lself.1,
    (congrArg Bay.matched (State.enterPhase_bay l x .takeOpen n)).trans lself.2, State.inner_sent linner ktold⟩

theorem State.credited_retakes (hs : c.state = .swapping) {n : BayNo} (hn : n ≠ b) :
    let t := (q.retaken x e.claim n).settle
    s.takes b x e ((c.credited id).bound n) n t ∧ (t.bay n).role = .take x ∧ (t.bay n).matched = some e.claim
      ∧ t.sent .gateway (s.notice .claimMatched (.claim e.claim) 4 (bayNumber n)) := by
  obtain ⟨begun, role, matched, told⟩ := State.credited_retaken h hs hn
  generalize q.retaken x e.claim n = t at *
  have bay : t.settle.bay n = t.bay n := (t.settle_passesBy (Bay.unfit_of_role (by rw [role]; exact nofun))).1
  dsimp only
  rw [bay]
  exact ⟨State.takes_settle begun, role, matched, State.inner_sent (State.inner_settle t.inner_refl) told⟩

end

end Sys2Proof.Machine
end

section
/-! The identity of a pack in the intake bay of an exchange in INTAKE-CHECK (R25, R57, R73, R116, R117, R127). -/

open Sys2Proof Sys2Proof.Machine
namespace Sys2Proof.Machine

/-! ### The search with the credited claim -/

section
variable {s q : State} {b : BayNo} {x : ExNo} {e : Exchange} {c : Claim} {id : PackId}
  (h : s.credited b x e c id q) (hr : (s.bay b).role = .intake x)
include h hr

/-- The bays that fit are those that did: the intake bay fits neither before nor after. -/
theorem State.credited_fit (n : BayNo) : (q.bay n).fitFor (c.credited id) ↔ (s.bay n).fitFor c ∧ q.bay n = s.bay n := by
  by_cases hn : n = b
  · rw [hn]
    exact iff_of_false (Bay.not_fit_of_unfit (Bay.unfit_of_role (by rw [h.role]; exact nofun)) _)
      fun k => Bay.not_fit_of_unfit (Bay.unfit_of_role (by rw [hr]; exact nofun)) c k.1
  · rw [h.others n hn]
    exact (and_iff_left rfl).symm

omit hr in
theorem State.credited_across : q.across (c.credited id) ↔ s.across c := by
  have same : (c.credited id).id = c.id ∧ (c.credited id).due = c.due := ⟨rfl, rfl⟩
  unfold State.across
  rw [same.1, same.2, h.clock, h.params, h.claims]
  split
  · exact Iff.rfl
  · rw [List.forall_mem_map]
    refine forall₂_congr fun k _ => ?_
    split <;> exact Iff.rfl

theorem State.credited_finds_none (hn : ∀ n, (s.bay n).fitFor c → (s.bay n).bsection ≠ c.own ∧ ¬s.across c) :
    q.findReplacement (c.credited id) = none := by
  refine State.findReplacement_none fun n fit => ?_
  obtain ⟨was, same⟩ := (State.credited_fit h hr n).mp fit
  rw [State.credited_across h, same]
  exact hn n was

theorem State.credited_finds_some {n : BayNo} (hn : (s.bay n).fitFor c)
    (hsec : (s.bay n).bsection = c.own ∨ (s.across c ∧ ∀ m, (s.bay m).fitFor c → (s.bay m).bsection ≠ c.own))
    (hbest : ∀ m, (s.bay m).fitFor c → (s.bay m).bsection = (s.bay n).bsection → s.noWorse n m) :
    n ≠ b ∧ q.findReplacement (c.credited id) = some n := by
  have other : n ≠ b := by
    rintro rfl
    exact Bay.not_fit_of_unfit (Bay.unfit_of_role (by rw [hr]; exact nofun)) c hn
  have keep := h.others n other
  refine ⟨other, State.findReplacement_some ((State.credited_fit h hr n).mpr ⟨hn, keep⟩) ?_ fun m fit sec => ?_⟩
  · rw [keep, State.credited_across h]
    refine hsec.imp_right fun k => ⟨k.1, fun m fit => ?_⟩
    obtain ⟨was, same⟩ := (State.credited_fit h hr m).mp fit
    rw [same]
    exact k.2 m was
  · obtain ⟨was, same⟩ := (State.credited_fit h hr m).mp fit
    rw [same, keep] at sec
    unfold State.noWorse
    rw [same, keep]
    exact hbest m was sec

end

/-! ### The result of an intake bay -/

theorem State.intakeResult_check {s : State} {b : BayNo} {x : ExNo} {e : Exchange} (hr : (s.bay b).role = .intake x)
    (he : s.exch x = some e) (hp : e.phase = .intakeCheck) (id : PackId) :
    s.intakeResult b id
      = let q := s.modClaim e.claim (Claim.credited · id)
        if e.abort then q.endExchange x .aborted [] [] none else q.takeNeeded x e := by
  simp only [State.intakeResult, hr, he, hp, if_true]
  rfl

section
variable {s : State} {x : ExNo} {e : Exchange} {c : Claim}

theorem State.takeNeeded_some (hc : s.claim? e.claim = some c) {n : BayNo} (hn : e.take = some n) :
    s.takeNeeded x e = if (s.bay n).readyFor c.level then s.enterTakeOpen x n else s.endExchange x .noPack [] [] none := by
  simp only [State.takeNeeded, hc, hn]

theorem State.takeNeeded_none (hc : s.claim? e.claim = some c) (hn : e.take = none) :
    s.takeNeeded x e = s.seekReplacement x e.claim := by
  simp only [State.takeNeeded, hc, hn]

end

theorem State.away_intakeResult {y : ExNo} {b : BayNo} {s t : State} (h : State.away y b s t) (id : PackId) :
    State.away y b s (t.intakeResult b id) := by
  unfold State.intakeResult
  split
  · next x hr =>
    have hx : y ≠ x := State.away_intake h hr
    split
    · exact h
    · next e _ =>
      have credited : State.away y b s (t.modClaim e.claim (fun c => { c with returned := some id })) := h
      split
      · dsimp only
        split
        · exact State.away_endExchange credited hx _ _ _
        · unfold State.takeNeeded
          split
          · exact credited
          · split
            · exact kept_ite (P := State.away y b s) (State.away_enterPhase (State.away_queueUnlock credited _) hx _)
                (State.away_endExchange credited hx _ _ _)
            · exact State.away_seekReplacement credited hx _
      · exact h
  · exact h

/-- An intake bay that waits for the identity of its pack, and its exchange. -/
structure IntakeCheck (s : State) (b : BayNo) (x : ExNo) (e : Exchange) (c : Claim) : Prop where
  role : (s.bay b).role = .intake x
  exch : s.exch x = some e
  phase : e.phase = .intakeCheck
  intake : e.intake = some b
  take : e.take ≠ some b
  claim : s.claim? e.claim = some c
  swapping : c.state = .swapping
  matched : (s.bay b).matched = none

section
variable {s : State} {b : BayNo} {a : Admission} {rep : ShortReport} {x : ExNo} {e : Exchange} {c : Claim} {i : Identity}
  (h : IdentifyReport s b a rep) (hk : IntakeCheck s b x e c)
include h hk

theorem IntakeCheck.refused (hi : classOf i.capacity = none) :
    let t := ((s.reportTaken b rep).acceptIdentity b a i rep).settle
    (t.bay b).cause = some .packError
      ∧ t.exch x = some { e with phase := .returnRejected, deadline := 60, relink := false } ∧ t.claim? e.claim = some c := by
  obtain ⟨-, -, cause, link, -⟩ := h.record
  have inside := s.reportTaken_within b rep
  set v := s.reportTaken b rep with hv
  have rejected : s.rejected b x e (v.raiseFault b .packError 3 false) :=
    State.raiseFault_rejects hk.role inside.role ((State.within_exch inside x).trans hk.exch) (.inr hk.phase)
      (by rw [link]; exact nofun) (s.reportTaken_clock b rep) (State.swapKept_of_book s.swapKept_refl inside.book) cause
      (by exact nofun) 3
  obtain ⟨-, cause', -⟩ := State.raiseFault_fresh cause .packError 3 false
  set u := v.raiseFault b .packError 3 false with hu
  have quiet := State.settle_quiet u
  obtain ⟨-, kept, -⟩ := Bay.calm_fields (((keptByTrade_calm u).toMatch.settle u.calmSame_refl).1 b)
  dsimp only
  rw [State.acceptIdentity_none hi]
  exact ⟨kept.trans cause', (State.still_exch quiet.still x).trans rejected.phase.exch,
    quiet.swaps _ _ (rejected.swaps _ _ hk.claim hk.swapping) hk.swapping⟩

/-- The result writes no more than the bay's own record. -/
theorem IntakeCheck.resulted (p : Pack) (resolved : Option Profile) :
    s.within b ((s.reportTaken b rep).resulted b p resolved)
      ∧ (s.reportTaken b rep).inner ((s.reportTaken b rep).resulted b p resolved) := by
  obtain ⟨-, -, cause, -⟩ := h.record
  have inside := s.reportTaken_within b rep
  have free := inside.matched.trans hk.matched
  have recorded := (s.reportTaken b rep).recorded_within b p resolved
  have reports := State.resulted_reports cause (p := p) (resolved := resolved) (.inl free)
  rw [State.holdTest_free (recorded.matched.trans free)] at reports
  exact ⟨(keptByBay_within b s).reportedFrom reports (State.within_trans inside recorded),
    State.inner_trans (State.recorded_inner _ b p resolved) (State.reportedFrom_inner reports)⟩

/-- The state in which the exchange goes on, and how it goes on. -/
theorem IntakeCheck.accepted (hp : (s.bay b).pack = none) {cls : PackClass} (hi : classOf i.capacity = some cls) :
    ∃ q, s.credited b x e c i.packId q
      ∧ (s.reportTaken b rep).acceptIdentity b a i rep
        = if e.abort then q.endExchange x .aborted [] [] none else q.takeNeeded x e := by
  obtain ⟨-, -, -, link, -⟩ := h.record
  set v := s.reportTaken b rep with hv
  have none : (s.bay b).otherPack i = false := by simp only [Bay.otherPack, hp]
  have same : v.settleOther b a i = v := State.settleOther_same (.inl ((h.otherPack i).trans none))
  obtain ⟨inside, inner⟩ := IntakeCheck.resulted h hk (identityRecord i cls rep ((v.bay b).resolved i)) ((v.bay b).resolved i)
  set u := v.resulted b (identityRecord i cls rep ((v.bay b).resolved i)) ((v.bay b).resolved i) with hu
  have exch := (State.within_exch inside x).trans hk.exch
  refine ⟨u.modClaim e.claim (Claim.credited · i.packId), ?_, ?_⟩
  · exact {
      exch := by rw [State.modClaim_exch, exch]
      role := by rw [State.modClaim_bay, inside.role, hk.role]
      claim := by
        rw [State.modClaim_claim? _ _ _ (by exact fun _ k => k), if_pos rfl, State.within_claim? inside, hk.claim]
        rfl
      claims := by rw [State.modClaim_claims, inside.book]
      others := inside.others
      links := fun n live => by
        by_cases hn : n = b
        · rw [hn, State.modClaim_bay, (State.inner_reads inner b).2.2.2, link]
          exact nofun
        · rw [State.modClaim_bay, inside.others n hn]
          exact live
      clock := by rw [State.modClaim_clock, State.inner_clock inner, s.reportTaken_clock b rep]
      params := by rw [State.modClaim_params, State.inner_params inner, s.reportTaken_params b rep] }
  · rw [State.acceptIdentity_some hi, same]
    exact State.intakeResult_check (inside.role.trans hk.role) exch hk.phase i.packId

/-- No other exchange moves. -/
theorem IntakeCheck.away (hp : (s.bay b).pack = none) {y : ExNo} (hy : y ≠ x) :
    (((s.reportTaken b rep).acceptIdentity b a i rep).settle).exch y = s.exch y := by
  have inside := s.reportTaken_within b rep
  have start : State.away y b s (s.reportTaken b rep) := ⟨State.within_exch inside y, by
    rw [inside.role, hk.role]
    exact fun k => hy (Option.some.inj k).symm⟩
  suffices State.away y b s ((s.reportTaken b rep).acceptIdentity b a i rep) from
    (State.still_exch (State.settle_quiet _).still y).trans this.1
  cases hi : classOf i.capacity with
  | none =>
    rw [State.acceptIdentity_none hi]
    exact State.away_raiseFault start _ _ _
  | some cls =>
    have none : (s.bay b).otherPack i = false := by simp only [Bay.otherPack, hp]
    have same : (s.reportTaken b rep).settleOther b a i = s.reportTaken b rep :=
      State.settleOther_same (.inl ((h.otherPack i).trans none))
    rw [State.acceptIdentity_some hi, same]
    obtain ⟨within, -⟩ := IntakeCheck.resulted h hk (identityRecord i cls rep (((s.reportTaken b rep).bay b).resolved i))
      (((s.reportTaken b rep).bay b).resolved i)
    exact State.away_intakeResult ⟨State.within_exch within y, by rw [within.role, ← inside.role]; exact start.2⟩ _

end

end Sys2Proof.Machine
end

section
/-! O24: the identity that answers an admission's IDENTIFY. -/

open Sys2Proof Sys2Proof.Machine
namespace Sys2Proof.Machine

/-! ### The exchange at the result -/

section
variable {s : State} {b : BayNo} {a : Admission} {rep : ShortReport} {x : ExNo} {e : Exchange} {c : Claim} {i : Identity}
  (h : IdentifyReport s b a rep) (hk : IntakeCheck s b x e c) (hp : (s.bay b).pack = none) {cls : PackClass}
  (hi : classOf i.capacity = some cls)
include h hk hp hi

/-- An exchange with an abort waiting, or without a take bay that passes the READY test (R117, R127). -/
theorem IntakeCheck.ends
    (stop : e.abort = true ∨ (∃ n, e.take = some n ∧ (s.bay n).readyFor c.level = false)
      ∨ (e.take = none ∧ ∀ n, (s.bay n).fitFor c → (s.bay n).bsection ≠ c.own ∧ ¬s.across c)) :
    s.creditEnded b x e c i.packId ((s.reportTaken b rep).acceptIdentity b a i rep).settle := by
  obtain ⟨q, credited, goes⟩ := hk.accepted h hp hi
  rw [goes]
  split
  · exact State.credited_ends credited hk.intake rfl
  · next ha =>
    obtain stop | ⟨n, hn, unready⟩ | ⟨hn, none⟩ := stop
    · exact absurd stop ha
    · have other : n ≠ b := fun k => hk.take (k ▸ hn)
      have fails : ¬(q.bay n).readyFor (c.credited i.packId).level = true := by
        rw [credited.others n other]
        exact Bool.eq_false_iff.mp unready
      rw [State.takeNeeded_some credited.claim hn, if_neg fails]
      exact State.credited_ends credited hk.intake rfl
    · rw [State.takeNeeded_none credited.claim hn,
        State.seekReplacement_none credited.claim (State.credited_finds_none credited hk.role none)]
      exact State.credited_ends credited hk.intake rfl

/-- TAKE-OPEN on the reserved take bay (R117). -/
theorem IntakeCheck.takes (ha : e.abort = false) {n : BayNo} (hn : e.take = some n)
    (ready : (s.bay n).readyFor c.level = true) :
    s.takes b x e (c.credited i.packId) n ((s.reportTaken b rep).acceptIdentity b a i rep).settle := by
  obtain ⟨q, credited, goes⟩ := hk.accepted h hp hi
  have other : n ≠ b := fun k => hk.take (k ▸ hn)
  have passes : (q.bay n).readyFor (c.credited i.packId).level = true := by
    rw [credited.others n other]
    exact ready
  rw [goes, ha, if_neg Bool.false_ne_true, State.takeNeeded_some credited.claim hn, if_pos passes]
  exact State.credited_takes credited hk.swapping hn

/-- TAKE-OPEN on the replacement that R73 picks. -/
theorem IntakeCheck.retakes (ha : e.abort = false) (ht : e.take = none) {n : BayNo} (hn : (s.bay n).fitFor c)
    (hsec : (s.bay n).bsection = c.own ∨ (s.across c ∧ ∀ m, (s.bay m).fitFor c → (s.bay m).bsection ≠ c.own))
    (hbest : ∀ m, (s.bay m).fitFor c → (s.bay m).bsection = (s.bay n).bsection → s.noWorse n m) :
    let t := ((s.reportTaken b rep).acceptIdentity b a i rep).settle
    s.takes b x e ((c.credited i.packId).bound n) n t ∧ (t.bay n).role = .take x ∧ (t.bay n).matched = some e.claim
      ∧ t.sent .gateway (s.notice .claimMatched (.claim e.claim) 4 (bayNumber n)) := by
  obtain ⟨q, credited, goes⟩ := hk.accepted h hp hi
  obtain ⟨other, found⟩ := State.credited_finds_some credited hk.role hn hsec hbest
  rw [goes, ha, if_neg Bool.false_ne_true, State.takeNeeded_none credited.claim ht,
    State.seekReplacement_some credited.claim found]
  exact State.credited_retakes credited hk.swapping other

end

/-! ### The ceiling and the record in the statement's words -/

theorem Bay.otherPack_some {r : Bay} {q : Pack} (h : r.pack = some q) (i : Identity) :
    r.otherPack i = true ↔ q.id ≠ i.packId := by
  simp [Bay.otherPack, h]

theorem Bay.ceilingFor_some {r : Bay} {q : Pack} (h : r.pack = some q) (a : Admission) (i : Identity) :
    r.ceilingFor a i = if a.cause = .faultClear ∧ q.id ≠ i.packId then none else r.ceiling := by
  simp only [Bay.ceilingFor, Bay.otherPack_some h]

theorem Bay.resolvedFor_insertion {a : Admission} (h : a.cause = .insertion) (r : Bay) (i : Identity) :
    r.resolvedFor a i = resolveProfile i.abilities r.inForce i.health r.ceiling := by
  rw [Bay.resolvedFor, Bay.ceilingFor, if_neg]
  rw [h]
  exact fun k => nomatch k.1

theorem State.pairs_of {s : State} {b : BayNo} {c : Claim}
    (h : (s.bay b).matched = some c.id ∧ s.claim? c.id = some c ∧ c.takeBay = some b ∧ (c.state = .matched ∨ c.state = .ready)) :
    s.pairs b c := by
  obtain ⟨matched, claim, bay, state⟩ := h
  exact ⟨matched, claim, bay, state⟩

theorem IdentifyReport.executed {s : State} {b : BayNo} {a : Admission} {rep : ShortReport} (h : IdentifyReport s b a rep)
    (hx : s.unfollowed b) {attempts : Nat} {held : Bool}
    (hf : s.bus.flight = some (.command { bay := b, cmd := .identify a.number, attempts := attempts } held)) (i : Identity) :
    exec (.bayReply true (BitVec.ofNat 8 (bayNumber b)) rep (.identity i)) s
      = .next ((s.reportTaken b rep).acceptIdentity b a i rep).settle :=
  (exec_bayReply hf rfl rep (.identity i)).trans (congrArg Host.Outcome.next (h.replied hx attempts held i))

/-- A bay without a match has none at the result. -/
theorem State.judgedAs_free {s : State} {b : BayNo} (free : (s.bay b).matched = none) (a : Admission)
    (rep : ShortReport) (i : Identity) :
    ((s.judgedAs b a rep i).bay b).matched = none := by
  have taken := (s.reportTaken_within b rep).matched.trans free
  rw [State.judgedAs]
  by_cases k : a.cause = .restart ∧ ((s.reportTaken b rep).bay b).otherPack i = true
  · rw [State.settleOther_restart k.2 k.1, State.loseMatch_free taken, taken]
  · rw [(State.settleOther_within k).1.matched, taken]

/-- Settles O24: the reply is the identity's acceptance after its report; the record and the result, the match by the new
record, and the exchange with the credited claim are each followed to the arrival's end. -/
theorem identityMakesRecord : Obligations.IdentityMakesRecord := by
  unfold Obligations.IdentityMakesRecord
  intro s b a i rep attempts held hf link state admission cause sensed door count restart fault temp
  have h : IdentifyReport s b a rep := ⟨link, state, admission, cause, sensed, door, count, restart, fault, temp⟩
  refine ⟨fun ha hm hp => ⟨fun hr => ?_, fun x e c hr he hph hin htake hc hs => ?_⟩, fun q ha hr hq => ?_⟩
  case refine_1 =>
    refine ⟨_, h.executed (State.unfollowed_none hr) hf i, ?_, fun out => ?_, fun low high => ?_⟩
    · cases hi : classOf i.capacity with
      | none => exact (h.refused hr hi).2.2.2.1
      | some cls =>
        rw [h.accepted hr i cls hi]
        exact (h.resulted_record hr i cls).1
    · obtain ⟨state, cause, pack, -⟩ := h.refused hr (classOf_none out)
      exact ⟨state, cause, pack⟩
    · rw [h.accepted hr i _ (classOf_some low high)]
      dsimp only
      rw [← newPack_cool temp, ← Bay.resolvedFor_insertion ha]
      set cls : PackClass := if i.capacity ≤ 1600 then .s else if i.capacity ≤ 2800 then .m else .l
      obtain ⟨-, -, -, pack, -, retire, unresolved⟩ := h.resulted_record hr i cls
      refine ⟨pack, retire, unresolved, fun sound found noClaims => ?_⟩
      exact (h.resulted_alone hr i cls (State.judgedAs_free hm a rep i) (by rw [noClaims]; exact fun _ k => nomatch k)).2 sound found
  case refine_2 =>
    have hk : IntakeCheck s b x e c := ⟨hr, he, hph, hin, htake, hc, hs, hm⟩
    refine ⟨_, h.executed (State.unfollowed_intakeCheck hr he hph) hf i, fun y hy => hk.away h hp hy, fun out => ?_,
      fun low high => ?_⟩
    · obtain ⟨cause, exch, claim⟩ := hk.refused h (classOf_none out)
      exact ⟨cause, exch, c, claim, rfl, hs⟩
    · have hi := classOf_some low high
      have ended := fun stop => hk.ends h hp hi stop
      refine ⟨fun abort => ?_, fun n ha hn ready => ?_, fun n ha hn unready => ?_, fun ha hn => ⟨fun none => ?_,
        fun n fit hsec hbest => ?_⟩⟩
      · obtain ⟨exch, role, claim, stays⟩ := ended (.inl abort)
        exact ⟨exch, role, claim, fun _ => stays⟩
      · obtain ⟨exch, role, claim, swapping, unlock⟩ := hk.takes h hp hi ha hn ready
        exact ⟨role, exch, ⟨_, claim, rfl, swapping⟩, unlock⟩
      · obtain ⟨exch, role, claim, stays⟩ := ended (.inr (.inl ⟨n, hn, unready⟩))
        exact ⟨exch, role, claim, fun _ => stays⟩
      · obtain ⟨exch, role, claim, stays⟩ := ended (.inr (.inr ⟨hn, none⟩))
        exact ⟨exch, role, claim, fun _ => stays⟩
      · obtain ⟨⟨exch, role, claim, swapping, unlock⟩, takes, matched, told⟩ := hk.retakes h hp hi ha hn fit hsec hbest
        refine ⟨⟨role, exch, ⟨_, claim, rfl, swapping⟩, unlock⟩, takes, matched, fun d hd => ?_, told⟩
        rw [← Option.some.inj (claim.symm.trans hd)]
        rfl
  case refine_3 =>
    have other := Bay.otherPack_some hq i
    refine ⟨_, h.executed (State.unfollowed_none hr) hf i, ?_⟩
    cases hi : classOf i.capacity with
    | none =>
      obtain ⟨state, cause, pack, admission, inForce, exchanges, matches_⟩ := h.refused hr hi
      refine ⟨admission, inForce, exchanges, fun _ => ⟨state, cause, pack, fun c bound => matches_ c (State.pairs_of bound)⟩,
        fun low high => ?_⟩
      exact nomatch hi.symm.trans (classOf_some low high)
    | some cls =>
      rw [h.accepted hr i cls hi]
      obtain ⟨admission, inForce, exchanges, pack, ceiling, retire, unresolved⟩ := h.resulted_record hr i cls
      refine ⟨admission, inForce, exchanges, ?_, fun low high => ?_⟩
      · exact fun out => nomatch hi.symm.trans (classOf_none out)
      dsimp only
      rw [← Option.some.inj (hi.symm.trans (classOf_some low high)), ← newPack_cool temp, ← Bay.ceilingFor_some hq,
        ← Bay.resolvedFor]
      refine ⟨pack, ceiling, retire, unresolved, fun free => h.resulted_alone hr i cls (State.judgedAs_free free a rep i), fun c bound =>
        ⟨fun ha differs => ?_, fun keeps served => ?_⟩⟩
      · obtain ⟨told, free⟩ := h.resulted_other hr i cls (State.pairs_of bound) ha (other.mpr differs)
        exact ⟨told, h.resulted_alone hr i cls free⟩
      · refine h.resulted_held hr i cls (State.pairs_of bound) (fun k => ?_) served
        exact keeps.elim (fun ha => ha k.1) (fun same => other.mp k.2 same)

end Sys2Proof.Machine
end

section
/-! The claim book in order (R40, R41): the conditions on the list of claims, the changes that keep them, and every
operation of an arrival. -/

open Sys2Proof Sys2Proof.Machine
namespace Sys2Proof.Machine

/-! ### The list of claims -/

/-- Book order (R41): one claim may stand before another. -/
def Claim.notAfter (c d : Claim) : Prop := c.due < d.due ∨ (c.due = d.due ∧ c.seq ≤ d.seq)

/-- A claim list as the book holds it (R40, R41). -/
structure Booked (cs : List Claim) : Prop where
  room : cs.length ≤ 48
  names : (cs.map (fun c => c.id)).Nodup
  order : cs.Pairwise Claim.notAfter

theorem State.bookOk_iff (s : State) : s.bookOk ↔ s.passDue = false ∧ Booked s.book.claims :=
  ⟨fun ⟨pass, room, names, order⟩ => ⟨pass, room, names, order⟩, fun ⟨pass, h⟩ => ⟨pass, h.room, h.names, h.order⟩⟩

/-- Claims whose keys are among those of a book, in their order, form a book. -/
theorem Booked.of_keys {cs ds : List Claim} (h : Booked cs) (k : (ds.map Claim.key).Sublist (cs.map Claim.key)) :
    Booked ds where
  room := by simpa using k.length_le.trans (by simpa using h.room)
  names := by
    have ids : ∀ l : List Claim, l.map (fun c => c.id) = (l.map Claim.key).map Prod.fst := fun l => by
      rw [List.map_map]; rfl
    rw [ids]
    exact (ids cs ▸ h.names).sublist (k.map _)
  order := by
    have keys : ∀ l : List Claim, l.Pairwise Claim.notAfter
        ↔ (l.map Claim.key).Pairwise (fun k l => k.2.1 < l.2.1 ∨ (k.2.1 = l.2.1 ∧ k.2.2 ≤ l.2.2)) := fun l => by
      rw [List.pairwise_map]; rfl
    rw [keys]
    exact ((keys cs).mp h.order).sublist k

theorem Booked.filter {cs : List Claim} (h : Booked cs) (p : Claim → Bool) : Booked (cs.filter p) :=
  h.of_keys (List.filter_sublist.map _)

theorem Booked.map {cs : List Claim} (h : Booked cs) {f : Claim → Claim} (hf : ∀ c, (f c).key = c.key) :
    Booked (cs.map f) :=
  h.of_keys (by rw [List.map_map, show Claim.key ∘ f = Claim.key from funext hf])

/-! ### A claim put in its place -/

theorem insertClaim_perm (c : Claim) (cs : List Claim) : (insertClaim c cs).Perm (c :: cs) := by
  induction cs with
  | nil => exact .refl _
  | cons d ds ih =>
    rw [insertClaim]
    split
    · exact .refl _
    · exact (ih.cons d).trans (.swap c d ds)

theorem Claim.before_iff (c d : Claim) : c.before d = true ↔ c.due < d.due ∨ (c.due = d.due ∧ c.seq < d.seq) := by
  simp [Claim.before]

theorem insertClaim_order (c : Claim) {cs : List Claim} (h : cs.Pairwise Claim.notAfter) :
    (insertClaim c cs).Pairwise Claim.notAfter := by
  induction cs with
  | nil => exact List.pairwise_singleton _ _
  | cons d ds ih =>
    obtain ⟨hd, hds⟩ := List.pairwise_cons.mp h
    rw [insertClaim]
    split
    · next first =>
      rw [Claim.before_iff] at first
      refine List.pairwise_cons.mpr ⟨fun e he => ?_, h⟩
      rcases List.mem_cons.mp he with rfl | he
      · unfold Claim.notAfter; omega
      · have := hd e he
        unfold Claim.notAfter at this ⊢
        omega
    · next later =>
      rw [Claim.before_iff] at later
      refine List.pairwise_cons.mpr ⟨fun e he => ?_, ih hds⟩
      rcases List.mem_cons.mp ((insertClaim_perm c ds).mem_iff.mp he) with rfl | he
      · unfold Claim.notAfter; omega
      · exact hd e he

theorem Booked.insert {cs : List Claim} (h : Booked cs) (room : cs.length < 48) {c : Claim}
    (new : c.id ∉ cs.map (fun c => c.id)) : Booked (insertClaim c cs) where
  room := by rw [(insertClaim_perm c cs).length_eq]; exact room
  names := (((insertClaim_perm c cs).map _).nodup_iff).mpr (List.nodup_cons.mpr ⟨new, h.names⟩)
  order := insertClaim_order c h.order

theorem sortClaims_perm (cs : List Claim) : (sortClaims cs).Perm cs := by
  induction cs with
  | nil => exact .refl _
  | cons c cs ih => exact (insertClaim_perm c _).trans (ih.cons c)

theorem sortClaims_order (cs : List Claim) : (sortClaims cs).Pairwise Claim.notAfter := by
  induction cs with
  | nil => exact .nil
  | cons c cs ih => exact insertClaim_order c ih

/-- Claims that keep their names, put in book order afresh. -/
theorem Booked.sort {cs : List Claim} (h : Booked cs) {f : Claim → Claim} (hf : ∀ c, (f c).id = c.id) :
    Booked (sortClaims (cs.map f)) where
  room := by rw [(sortClaims_perm _).length_eq, List.length_map]; exact h.room
  names := by
    refine (((sortClaims_perm _).map _).nodup_iff).mpr ?_
    rw [List.map_map, show (fun c : Claim => c.id) ∘ f = fun c => c.id from funext hf]
    exact h.names
  order := sortClaims_order _

/-! ### The operations of an arrival -/

theorem Claim.key_of_terms {c d : Claim} (h : d.terms = c.terms) : d.key = c.key :=
  congrArg (fun x => (x.1, x.2.2.2.2.2.1, x.2.1)) h

theorem Booked.modClaim {s : State} (h : Booked s.book.claims) (id : ClaimId) {f : Claim → Claim}
    (hf : ∀ c, (f c).key = c.key) : Booked (s.modClaim id f).book.claims :=
  h.map fun c => by
    split
    · exact hf c
    · rfl

theorem keptByArrival_booked : KeptByArrival (fun t => Booked t.book.claims) where
  aside h k := by rw [k.book]; exact h
  claim hf h := h.modClaim _ fun c => Claim.key_of_terms (hf c).1
  close h := h.filter _
  record h := h
  queue h := by rw [State.queueCmd_book]; exact h
  identify h := h
  withdraw h := h

theorem Booked.inner {s t : State} (h : Booked s.book.claims) (k : s.inner t) : Booked t.book.claims := by
  obtain ⟨-, -, -, -, -, -, keys, -⟩ := k
  exact h.of_keys keys

/-- The end of an arrival owes no pass and leaves the book in order (R60, log entry 8). -/
theorem Booked.settle {s : State} (h : Booked s.book.claims) : s.settle.bookOk :=
  s.settle.bookOk_iff.mpr ⟨s.settle_passDue, keptByArrival_booked.toTrade.toMatch.settle h⟩

/-- A command that leaves the book and the mark of a pass as they were. -/
theorem State.bookOk_of {s t : State} (h : s.bookOk) (pass : t.passDue = s.passDue) (book : t.book = s.book) :
    t.bookOk := by
  rw [State.bookOk, pass, book]
  exact h

end Sys2Proof.Machine
end

section
/-! Every step keeps the claim book in order (O32): the commands that leave the book alone, those that go through the
operations of an arrival, and those that open, amend, cancel or shift claims. -/

open Sys2Proof Sys2Proof.Machine
namespace Sys2Proof.Machine

/-! ### Commands that leave the book and the mark of a pass alone -/

/-- The mark of a pass and the book are as they were. -/
def State.bookStill (s t : State) : Prop := t.passDue = s.passDue ∧ t.book = s.book

theorem State.bookStill.ok {s t : State} (k : s.bookStill t) (h : s.bookOk) : t.bookOk := State.bookOk_of h k.1 k.2

theorem State.bookStill_refl (s : State) : s.bookStill s := ⟨rfl, rfl⟩

section
variable {s t : State} (h : s.bookStill t)
include h

theorem State.bookStill.trans {u : State} (k : t.bookStill u) : s.bookStill u := ⟨k.1.trans h.1, k.2.trans h.2⟩

theorem State.bookStill.notify (k : NoticeKind) (u : Subject) (d v : Nat) : s.bookStill (t.notify k u d v) := h

theorem State.bookStill.wantReplan : s.bookStill t.wantReplan := h

theorem State.bookStill.modBus (f : Bus → Bus) : s.bookStill (t.modBus f) := h

theorem State.bookStill.faults (x : KioskFaults) : s.bookStill { t with faults := x } := h

theorem State.bookStill.cutAll : s.bookStill t.cutAll := by
  obtain ⟨e, -⟩ := t.cutAll_cutOnly
  exact h.trans ⟨(congrArg State.passDue e :), (congrArg State.book e :)⟩

theorem State.bookStill.recomputeUsable : s.bookStill t.recomputeUsable := by
  obtain ⟨-, e, -⟩ := t.recomputeUsable_spec
  exact h.trans ⟨(congrArg State.passDue e :), (congrArg State.book e :)⟩

theorem State.bookStill.recomputeReserve : s.bookStill t.recomputeReserve := by
  obtain ⟨e, -⟩ := t.recomputeReserve_spec
  exact h.trans ⟨(congrArg State.passDue e :), (congrArg State.book e :)⟩

theorem State.bookStill.recap (b : BayNo) : s.bookStill (t.recap b) := by
  unfold State.recap
  dsimp only
  split <;> exact h

theorem State.bookStill.feedCurrent : s.bookStill t.feedCurrent := by
  unfold State.feedCurrent
  split <;> exact h

theorem State.bookStill.feedTest : s.bookStill t.feedTest := by
  unfold State.feedTest
  split
  · exact h
  · split <;> exact h

end

theorem State.halt_bookStill (s : State) : s.bookStill s.halt := by
  have begun : s.bookStill (s.modGrants (fun g => { g with halt := true })) := ⟨rfl, rfl⟩
  unfold State.halt
  exact ((begun.cutAll.recomputeUsable.notify _ _ _ _).faults _).wantReplan

theorem State.resume_bookStill (s : State) : s.bookStill s.resume := by
  have begun : s.bookStill (s.modGrants (fun g => { g with halt := false })) := ⟨rfl, rfl⟩
  unfold State.resume
  exact ((begun.recomputeUsable.notify _ _ _ _).faults _).wantReplan

theorem State.goStale_bookStill (s : State) : s.bookStill s.goStale := by
  have begun : s.bookStill (s.modGrants (fun g => { g with feed := .stale, timer := none })) := ⟨rfl, rfl⟩
  unfold State.goStale
  split
  · exact ((begun.cutAll.recomputeUsable.notify _ _ _ _).faults _).wantReplan
  · exact s.bookStill_refl

theorem State.endAllWindows_bookStill (s : State) : s.bookStill s.endAllWindows := by
  unfold State.endAllWindows
  refine State.bookStill.recomputeReserve (kept_foldl (P := s.bookStill) (fun _ _ k => ?_) _ ⟨rfl, rfl⟩)
  exact k.notify _ _ _ _

theorem State.clearCounts_bookStill (s : State) : s.bookStill s.clearCounts := by
  unfold State.clearCounts
  refine State.bookStill.modBus (kept_foldl (P := s.bookStill) (fun _ _ k => ?_) _ s.bookStill_refl) _
  exact k

theorem State.putModule_bookStill (s : State) (m : ModNo) (x : Module) : s.bookStill (s.putModule m x) := by
  unfold State.putModule
  exact State.bookStill.wantReplan (kept_foldl (P := s.bookStill) (fun _ b k => k.recap b) _ ⟨rfl, rfl⟩)

/-- The end of a transaction and the arbiter's choice write the bus alone. -/
theorem State.dispatchBus_bookStill (s : State) : s.bookStill s.dispatchBus := by
  unfold State.dispatchBus
  split <;> exact ⟨rfl, rfl⟩

theorem State.endLockAll_bookStill (s : State) : s.bookStill s.endLockAll := by
  unfold State.endLockAll
  split <;> exact ⟨rfl, rfl⟩

theorem State.tickTimers_bookStill (s : State) : s.bookStill s.tickTimers :=
  kept_foldl (P := s.bookStill) (f := fun s x => s.modExch x Exchange.tick) (fun _ _ k => k) allExchanges
    s.bookStill_refl

/-! ### A change of kiosk time and of the parameters, by their operations -/

section
variable {P : State → Prop} {s : State}

/-- What follows the effective reserve in the hand-on of changed parameters (R158). -/
theorem State.handParams_after (resect : ∀ t b, P t → P (t.resection b)) (fill : ∀ t b, P t → P (t.fillTest b))
    (pass : ∀ t, P t → P t.wantPass) (h : P s.recomputeReserve) (old : Params) : P (s.handParams old) := by
  have sections : ∀ {t : State} {c : Prop} [Decidable c], P t →
      P (if c then t else (allBays.foldl State.resection t).wantPass) := fun k =>
    kept_ite k (pass _ (kept_foldl resect _ k))
  have fills : ∀ {t : State} {c : Prop} [Decidable c], P t → P (if c then t else allBays.foldl State.fillTest t) :=
    fun k => kept_ite k (kept_foldl fill _ k)
  exact kept_ite (fills (sections h)) (pass _ (fills (sections h)))

/-- What the hand-on of changed parameters is made of (R158). -/
theorem State.handParams_kept (reserve : ∀ t, P t → P t.recomputeReserve) (resect : ∀ t b, P t → P (t.resection b))
    (fill : ∀ t b, P t → P (t.fillTest b)) (pass : ∀ t, P t → P t.wantPass) (h : P s) (old : Params) :
    P (s.handParams old) :=
  State.handParams_after resect fill pass (reserve s h) old

/-- What the end of the windows whose time has come is made of (R162, R163). -/
theorem State.endDueWindows_kept (schedule : ∀ t f, P t → P (State.modSchedule t f))
    (say : ∀ t k u d v, P t → P (State.notify t k u d v)) (h : P s) : P s.endDueWindows :=
  kept_foldl (fun t _ => say t _ _ _ _) _ (schedule s _ h)

/-- What the run of the directives whose time has come is made of (R162). -/
theorem State.runDue_kept (schedule : ∀ t f, P t → P (State.modSchedule t f))
    (say : ∀ t k u d v, P t → P (State.notify t k u d v)) (write : ∀ (t : State) q, P t → P { t with params := q })
    (count : ∀ t n, P t → P (State.countTime t n)) (h : P s) : P s.runDue := by
  refine kept_foldl (fun t d k => ?_) _ (schedule s _ h)
  have said := say t .directiveRun (.directive d.number) (d.kind.code + 1) d.runValue k
  unfold State.runDirective
  refine kept_ite ?_ (write _ _ said)
  unfold State.startWindow
  exact kept_ite (say _ _ _ _ _ (count _ _ (schedule _ _ said))) (say _ _ _ _ _ said)

/-- What a schedule run is made of (R162). -/
theorem State.runSchedule_kept (schedule : ∀ t f, P t → P (State.modSchedule t f))
    (say : ∀ t k u d v, P t → P (State.notify t k u d v)) (write : ∀ (t : State) q, P t → P { t with params := q })
    (count : ∀ t n, P t → P (State.countTime t n)) (reserve : ∀ t, P t → P t.recomputeReserve)
    (resect : ∀ t b, P t → P (t.resection b)) (fill : ∀ t b, P t → P (t.fillTest b)) (pass : ∀ t, P t → P t.wantPass)
    (h : P s) : P s.runSchedule :=
  State.handParams_kept reserve resect fill pass
    (State.runDue_kept schedule say write count (State.endDueWindows_kept schedule say h)) _

theorem State.watchHorizon_kept (pass : ∀ t, P t → P t.wantPass) (h : P s) (was : Nat) : P (s.watchHorizon was) :=
  kept_ite (pass s h) h

end

/-! ### Commands that end with the READY tests and the pass -/

section
variable {s : State} (h : Booked s.book.claims)
include h

theorem Booked.changeService (b : BayNo) (v : Service) : Booked (s.changeService b v).book.claims := by
  have K := keptByArrival_booked
  have edited := (K.toBay b).edit (f := fun r => { r with service := v }) (by exact fun _ => rfl) h
  cases v with
  | inService => exact edited
  | outOfService => exact K.toTrade.loseMatch edited b .service

theorem Booked.rebandRow (row : RowNo) (b : BayNo) : Booked (State.rebandRow row s b).book.claims := by
  have K := keptByArrival_booked.toBay b
  unfold State.rebandRow
  split
  · exact h
  · split
    · split
      · exact K.recap h
      · exact h
    · exact K.rebandBay h

theorem Booked.putRow (i : RowNo) (r : DerateRow) : Booked (s.putRow i r).book.claims := by
  unfold State.putRow
  rw [State.wantReplan_book]
  exact kept_foldl (P := fun t => Booked t.book.claims) (fun _ b k => Booked.rebandRow k i b) _ h

theorem Booked.recomputeReserve : Booked s.recomputeReserve.book.claims := by
  rw [(s.bookStill_refl.recomputeReserve).2]
  exact h

theorem Booked.resection (b : BayNo) : Booked (s.resection b).book.claims :=
  (keptByArrival_booked.toBay b).edit (f := fun r => { r with bsection := sectionOf s.params.split b })
    (by exact fun _ => rfl) h

theorem Booked.fillTest (b : BayNo) : Booked (s.fillTest b).book.claims := (keptByArrival_booked.toBay b).fillTest h

/-- The parameters handed on: fill tests, sections and the reserve write no claim (R158). -/
theorem Booked.handParams (old : Params) : Booked (s.handParams old).book.claims :=
  State.handParams_kept (P := fun t => Booked t.book.claims) (fun _ k => k.recomputeReserve) (fun _ b k => k.resection b)
    (fun _ b k => k.fillTest b) (fun _ k => k) h old

theorem Booked.giveRole (r : Role) (b : Option BayNo) : Booked (s.giveRole r b).book.claims := by
  cases b with
  | none => exact h
  | some b => exact keptByArrival_booked.toTrade.setRole h b r

theorem Booked.startSwap (x : ExNo) (c : Claim) (intake : Option BayNo) :
    Booked (s.startSwap x c intake).book.claims := by
  have K := keptByArrival_booked.toTrade
  have swapping : ∀ e, Booked ((s.setExch x e).modClaim c.id (fun c => { c with state := .swapping })).book.claims :=
    fun e => Booked.modClaim (s := s.setExch x e) h c.id fun _ => rfl
  unfold State.startSwap
  dsimp only
  split
  · exact K.enterIntakeOpen (((swapping _).giveRole _ _).giveRole _ _) _ _ _
  · exact K.enterPhase (K.queueUnlock (((swapping _).giveRole _ _).giveRole _ _) _) _ _
  · exact ((swapping _).giveRole _ _).giveRole _ _

theorem Booked.loseLink (b : BayNo) : Booked (s.loseLink b).book.claims := by
  have K := keptByArrival_booked
  have unmatched : Booked (((s.changeLink b .lost).loseMatch b .link).modBus (fun u => u.dropBay b)).book.claims :=
    K.toTrade.loseMatch ((K.toBay b).changeLink h .lost) b .link
  exact K.toTrade.raiseLinkDown (K.toTrade.exchangeLinkLost ((K.toBay b).holdAdmission unmatched) b)

theorem Booked.unanswered (fl : Flight) (b : BayNo) : Booked (s.unanswered fl b).book.claims := by
  have missed : Booked (s.modBay b Bay.miss).book.claims := h
  generalize hm : s.modBay b Bay.miss = m at missed
  unfold State.unanswered
  rw [hm]
  dsimp only
  split
  · exact Booked.loseLink (s := m.modBus _) missed b
  · split
    · exact missed
    · split
      · exact missed.inner (State.inner_retryCommand (State.inner_refl _) _)
      · exact missed

theorem Booked.answered (fl : Flight) (b : BayNo) (rep : ShortReport) (ans : Answer) :
    Booked (s.answered fl b rep ans).book.claims := by
  have K := keptByArrival_booked
  have linked : Booked ((s.modBus Bus.land).answerLink b).book.claims := (K.toBay b).answerLink h
  exact (K.toTrade.clearLinkDown (K.applyReport linked b rep _) b).inner (State.inner_takeIdentity (State.inner_refl _) _ _ _ _)

theorem Booked.shiftTimes (step : Int) : Booked (s.shiftTimes step).book.claims :=
  kept_foldl (P := fun t => Booked t.book.claims)
    (f := fun s x => s.modExch x (fun e => { e with start := shiftTime step e.start })) (fun _ _ k => k) allExchanges
    (Booked.sort h fun _ => rfl)

theorem Booked.expireAll : Booked s.expireAll.book.claims :=
  kept_foldl (P := fun t => Booked t.book.claims)
    (fun _ id k => keptByArrival_booked.toTrade.toMatch.expireIfDue k id) s.claimIds h

theorem Booked.countTime (n : Nat) : Booked (s.countTime n).book.claims := by
  rw [State.countTime_book]
  exact h

theorem Booked.runSchedule : Booked s.runSchedule.book.claims :=
  State.runSchedule_kept (P := fun t => Booked t.book.claims) (fun _ _ k => k) (fun _ _ _ _ _ k => k) (fun _ _ k => k)
    (fun _ n k => k.countTime n) (fun _ k => k.recomputeReserve) (fun _ b k => k.resection b) (fun _ b k => k.fillTest b)
    (fun _ k => k) h

theorem Booked.timeChanged (was : Nat) : (s.timeChanged was).bookOk :=
  Booked.settle (State.watchHorizon_kept (P := fun t => Booked t.book.claims) (fun _ k => k) h.expireAll.runSchedule was)

end

/-! ### Opening, amending and the clock -/

/-- What the effects of an amend are made of (R49). -/
theorem State.amendEffects_kept {P : State → Prop} {s : State} (replan : ∀ t, P t → P (State.wantReplan t))
    (fill : ∀ t b, P t → P (State.fillTest t b)) (unmatch : ∀ t id l, P t → P (State.unmatch t id l))
    (test : ∀ t id, P t → P (State.retest t id)) (h : P s) (old new : Claim) : P (s.amendEffects old new) := by
  have due : ∀ {c : Prop} [Decidable c], P (if c then s else s.wantReplan) := kept_ite h (replan s h)
  have level : ∀ {t : State} {c : Prop} [Decidable c], P t → P (if c then t else match old.takeBay with
      | none => t.wantReplan
      | some b => (t.fillTest b).wantReplan) := fun {t c _} k => by
    refine kept_ite k ?_
    split
    · exact replan t k
    · exact replan _ (fill t _ k)
  unfold State.amendEffects
  exact test _ _ (kept_ite (level due) (unmatch _ _ _ (level due)))

theorem State.claim?_none_iff {s : State} {id : ClaimId} :
    s.claim? id = none ↔ id ∉ s.book.claims.map (fun c => c.id) := by
  simp [State.claim?, List.find?_eq_none]

theorem State.claim?_mem {s : State} {id : ClaimId} {c : Claim} (h : s.claim? id = some c) : c ∈ s.book.claims :=
  List.mem_of_find?_eq_some h

section
variable {s : State} (h : s.bookOk)
include h

theorem State.openClaim_bookOk {c : Claim} (new : s.claim? c.id = none) (room : ¬ bookRoom ≤ s.book.claims.length)
    (sum : Nat) : (s.openClaim c sum).1.bookOk := by
  refine Booked.settle (s := ((s.addClaim c).countTime sum).wantPass) ?_
  rw [State.wantPass_book, State.countTime_book]
  exact (s.bookOk_iff.mp h).2.insert (Nat.lt_of_not_le room) (State.claim?_none_iff.mp new)

theorem State.openBooking_bookOk (tag : Half) (cls : Byte) (level : Half) (due : Word) (hold : Half) (first : Byte) :
    (s.openBooking tag cls level due hold first).1.bookOk := by
  unfold State.openBooking
  split
  · split; · exact h
    split; · exact h
    split; · exact h
    split; · exact h
    next new =>
    split; · exact h
    next room => exact State.openClaim_bookOk h (Option.not_isSome_iff_eq_none.mp new) room _
  · exact h

theorem State.openWalkup_bookOk (tag : Half) (cls : Byte) (level : Half) : (s.openWalkup tag cls level).1.bookOk := by
  unfold State.openWalkup
  split
  · split; · exact h
    split; · exact h
    split; · exact h
    next new =>
    split; · exact h
    next room => exact State.openClaim_bookOk h (Option.not_isSome_iff_eq_none.mp new) room _
  · exact h

/-- An amend moves its claim to its place among the others (R41, R49). -/
theorem State.writeAmend_booked {id : ClaimId} {c : Claim} (hc : s.claim? id = some c) (a : Amend) :
    Booked (s.writeAmend c a).book.claims := by
  have book := (s.bookOk_iff.mp h).2
  have mem := State.claim?_mem hc
  unfold State.writeAmend
  dsimp only
  split
  · next same =>
    refine book.of_keys ?_
    rw [State.modClaim_claims, List.map_map]
    have keys : s.book.claims.map (Claim.key ∘ fun d => if d.id = c.id then a.write c else d)
        = s.book.claims.map Claim.key := by
      refine List.map_congr_left fun d hd => ?_
      simp only [Function.comp_apply]
      split
      · next name =>
        rw [List.inj_on_of_nodup_map book.names hd mem name, Claim.key, same.1]
        rfl
      · rfl
    rw [keys]
  · rw [State.countTime_book, State.setClaims_claims]
    refine (book.filter _).insert ?_ ?_
    · refine Nat.lt_of_lt_of_le ?_ book.room
      exact List.length_filter_lt_length_iff_exists.mpr ⟨c, mem, by simp⟩
    · show c.id ∉ _
      simp

theorem State.amend_bookOk {id : ClaimId} {c : Claim} (hc : s.claim? id = some c) (a : Amend) :
    (s.amend c a).1.bookOk := by
  have K := keptByArrival_booked.toTrade.toMatch
  have done : Booked ((s.writeAmend c a).amendEffects c (a.write c)).book.claims :=
    State.amendEffects_kept (P := fun t => Booked t.book.claims) (fun _ k => k) (fun _ b k => k.fillTest b)
      (fun _ i l k => K.unmatch k i l) (fun _ i k => K.retest k i) (State.writeAmend_booked h hc a) c _
  unfold State.amend
  dsimp only
  split
  · exact Booked.settle done
  · split
    · exact Booked.settle (K.closeClaim done _ _)
    · split <;> exact Booked.settle (K.wantPass done)

theorem State.amendBooking_bookOk (tag : Half) (present : Byte) (due : Word) (hold level : Half) (cls : Byte) :
    (s.amendBooking tag present due hold level cls).1.bookOk := by
  unfold State.amendBooking
  dsimp only
  split; · exact h
  split; · exact h
  next c hc =>
  split; · exact h
  split; · exact h
  exact State.amend_bookOk h hc _

theorem State.cancelClaim_bookOk (p : Port) (origin : Byte) (tag : Half) : (s.cancelClaim p origin tag).1.bookOk := by
  unfold State.cancelClaim
  split; · exact h
  split; · exact h
  split; · exact h
  split; · exact h
  exact Booked.settle (keptByArrival_booked.toTrade.toMatch.closeClaim (s.bookOk_iff.mp h).2 _ _)

theorem State.takeTime_bookOk (new : Nat) (m : TimeMode) : (s.takeTime new m).bookOk := by
  have book := (s.bookOk_iff.mp h).2
  have said : ∀ {u : State} (was : Nat) (m : TimeMode), u.bookStill (u.sayStepped was m) := fun {u} was m =>
    kept_ite (P := u.bookStill) u.bookStill_refl ⟨rfl, rfl⟩
  have shifted : ((s.putTime new).shiftTimes ((new : Int) - (s.now : Int))).bookOk := by
    refine (State.bookOk_iff _).mpr ⟨?_, Booked.shiftTimes (s := s.putTime new) book _⟩
    exact kept_foldl (P := fun t => t.passDue = false)
      (f := fun s x => s.modExch x (fun e => { e with start := shiftTime _ e.start })) (fun _ _ k => k) allExchanges h.1
  cases m with
  | trim =>
    refine Booked.timeChanged (s := (s.putTime new).sayStepped s.now .trim) ?_ s.now
    rw [(said s.now .trim).2]
    exact book
  | set => exact (said s.now .set).ok shifted
  | shift => exact (said s.now .shift).ok shifted

theorem State.setTime_bookOk (time : Word) : (s.setTime time).1.bookOk := by
  unfold State.setTime
  split
  · exact h
  · exact h
  · exact State.takeTime_bookOk h _ _

theorem State.clockAdvance_bookOk : s.clockAdvance.bookOk := by
  have ticked := s.tickTimers_bookStill.ok h
  exact kept_ite (P := State.bookOk) (Booked.timeChanged
    (s := { s.tickTimers with clock := { s.tickTimers.clock with time := s.tickTimers.clock.time + 1 } })
    (State.bookOk_iff _ |>.mp ticked).2 _) ticked

/-- A frame boundary writes projections and flags, and owes no pass (R74, R98). -/
theorem State.frameBoundary_bookOk : s.frameBoundary.bookOk := by
  have keeps : ∀ {t : State} {id : ClaimId} {f : Claim → Claim}, t.bookOk → (∀ c, (f c).key = c.key) →
      (t.modClaim id f).bookOk := fun {t id f} k hf =>
    (State.bookOk_iff _).mpr ⟨k.1, Booked.modClaim (t.bookOk_iff.mp k).2 id hf⟩
  have projected : ∀ (p : Plan) (t : State) (id : ClaimId), t.bookOk → (State.installProjection p t id).bookOk :=
    fun p t id k => by
      unfold State.installProjection
      split
      · exact k
      · split
        · exact keeps k fun _ => rfl
        · next v _ =>
          exact State.bookOk_of (keeps (f := fun c => { c with projected := some (t.storedTime v) }) k fun _ => rfl)
            (State.countTime_passDue _ _) (State.countTime_book _ _)
  have judged : ∀ (t : State) (id : ClaimId), t.bookOk → (t.judgeRisk id).bookOk := fun t id k => by
    unfold State.judgeRisk
    split
    · exact k
    · split
      · exact keeps k fun _ => rfl
      · exact keeps k fun _ => rfl
      · exact k
  have moved : (s.modGrants Grants.boundary).bookOk := h
  refine kept_ite (P := State.bookOk) ?_ moved
  have entered := kept_foldl (P := State.bookOk)
    (f := State.installBay (s.modGrants Grants.boundary).plan) (fun _ _ k => k) allBays moved
  exact kept_foldl judged _ (kept_foldl (P := State.bookOk) (projected _) _ entered : (State.notify (State.modGrants _ _) _ _ _ _).bookOk)

/-! ### Every request and every command -/

theorem State.runRequest_bookOk (p : Port) (r : Request) : (s.runRequest p r).1.bookOk := by
  have book := (s.bookOk_iff.mp h).2
  have K := keptByArrival_booked
  cases r with
  | readStatus | fetchNotices | setAttention | portClear | readGrants | readDerateTable | readKioskParams => exact h
  | readBay bays =>
    show (s.readBay bays).1.bookOk
    unfold State.readBay
    split
    · exact h
    · split <;> exact h
  | setBayService b v =>
    show (s.setBayService b v).1.bookOk
    unfold State.setBayService
    split
    · split
      · exact h
      · exact kept_ite (P := State.bookOk) h (book.changeService _ _).settle
    · exact h
  | setBayAbility b a =>
    show (s.setBayAbility b a).1.bookOk
    unfold State.setBayAbility
    split
    · exact h
    · dsimp only
      split <;> exact h
  | restartBay b =>
    show (s.restartBay b).1.bookOk
    unfold State.restartBay
    split
    · exact h
    · split
      · exact h
      · exact Booked.settle ((K.toBay _).restart book)
  | openBooking tag c lv due hold fi => exact State.openBooking_bookOk h tag c lv due hold fi
  | openWalkup tag c lv => exact State.openWalkup_bookOk h tag c lv
  | amendBooking tag pr due hold lv c => exact State.amendBooking_bookOk h tag pr due hold lv c
  | cancelClaim o tag => exact State.cancelClaim_bookOk h p o tag
  | readClaim o tag =>
    show (s.readClaim o tag).1.bookOk
    unfold State.readClaim
    split
    · exact h
    · split <;> exact h
  | listClaims st =>
    show (s.listClaims st).1.bookOk
    unfold State.listClaims
    split <;> exact h
  | reportFeed w =>
    have written : s.bookStill (s.writeFeed (min maxFeed w.toNat)) := ⟨rfl, rfl⟩
    exact written.feedCurrent.recomputeUsable.feedTest.ok h
  | setModule m l st =>
    show (s.setModule m l st).1.bookOk
    unfold State.setModule
    split
    · exact kept_ite (P := State.bookOk) h ((s.putModule_bookStill _ _).ok h)
    · exact h
  | haltCharging => exact kept_ite (P := State.bookOk) h (s.halt_bookStill.ok h)
  | resumeCharging =>
    exact kept_ite (P := State.bookOk) (s.resume_bookStill.ok h) h
  | beginSwap o tag =>
    show (s.beginSwap o tag).1.bookOk
    unfold State.beginSwap
    split; · exact h
    split; · exact h
    split; · exact h
    split; · exact h
    split; · exact h
    dsimp only
    split
    all_goals
      split
      · exact h
      · exact (book.startSwap _ _ _).settle
  | abortSwap x o tag =>
    show (s.abortSwap x o tag).1.bookOk
    unfold State.abortSwap
    split
    · split; · exact h
      split; · exact h
      split; · exact h
      exact kept_ite (P := State.bookOk) h (book.inner (State.inner_abort (State.inner_refl _) _ _)).settle
    · exact h
  | readExchange x =>
    show (s.readExchange x).1.bookOk
    unfold State.readExchange
    split
    · exact h
    · split <;> exact h
  | readLinkCounters => exact s.clearCounts_bookStill.ok h
  | writeDerateRow r b ps pm pL =>
    show (s.writeDerateRow r b ps pm pL).1.bookOk
    unfold State.writeDerateRow
    split; · exact h
    dsimp only
    split; · exact h
    exact kept_ite (P := State.bookOk) h (book.putRow _ _).settle
  | clearBayFault b =>
    show (s.clearBayFault b).1.bookOk
    unfold State.clearBayFault
    split; · exact h
    split; · exact h
    split; · exact h
    dsimp only
    split
    · exact h
    · exact Booked.settle ((K.toBay _).liftFault book _ _)
  | setTime t => exact State.setTime_bookOk h t
  | setKioskParams pr rs sb fb hz lv ft sp dc =>
    show (s.setKioskParams pr rs sb fb hz lv ft sp dc).1.bookOk
    unfold State.setKioskParams
    split
    · exact h
    · exact kept_ite (P := State.bookOk) h (Booked.settle (Booked.handParams
        (s := { s with params := s.params.set pr rs sb fb hz lv ft sp dc }) book s.params))
  | addDirective k t v d =>
    show (s.addDirective k t v d).1.bookOk
    unfold State.addDirective
    split; · exact h
    split; · exact h
    split; · exact h
    exact h
  | clearDirectives k =>
    show (s.clearDirectives k).1.bookOk
    unfold State.clearDirectives
    split <;> exact h
  | endWindows => exact s.endAllWindows_bookStill.ok h
  | readSchedule l st =>
    show (s.readSchedule l st).1.bookOk
    unfold State.readSchedule
    dsimp only
    split
    · exact h
    · split <;> exact h

theorem State.takeRequest_bookOk (p : Port) (r : Request) : (s.takeRequest p r).bookOk := by
  unfold State.takeRequest State.permitRequest
  split
  · exact h
  · split
    · exact State.runRequest_bookOk h p r
    · exact h

theorem State.takeByte_bookOk (p : Port) (b : Byte) : (s.takeByte p b).bookOk := by
  have framed : ∀ code payload, ((s.setRx p .hunting).takeFrame p code payload).bookOk := fun code payload => by
    unfold State.takeFrame
    split
    · exact State.takeRequest_bookOk (s := s.setRx p .hunting) h p _
    · exact kept_ite (P := State.bookOk) h h
  unfold State.takeByte
  split
  · exact kept_ite (P := State.bookOk) h h
  · unfold State.growFrame
    split
    · exact h
    · refine kept_ite (P := State.bookOk) h (kept_ite (P := State.bookOk) ?_ h)
      unfold State.endFrame
      split
      · exact kept_ite (P := State.bookOk) (framed _ _) h
      · exact h

/-- A deadline's rule acts on the exchange in its phase, or nothing comes of it. -/
theorem State.atDeadline_bookOk (x : ExNo) (ph : Phase) {act : State → Exchange → State}
    (hact : ∀ e, (act s e).bookOk) : (s.atDeadline x ph act).bookOk := by
  unfold State.atDeadline
  split
  · exact h
  · exact kept_ite (P := State.bookOk) (hact _) h

theorem State.takeReply_bookOk (ok : Bool) (a : Byte) (rep : ShortReport) (ans : Answer) :
    (s.takeReply ok a rep ans).bookOk := by
  have book := (s.bookOk_iff.mp h).2
  unfold State.takeReply
  split; · exact h
  split; · exact h
  exact kept_ite (P := State.bookOk) (book.unanswered _ _).settle (kept_ite (P := State.bookOk)
    (Booked.settle (Booked.unanswered (s := s.modBus _) book _ _)) (book.answered _ _ _ _).settle)

theorem State.takeSilence_bookOk : s.takeSilence.bookOk := by
  unfold State.takeSilence
  split; · exact h
  split; · exact h
  exact ((s.bookOk_iff.mp h).2.unanswered _ _).settle

end

theorem State.powerOn_bookOk (s : State) : s.powerOn.bookOk := ⟨rfl, Nat.zero_le _, .nil, .nil⟩

/-- Every command keeps the book in order and leaves no pass owed. -/
theorem exec_bookOk (c : Instr) {s t : State} (h : s.bookOk) (e : exec c s = .next t) : t.bookOk := by
  have book := (s.bookOk_iff.mp h).2
  have expired : ∀ {u : State}, s.inner u → u.settle.bookOk := fun k => (book.inner k).settle
  have refl := s.inner_refl
  cases c <;> obtain rfl := Host.Outcome.next.inj e.symm
  case powerOn => exact s.powerOn_bookOk
  case rxByte p b => exact State.takeByte_bookOk h p b
  case interByteGap => exact h
  case replyTransmitted => exact h
  case clockAdvance => exact State.clockAdvance_bookOk h
  case frameBoundary => exact State.frameBoundary_bookOk h
  case stalenessTimeout => exact s.goStale_bookStill.ok h
  case intakeOpenDeadline x => exact State.atDeadline_bookOk h x _ fun e => expired (State.inner_intakeOpenExpired refl x e)
  case intakeCheckDeadline x => exact State.atDeadline_bookOk h x _ fun e => expired (State.inner_intakeCheckExpired refl e)
  case returnRejectedDeadline x =>
    exact State.atDeadline_bookOk h x _ fun e => expired (State.inner_returnRejectedExpired refl x e)
  case takeOpenDeadline x => exact State.atDeadline_bookOk h x _ fun e => expired (State.inner_takeOpenExpired refl x e)
  case takeClosingDeadline x =>
    exact State.atDeadline_bookOk h x _ fun e => expired (State.inner_takeClosingExpired refl x e)
  case busDispatch => exact s.dispatchBus_bookStill.ok h
  case lockAllSent => exact s.endLockAll_bookStill.ok h
  case bayReply ok a rep ans => exact State.takeReply_bookOk h ok a rep ans
  case answerPeriodTimeout => exact State.takeSilence_bookOk h
  all_goals exact State.takeRequest_bookOk h _ _

/-- Settles O32: a step is the command at the front of the queue, and every command keeps the book. -/
theorem stepKeepsBookOk : Obligations.StepKeepsBookOk := by
  unfold Obligations.StepKeepsBookOk
  intro s t h e
  unfold step at e
  split at e
  · exact Host.Outcome.next.inj e ▸ h
  · next rest _ => exact exec_bookOk _ (s := { s with pending := rest }) h e

end Sys2Proof.Machine
end

section
/-! Power-on meets the four conditions (O44), and the reads with a field (O31): READ-CLAIM, LIST-CLAIMS, READ-EXCHANGE and
READ-SCHEDULE. -/

open Sys2Proof Sys2Proof.Machine
namespace Sys2Proof.Machine

/-! ### Power-on -/

theorem PortState.powerOn_ok : PortState.powerOn.ok := by
  simp [PortState.ok, PortState.powerOn]

theorem State.reset_bookOk : State.reset.bookOk := State.powerOn_bookOk State.reset

/-- After power-on no bay holds a grant, and U in force is 0 (R95). -/
theorem State.reset_drawOk : State.reset.drawOk := by
  have grant : ∀ b, (State.reset.bay b).grant = 0 := fun b => by rw [State.reset_bay]; rfl
  refine ⟨fun b => .inl (grant b), rfl, ?_, ?_, fun b h => absurd (grant b) h⟩
  · simp [State.evenSum, grant]
  · simp [State.oddSum, grant]

/-- Settles O44. -/
theorem resetConditions : Obligations.ResetConditions := by
  unfold Obligations.ResetConditions
  refine ⟨fun p => ?_, State.reset_bookOk, State.reset_drawOk, ?_⟩
  · rw [show State.reset.ports.get p = PortState.powerOn from State.powerOn_port State.reset p]
    exact PortState.powerOn_ok
  · simp [Bus.ok, State.reset, Bus.powerOn, Bus.count]

/-! ### Requests answered -/

/-- The row of a request that its owner refuses, at a free port that may send it. -/
theorem exec_refused (r : Request) {p : Port} {s : State} (free : s.free p) (may : permitted p r = true) {c : RefusalCode}
    (owner : s.runRequest p r = s.refuse c) : exec (r.onPort p) s = .next (s.refusal p r.code c []) := by
  rw [exec_onPort, State.takeRequest_refused s p r free may c [] owner]

/-- The row of a request that its owner answers with success, at a free port that may send it. -/
theorem exec_answered (r : Request) {p : Port} {s u : State} {payload : List Byte} (free : s.free p)
    (may : permitted p r = true) (owner : s.runRequest p r = u.reply payload) :
    exec (r.onPort p) s = .next (u.success p r payload) := by
  rw [exec_onPort, State.takeRequest_ok s p r free may u payload owner]

theorem originOfByte_toNat {origin : Byte} {o : Origin} (h : originOfByte origin = some o) : o.code = origin.toNat := by
  unfold originOfByte at h
  split at h
  · next e => cases h; exact e.symm
  · next e => cases h; exact e.symm
  · cases h

theorem originOfByte_none {origin : Byte} (h : origin ≠ 1 ∧ origin ≠ 2) : originOfByte origin = none := by
  have h1 : origin.toNat ≠ 1 := fun k => h.1 (BitVec.eq_of_toNat_eq k)
  have h2 : origin.toNat ≠ 2 := fun k => h.2 (BitVec.eq_of_toNat_eq k)
  unfold originOfByte
  split
  · next e => exact absurd e h1
  · next e => exact absurd e h2
  · rfl

theorem claimIdOf_none {origin : Byte} {tag : Half} (h : tag = 0 ∨ (origin ≠ 1 ∧ origin ≠ 2)) :
    claimIdOf origin tag = none := by
  unfold claimIdOf
  rcases h with rfl | h
  · split <;> rfl
  · rw [originOfByte_none h]

/-- An origin sent back is the byte it came as. -/
theorem u8_origin {origin : Byte} {o : Origin} (h : originOfByte origin = some o) : u8 o.code = [origin] :=
  u8_code (originOfByte_toNat h).symm

theorem u16_half (w : Half) : u16 w.toNat = halfBytes w := by
  rw [u16_eq_halfBytes, BitVec.ofNat_toNat, BitVec.setWidth_eq]

/-! ### READ-CLAIM (R52) -/

theorem Claim.flags_eq (c : Claim) : c.flags = (if c.firstReady.isSome then 1 else 0)
    + (if c.returned.isSome then 2 else 0) + (if c.projected.isSome then 4 else 0) + (if c.atRisk then 8 else 0)
    + (if c.firstIssue then 16 else 0) := by
  have sums : ∀ i a p r f : Bool, packBits [(1, flagCode i), (1, flagCode a), (1, flagCode p), (1, flagCode r), (1, flagCode f)]
      = (if f then 1 else 0) + (if r then 2 else 0) + (if p then 4 else 0) + (if a then 8 else 0) + (if i then 16 else 0) := by
    decide
  exact sums _ _ _ _ _

/-- The byte of a bay that may be none (R176). -/
def bayByte : Option BayNo → Byte
  | none => 0
  | some b => BitVec.ofNat 8 (bayNumber b)

theorem u8_bayCode (o : Option BayNo) : u8 (bayCode o) = [bayByte o] := by
  rw [u8_eq]
  cases o <;> rfl

theorem mem_allExchanges : ∀ x : ExNo, x ∈ allExchanges := by decide

/-- The number of the exchange that names a SWAPPING claim, when one record alone does (R52, R112). -/
theorem State.exchangeOf_only {s : State} {id : ClaimId} {x : ExNo} {e : Exchange} (he : s.exch x = some e)
    (hid : e.claim = id) (hph : e.phase ≠ .takeClosing)
    (only : ∀ y f, s.exch y = some f → f.claim = id → f.phase ≠ .takeClosing → y = x) : s.exchangeOf id = some x := by
  have found : (s.exchangeOf id).isSome = true := by
    refine List.find?_isSome.mpr ⟨x, mem_allExchanges x, by simp [he, hid, hph]⟩
  obtain ⟨y, hy⟩ := Option.isSome_iff_exists.mp found
  obtain ⟨f, hf, fid, fph⟩ := State.exchangeOf_some hy
  rw [hy, only y f hf fid fph]

/-- The last byte of a claim record: the exchange of a SWAPPING claim, 0 for any other (R52). -/
def State.exchangeByte (s : State) (c : Claim) : Byte :=
  BitVec.ofNat 8 (match c.state, s.exchangeOf c.id with | .swapping, some x => exchangeNumber x | _, _ => 0)

theorem State.exchangeByte_zero (s : State) {c : Claim} (h : c.state ≠ .swapping) : s.exchangeByte c = 0 := by
  unfold State.exchangeByte
  split
  · contradiction
  · rfl

theorem State.exchangeByte_swapping {s : State} {c : Claim} {x : ExNo} (h : c.state = .swapping)
    (hx : s.exchangeOf c.id = some x) : s.exchangeByte c = BitVec.ofNat 8 (x.val + 1) := by
  rw [State.exchangeByte, h, hx]
  rfl

theorem State.claimRecord_eq (s : State) {origin : Byte} {o : Origin} {tag : Half} {c : Claim}
    (ho : originOfByte origin = some o) (hid : c.id = ⟨o, tag⟩) :
    s.claimRecord c = [origin] ++ halfBytes tag ++ wordBytes (BitVec.ofNat 32 c.seq)
      ++ wordBytes (BitVec.ofNat 32 c.openTime) ++ [BitVec.ofNat 8 c.cls.code] ++ halfBytes (BitVec.ofNat 16 c.level)
      ++ wordBytes (BitVec.ofNat 32 c.due) ++ halfBytes (BitVec.ofNat 16 (c.hold.getD 0))
      ++ wordBytes (BitVec.ofNat 32 c.expiry)
      ++ [BitVec.ofNat 8 c.state.code, bayByte c.takeBay,
          BitVec.ofNat 8 c.flags]
      ++ wordBytes (BitVec.ofNat 32 (c.firstReady.getD 0)) ++ packIdBytes (c.returned.getD 0)
      ++ wordBytes (BitVec.ofNat 32 (c.projected.getD 0))
      ++ [BitVec.ofNat 8 (positionIn c.id s.book.claims), s.exchangeByte c] := by
  have last : s.exchangeByte c = BitVec.ofNat 8 _ := rfl
  rw [State.claimRecord, last]
  simp only [hid, u8_origin ho, u16_half, u8_bayCode]
  simp only [u32_eq_wordBytes, u16_eq_halfBytes, u64_eq_packIdBytes, u8_eq, List.append_assoc, List.cons_append,
    List.nil_append] <;> rfl

/-! ### LIST-CLAIMS (R53) -/

theorem Claim.summary_eq (c : Claim) : c.summary = [BitVec.ofNat 8 c.id.origin.code] ++ halfBytes c.id.tag
    ++ wordBytes (BitVec.ofNat 32 c.seq) ++ [BitVec.ofNat 8 c.state.code, BitVec.ofNat 8 c.cls.code]
    ++ wordBytes (BitVec.ofNat 32 c.due) ++ wordBytes (BitVec.ofNat 32 c.expiry)
    ++ [bayByte c.takeBay,
        BitVec.ofNat 8 ((if c.atRisk then 1 else 0) + (if c.returned.isSome then 2 else 0))] := by
  have sums : ∀ r a : Bool, packBits [(1, flagCode r), (1, flagCode a)] = (if a then 1 else 0) + (if r then 2 else 0) := by
    decide
  rw [Claim.summary, sums, u16_half, u8_bayCode]
  simp only [u32_eq_wordBytes, u8_eq, List.append_assoc, List.cons_append, List.nil_append]

/-! ### READ-EXCHANGE (R128) -/

theorem flagByte_eq (b : Bool) : flagByte b = [if b then 1 else 0] := by cases b <;> rfl

theorem flagByte_code (b : Bool) : BitVec.ofNat 8 (flagCode b) = if b then 1 else 0 := by cases b <;> rfl

theorem State.bayView_eq (s : State) (o : Option BayNo) : s.bayView o = match o with
    | none => [0, 0, 0, 0, 0, 0]
    | some b => [1, BitVec.ofNat 8 (s.bay b).door.code, 1, BitVec.ofNat 8 (s.bay b).latch.code, 1,
        if (s.bay b).sensed then 1 else 0] := by
  cases o with
  | none => rfl
  | some b => simp only [State.bayView, Option.map_some, optional, u8_eq, flagByte_code, List.cons_append, List.nil_append]

theorem credit_eq (e : Exchange) : optional u8 (e.intake.map (fun _ => flagCode (!e.phase.beforeTake)))
    = match e.intake with
      | none => [0, 0]
      | some _ => [1, if e.phase = .takeOpen ∨ e.phase = .takeClosing then 1 else 0] := by
  cases e.intake with
  | none => rfl
  | some b => cases h : e.phase <;> simp [optional, u8_eq, Phase.beforeTake, flagCode]

theorem exchangeOfByte_none {n : Byte} (h : n = 0 ∨ 4 < n.toNat) : exchangeOfByte n = none := by
  have : ¬(1 ≤ n.toNat ∧ n.toNat ≤ 4) := by
    rcases h with rfl | h
    · decide
    · omega
  rw [exchangeOfByte, dif_neg this]

/-! ### READ-SCHEDULE (R165) -/

theorem Schedule.counts_eq (h : Schedule) : h.counts = [BitVec.ofNat 8 h.directives.length,
    BitVec.ofNat 8 (32 - h.directives.length), BitVec.ofNat 8 h.windows.length]
      ++ wordBytes (BitVec.ofNat 32 h.effective) ++ [if h.walkupsOpen then 1 else 0] := by
  simp only [Schedule.counts, u8_eq, flagByte_eq, u32_eq_wordBytes, List.cons_append, List.nil_append]
  rfl

theorem optional_u32 (o : Option Nat) : optional u32 o = match o with
    | none => [0, 0, 0, 0, 0]
    | some v => 1 :: wordBytes (BitVec.ofNat 32 v) := by
  cases o with
  | none => rfl
  | some v => rw [optional, u32_eq_wordBytes]

theorem counted_map {α : Type} (l : List α) (f : α → List Byte) :
    counted (l.map f) = BitVec.ofNat 8 l.length :: l.flatMap f := by
  rw [counted, u8_eq, List.length_map, List.flatMap_def]
  rfl

theorem Directive.bytes_eq (d : Directive) : d.bytes = halfBytes (BitVec.ofNat 16 d.number) ++ [BitVec.ofNat 8 d.kind.code]
    ++ wordBytes (BitVec.ofNat 32 d.time) ++ optional u32 d.value ++ wordBytes (BitVec.ofNat 32 (d.duration.getD 0)) := by
  rw [Directive.bytes, u16_eq_halfBytes, u8_eq, u32_eq_wordBytes, u32_eq_wordBytes]

theorem Window.bytes_eq (w : Window) : w.bytes = halfBytes (BitVec.ofNat 16 w.number) ++ [BitVec.ofNat 8 w.kind.code]
    ++ optional u32 w.value ++ wordBytes (BitVec.ofNat 32 w.start) ++ wordBytes (BitVec.ofNat 32 w.stop) := by
  rw [Window.bytes, u16_eq_halfBytes, u8_eq, u32_eq_wordBytes, u32_eq_wordBytes]

/-! ### The owners' answers -/

section
variable (s : State)

theorem State.readClaim_some {origin : Byte} {o : Origin} {tag : Half} {c : Claim} (ho : originOfByte origin = some o)
    (ht : tag ≠ 0) (hc : s.claim? ⟨o, tag⟩ = some c) : s.readClaim origin tag = s.reply (s.claimRecord c) := by
  rw [State.readClaim, claimIdOf_some ho ht]
  simp only [hc]

theorem State.readClaim_gone {origin : Byte} {o : Origin} {tag : Half} (ho : originOfByte origin = some o)
    (ht : tag ≠ 0) (hc : s.claim? ⟨o, tag⟩ = none) : s.readClaim origin tag = s.refuse .noSuchClaim := by
  rw [State.readClaim, claimIdOf_some ho ht]
  simp only [hc]

theorem State.readExchange_some {n : Byte} {x : ExNo} {e : Exchange} (hn : n.toNat = x.val + 1) (he : s.exch x = some e) :
    s.readExchange n = s.reply (s.exchangePayload x e) := by
  rw [State.readExchange, exchangeOfByte_some hn]
  simp only [he]

theorem State.readExchange_gone {n : Byte} {x : ExNo} (hn : n.toNat = x.val + 1) (he : s.exch x = none) :
    s.readExchange n = s.refuse .noSuchExchange := by
  rw [State.readExchange, exchangeOfByte_some hn]
  simp only [he]

theorem State.readSchedule_badField {list start : Byte}
    (h : 1 < list.toNat ∨ start = 0 ∨ (list = 0 ∧ 32 < start.toNat) ∨ (list = 1 ∧ 8 < start.toNat)) :
    s.readSchedule list start = s.refuse .badField := by
  have bad0 : ¬(list = 0 ∧ 1 ≤ start.toNat ∧ start.toNat ≤ 32) := by
    rintro ⟨rfl, low, high⟩
    rcases h with h | rfl | ⟨-, h⟩ | ⟨h, -⟩
    · simp at h
    · simp at low
    · omega
    · simp at h
  have bad1 : ¬(list = 1 ∧ 1 ≤ start.toNat ∧ start.toNat ≤ 8) := by
    rintro ⟨rfl, low, high⟩
    rcases h with h | rfl | ⟨h, -⟩ | ⟨-, h⟩
    · simp at h
    · simp at low
    · simp at h
    · omega
  simp only [State.readSchedule, if_neg bad0, if_neg bad1]

end

/-- Settles O31: each read's owner answers without a change, and each item of its reply is the field it is sent as. -/
theorem keyedReads : Obligations.KeyedReads := by
  unfold Obligations.KeyedReads
  intro p s free
  refine ⟨fun hp origin tag => ?claim, fun hp start => ?list, fun hp n => ?exchange, fun hp list start => ?schedule⟩
  case claim =>
    have may : permitted p (.readClaim origin tag) = true := by simp [permitted, hp]
    refine ⟨fun bad => ?_, fun o ho ht => ⟨fun gone => ?_, fun c hc => ⟨s.exchangeByte c, ?_, s.exchangeByte_zero, ?_⟩⟩⟩
    · refine exec_refused (.readClaim origin tag) free may ?_
      show s.readClaim origin tag = _
      rw [State.readClaim, claimIdOf_none bad]
    · exact exec_refused (.readClaim origin tag) free may (s.readClaim_gone ho ht gone)
    · refine (exec_answered (.readClaim origin tag) free may (s.readClaim_some ho ht hc)).trans ?_
      rw [s.claimRecord_eq ho (s.claim?_id hc), Claim.flags_eq]
      rfl
    · intro x e swapping he hid hph only
      exact State.exchangeByte_swapping swapping (State.exchangeOf_only he hid hph only)
  case list =>
    have may : permitted p (.listClaims start) = true := by simp [permitted, hp]
    refine ⟨fun bad => exec_refused (.listClaims start) free may (if_pos bad), fun low high => ?_⟩
    refine (exec_answered (.listClaims start) free may (if_neg (not_or.mpr ⟨low, Nat.not_lt.mpr high⟩))).trans ?_
    rw [u8_eq, show Claim.summary = _ from funext Claim.summary_eq]
    rfl
  case exchange =>
    have may : permitted p (.readExchange n) = true := by simp [permitted, hp]
    refine ⟨fun bad => ?_, fun x hn => ⟨fun gone => ?_, fun e he => ?_⟩⟩
    · refine exec_refused (.readExchange n) free may ?_
      show s.readExchange n = _
      rw [State.readExchange, exchangeOfByte_none bad]
    · exact exec_refused (.readExchange n) free may (s.readExchange_gone hn gone)
    · refine (exec_answered (.readExchange n) free may (s.readExchange_some hn he)).trans ?_
      rw [State.exchangePayload, u8_code (show n.toNat = exchangeNumber x from hn), credit_eq, State.bayView_eq,
        State.bayView_eq, u16_half, flagByte_eq, u32_eq_wordBytes, u8_bayCode, u8_bayCode]
      simp only [u8_eq, List.append_assoc, List.cons_append, List.nil_append]
      rfl
  case schedule =>
    have may : permitted p (.readSchedule list start) = true := by simp [permitted, hp]
    refine ⟨fun bad => exec_refused (.readSchedule list start) free may (s.readSchedule_badField bad),
      fun zero low high => ?_, fun one low high => ?_⟩
    · have from1 : 1 ≤ start.toNat := Nat.pos_of_ne_zero fun k => low (BitVec.eq_of_toNat_eq k)
      refine (exec_answered (.readSchedule list start) free may (if_pos ⟨zero, from1, high⟩)).trans ?_
      rw [counted_map, Schedule.counts_eq, show Directive.bytes = _ from funext Directive.bytes_eq]
      simp only [optional_u32] <;> rfl
    · have from1 : 1 ≤ start.toNat := Nat.pos_of_ne_zero fun k => low (BitVec.eq_of_toNat_eq k)
      have other : ¬(list = 0 ∧ 1 ≤ start.toNat ∧ start.toNat ≤ 32) := by
        rintro ⟨rfl, -⟩
        cases one
      refine (exec_answered (.readSchedule list start) free may
        ((if_neg other).trans (if_pos ⟨one, from1, high⟩))).trans ?_
      rw [counted_map, Schedule.counts_eq, show Window.bytes = _ from funext Window.bytes_eq]
      simp only [optional_u32] <;> rfl

end Sys2Proof.Machine
end

section
/-! The READY test of one claim (O35), and what the end of an arrival makes of the open claims: their terms stand, and a
first READY entry gives the first ready time and a walk-up's hold. -/

open Sys2Proof Sys2Proof.Machine
namespace Sys2Proof.Machine

/-! ### The READY test as a change of the claim -/

/-- A claim that has entered READY (R55, R69). -/
def State.readied (s : State) (c : Claim) : Claim :=
  { c with
    state := .ready
    firstReady := some (c.firstReady.getD s.now)
    expiry := if c.firstReady.isNone && !c.isBooking then s.storedTime (s.now + walkupHold) else c.expiry }

/-- A claim after its READY test (R68, R69). -/
def State.tested (s : State) (c : Claim) : Claim :=
  match c.takeBay, c.state with
  | some b, .matched => if (s.bay b).readyFor c.level then s.readied c else c
  | some b, .ready => if (s.bay b).readyFor c.level then c else { c with state := .matched }
  | _, _ => c

section
variable {s : State} {id : ClaimId} {c : Claim} (hc : s.claim? id = some c)
include hc

theorem State.enterReady_claim? (b : BayNo) : (s.enterReady id b).claim? id = some (s.readied c) := by
  have changed : ∀ f : Claim → Claim, (∀ k, (f k).id = k.id) → f c = s.readied c →
      (s.modClaim id f).claim? id = some (s.readied c) := fun f hf e => by
    rw [State.modClaim_claim? s id f (fun k h => (hf k).trans h), if_pos rfl, hc, Option.map_some, e]
  simp only [State.enterReady, hc, State.notify_claim?]
  split
  · next first => exact changed _ (fun _ => rfl) (by simp [State.readied, first])
  · next first =>
    split
    · next booking => exact changed _ (fun _ => rfl) (by simp [State.readied, first, booking])
    · next walkup =>
      rw [State.countTime_claim?]
      exact changed _ (fun _ => rfl) (by simp [State.readied, first, walkup])

theorem State.retest_claim? : (s.retest id).claim? id = some (s.tested c) := by
  simp only [State.retest, hc, State.tested]
  cases hb : c.takeBay with
  | none => exact hc
  | some b =>
    cases c.state with
    | waiting | swapping => exact hc
    | matched =>
      dsimp only
      split
      · exact State.enterReady_claim? hc b
      · exact hc
    | ready =>
      dsimp only
      split
      · exact hc
      · rw [State.fallUnready_claim?, if_pos rfl, hc, ← hb]
        rfl

end

/-! ### O35 -/

theorem Bay.readyFor_iff (r : Bay) (level : Nat) : r.readyFor level = true
    ↔ (r.state = .charging ∨ r.state = .topped) ∧ ∃ q, r.pack = some q ∧ level ≤ q.soc ∧ q.temp < 55 := by
  rw [Bay.readyFor, Bool.and_eq_true, Bay.holdsCharged_iff]
  have fit : ∀ p : Pack, p.fit level = true ↔ level ≤ p.soc ∧ p.temp < 55 := fun p => by
    rw [Pack.fit, Bool.and_eq_true, decide_eq_true_eq, decide_eq_true_eq]
    exact Iff.rfl
  cases r.pack <;> simp [fit]

theorem State.storedTime_eq (s : State) {n : Nat} (h : n ≤ 4294967295) : s.storedTime n = n := if_pos h

/-- Settles O35: the claim after the test is `State.tested`, read off by its state and the test's outcome. -/
theorem readyTest : Obligations.ReadyTest := by
  unfold Obligations.ReadyTest
  intro s id c b hc hb hs
  dsimp only
  have origin : c.isBooking = !decide (id.origin = .terminal) := by
    rw [Claim.isBooking, s.claim?_id hc]
    cases id.origin <;> rfl
  refine ⟨Bay.readyFor_iff _ _, s.tested c, State.retest_claim? hc, ?_⟩
  suffices read : (s.tested c).state = (if (s.bay b).readyFor c.level then .ready else .matched)
      ∧ (s.tested c).terms = c.terms ∧ (s.tested c).takeBay = some b
      ∧ (s.tested c).firstReady = (if decide (c.state = .matched) && (s.bay b).readyFor c.level && c.firstReady.isNone
          then some s.clock.time else c.firstReady)
      ∧ (s.clock.time + 180 ≤ 4294967295 → (s.tested c).expiry =
          (if decide (c.state = .matched) && (s.bay b).readyFor c.level && c.firstReady.isNone
            && decide (id.origin = .terminal) then s.clock.time + 180 else c.expiry)) by
    obtain ⟨state, terms, bay, first, expiry⟩ := read
    exact ⟨state, terms, bay, first, expiry, State.same_retest s.sameButMatches_refl id, fun d => s.retest_bay id d⟩
  rw [State.tested, hb]
  rcases hs with hs | hs <;> rw [hs] <;> dsimp only <;> split
  case inl.isTrue ready =>
    refine ⟨rfl, rfl, hb, ?_, fun fits => ?_⟩
    · cases hf : c.firstReady <;> simp [State.readied, hf, State.now, ready]
    · simp only [State.readied, origin, Bool.not_not, ready, decide_true, Bool.true_and]
      rw [s.storedTime_eq (show s.now + walkupHold ≤ 4294967295 from fits)]
      rfl
  case inl.isFalse unready => simp [unready, hs, hb]
  case inr.isTrue ready => simp [ready, hs, hb]
  case inr.isFalse unready => simp [unready, Claim.terms]

/-! ### The claims at the end of an arrival -/

/-- What matches and READY tests at a time make of a claim: the terms stand, and so do first ready time and expiry, but
that a first entry into READY records the time and gives a walk-up its hold (R55). -/
def Claim.later (now : Nat) (c d : Claim) : Prop :=
  d.terms = c.terms ∧ ((d.firstReady = c.firstReady ∧ d.expiry = c.expiry)
    ∨ (c.firstReady = none ∧ d.firstReady = some now
        ∧ (c.isBooking = true → d.expiry = c.expiry)
        ∧ (c.isBooking = false → now + 180 ≤ 4294967295 → d.expiry = now + 180)))

theorem Claim.later_refl (now : Nat) (c : Claim) : c.later now c := ⟨rfl, .inl ⟨rfl, rfl⟩⟩

theorem Claim.isBooking_of_terms {c d : Claim} (h : d.terms = c.terms) : d.isBooking = c.isBooking := by
  rw [Claim.isBooking, show d.id = c.id from congrArg Prod.fst h, Claim.isBooking]

theorem Claim.later_trans {now : Nat} {c d e : Claim} (h : c.later now d) (k : d.later now e) : c.later now e := by
  obtain ⟨terms, h⟩ := h
  obtain ⟨terms', k⟩ := k
  have kind := Claim.isBooking_of_terms terms
  refine ⟨terms'.trans terms, ?_⟩
  rcases h with ⟨first, expiry⟩ | ⟨unset, first, booking, walkup⟩
  · rw [first, expiry, kind] at k
    exact k
  · rcases k with ⟨first', expiry'⟩ | ⟨unset', -⟩
    · rw [expiry']
      exact .inr ⟨unset, first'.trans first, booking, walkup⟩
    · cases first.symm.trans unset'

theorem State.tested_later (s : State) (c : Claim) : c.later s.now (s.tested c) := by
  have readied : c.later s.now (s.readied c) := by
    refine ⟨rfl, ?_⟩
    cases hf : c.firstReady with
    | some t => exact .inl ⟨by simp [State.readied, hf], by simp [State.readied, hf]⟩
    | none =>
      refine .inr ⟨rfl, by simp [State.readied, hf], fun booking => by simp [State.readied, booking],
        fun walkup fits => ?_⟩
      have expiry : (s.readied c).expiry = s.storedTime (s.now + walkupHold) := by simp [State.readied, hf, walkup]
      exact expiry.trans (s.storedTime_eq fits)
  unfold State.tested
  split
  · split
    · exact readied
    · exact c.later_refl _
  · split
    · exact c.later_refl _
    · exact ⟨rfl, .inl ⟨rfl, rfl⟩⟩
  · exact c.later_refl _

/-- The time is the same, and each open claim comes from one of its name as matches and READY tests change claims. -/
def State.laterClaims (s t : State) : Prop :=
  t.clock = s.clock ∧ ∀ id d, t.claim? id = some d → ∃ c, s.claim? id = some c ∧ c.later s.clock.time d

theorem State.laterClaims_refl (s : State) : s.laterClaims s := ⟨rfl, fun _ d h => ⟨d, h, d.later_refl _⟩⟩

theorem State.laterClaims_trans {s t u : State} (h : s.laterClaims t) (k : t.laterClaims u) : s.laterClaims u := by
  refine ⟨k.1.trans h.1, fun id e he => ?_⟩
  obtain ⟨d, hd, de⟩ := k.2 id e he
  obtain ⟨c, hc, cd⟩ := h.2 id d hd
  rw [h.1] at de
  exact ⟨c, hc, Claim.later_trans cd de⟩

theorem State.retest_laterClaims (s : State) (id : ClaimId) : s.laterClaims (s.retest id) := by
  refine ⟨State.inner_clock (State.inner_retest s.inner_refl id), fun i d hd => ?_⟩
  by_cases hi : i = id
  · obtain rfl := hi
    cases hc : s.claim? i with
    | none =>
      rw [State.retest, hc] at hd
      cases hc.symm.trans hd
    | some c =>
      obtain rfl := Option.some.inj ((State.retest_claim? hc).symm.trans hd)
      exact ⟨c, rfl, s.tested_later c⟩
  · rw [s.retest_claim?_other hi] at hd
    exact ⟨d, hd, d.later_refl _⟩

theorem State.bindClaim_laterClaims (s : State) (id : ClaimId) (b : BayNo) (d : MatchDetail) :
    s.laterClaims (s.bindClaim id b d) := by
  have bound : s.laterClaims (s.bound id b d) := by
    refine ⟨?_, fun i k hk => ?_⟩
    · have same : s.inner (s.bound id b d) := State.inner_wantReplan (State.inner_notify (State.inner_modClaim
        (State.inner_fillTest (State.inner_modBay' (State.inner_modClaim s.inner_refl (by exact fun _ => rfl))
          (by exact fun _ => ⟨rfl, rfl⟩)) _) (by intro c; split <;> rfl)) _ _ _ _)
      exact State.inner_clock same
    · rw [State.bound_claim?] at hk
      split at hk
      · next e =>
        obtain ⟨c, hc, rfl⟩ := Option.map_eq_some_iff.mp hk
        exact ⟨c, e ▸ hc, rfl, .inl ⟨rfl, rfl⟩⟩
      · exact ⟨k, hk, k.later_refl _⟩
  exact State.laterClaims_trans bound (State.retest_laterClaims _ id)

theorem State.takeWaiting_laterClaims (s : State) (id : ClaimId) : s.laterClaims (s.takeWaiting id) := by
  rcases s.takeWaiting_cases id with e | ⟨_, n, d, -, -, -, e⟩
  · rw [e]; exact s.laterClaims_refl
  · rw [e]; exact s.bindClaim_laterClaims id n d

/-- The end of an arrival changes claims as matches and READY tests do. -/
theorem State.settle_laterClaims (s : State) : s.laterClaims s.settle :=
  State.settle_kept (P := s.laterClaims) (fun _ k => k)
    (fun t id k => State.laterClaims_trans k (t.takeWaiting_laterClaims id))
    (State.retestAll_kept (fun t id k => State.laterClaims_trans k (t.retest_laterClaims id)) s.laterClaims_refl)

/-- An open claim is open at the end of an arrival, later by it. -/
theorem State.settle_claim_later {s : State} {id : ClaimId} {c : Claim} (hc : s.claim? id = some c) :
    ∃ d, s.settle.claim? id = some d ∧ c.later s.clock.time d := by
  obtain ⟨d, hd, -⟩ := State.settle_claim_stays hc
  obtain ⟨c', hc', later⟩ := s.settle_laterClaims.2 id d hd
  exact ⟨d, hd, Option.some.inj (hc.symm.trans hc') ▸ later⟩

/-- States of the same names whose claims keep their terms agree on every claim's terms. -/
theorem State.terms_agree {s t : State} (ids : t.claimIds = s.claimIds) (terms : s.termsKept t) (id : ClaimId) :
    (t.claim? id).map Claim.terms = (s.claim? id).map Claim.terms := by
  cases hc : s.claim? id with
  | some c =>
    obtain ⟨d, hd, same⟩ := State.claim_stays ids terms hc
    rw [hd, Option.map_some, Option.map_some, same]
  | none =>
    cases hd : t.claim? id with
    | none => rfl
    | some d =>
      obtain ⟨c, hc', -⟩ := terms id d hd
      cases hc.symm.trans hc'

theorem State.settle_terms (s : State) (id : ClaimId) :
    (s.settle.claim? id).map Claim.terms = (s.claim? id).map Claim.terms :=
  State.terms_agree s.settle_claimIds ((keptByArrival_terms s).toTrade.toMatch.settle s.termsKept_refl) id

theorem State.settle_length (s : State) : s.settle.book.claims.length = s.book.claims.length := by
  have lengths : ∀ t : State, t.claimIds.length = t.book.claims.length := fun t => List.length_map ..
  rw [← lengths, ← lengths, s.settle_claimIds]

end Sys2Proof.Machine
end

section
/-! Opening a claim (O27, O28): the checks in their order, and the record opened (R45 to R47). -/

open Sys2Proof Sys2Proof.Machine
namespace Sys2Proof.Machine

/-! ### A claim put among others -/

theorem insertClaim_find_other {c : Claim} {p : Claim → Bool} (h : p c = false) (cs : List Claim) :
    (insertClaim c cs).find? p = cs.find? p := by
  induction cs with
  | nil => simp [insertClaim, h]
  | cons d ds ih =>
    rw [insertClaim]
    split
    · rw [List.find?_cons, h]
    · rw [List.find?_cons, List.find?_cons, ih]

theorem insertClaim_find_self {c : Claim} {p : Claim → Bool} (h : p c = true) {cs : List Claim}
    (none : cs.find? p = none) : (insertClaim c cs).find? p = some c := by
  induction cs with
  | nil => simp [insertClaim, h]
  | cons d ds ih =>
    have hd : p d = false := by simpa using List.find?_eq_none.mp none d List.mem_cons_self
    rw [List.find?_cons, hd] at none
    rw [insertClaim]
    split
    · rw [List.find?_cons, h]
    · rw [List.find?_cons, hd]
      exact ih none

/-! ### The record opened -/

section
variable {s : State} {c : Claim} (new : s.claim? c.id = none)
include new

theorem State.addClaim_claim? (id : ClaimId) : (s.addClaim c).claim? id = if id = c.id then some c else s.claim? id := by
  split
  · next e =>
    obtain rfl := e
    exact insertClaim_find_self (decide_eq_true rfl) new
  · next e => exact insertClaim_find_other (decide_eq_false fun k => e k.symm) _

/-- What an opening leaves (R46, R47): the claim, later by the READY tests and the pass, among the others on their terms,
and nothing else but matches written. -/
theorem State.openClaim_spec (sum : Nat) : ∃ u : State, s.openClaim c sum = u.reply (u.openedPayload c.id)
    ∧ (∃ d, u.claim? c.id = some d ∧ c.later s.clock.time d)
    ∧ u.book.seq = c.seq ∧ u.book.claims.length = s.book.claims.length + 1
    ∧ (∀ j, j ≠ c.id → (u.claim? j).map Claim.terms = (s.claim? j).map Claim.terms)
    ∧ { s with book := { s.book with seq := c.seq } }.sameButMatches u := by
  set t := ((s.addClaim c).countTime sum).wantPass with ht
  have claims : ∀ id, t.claim? id = if id = c.id then some c else s.claim? id := fun id => by
    rw [ht, State.wantPass_claim?, State.countTime_claim?, State.addClaim_claim? new]
  have book : t.book = (s.addClaim c).book := by rw [ht, State.wantPass_book, State.countTime_book]
  have clock : t.clock = s.clock := by rw [ht, State.wantPass_clock, State.countTime_clock]; rfl
  have same : { s with book := { s.book with seq := c.seq } }.sameButMatches t := State.same_wantPass
    (State.same_countTime ⟨rfl, rfl, rfl, rfl, rfl, rfl, rfl, fun _ => rfl, fun _ => rfl⟩ sum)
  have settled := State.same_settle same
  refine ⟨t.settle, rfl, ?_, settled.2.2.2.2.2.2.1, ?_, fun j hj => ?_, settled⟩
  · rw [← clock]
    exact State.settle_claim_later ((claims c.id).trans (if_pos rfl))
  · rw [State.settle_length, book]
    exact (insertClaim_perm c s.book.claims).length_eq
  · rw [State.settle_terms, claims, if_neg hj]

end

/-! ### The fields of an opening -/

theorem classOfByte_none {n : Byte} (h : 2 < n.toNat) : classOfByte n = none := by
  unfold classOfByte
  split
  · omega
  · omega
  · omega
  · rfl

theorem classOfByte_some {n : Byte} (h : ¬ 2 < n.toNat) : ∃ k, classOfByte n = some k := by
  have cases : n.toNat = 0 ∨ n.toNat = 1 ∨ n.toNat = 2 := by omega
  unfold classOfByte
  rcases cases with k | k | k <;> rw [k] <;> exact ⟨_, rfl⟩

theorem flagOfByte_none {n : Byte} (h : 1 < n.toNat) : flagOfByte n = none := by
  unfold flagOfByte
  split
  · omega
  · omega
  · rfl

theorem flagOfByte_some {n : Byte} (h : ¬ 1 < n.toNat) : flagOfByte n = some (decide (n = 1)) := by
  have cases : n = 0 ∨ n = 1 := by
    rcases (by omega : n.toNat = 0 ∨ n.toNat = 1) with k | k
    · exact .inl (BitVec.eq_of_toNat_eq k)
    · exact .inr (BitVec.eq_of_toNat_eq k)
  rcases cases with rfl | rfl <;> rfl

/-- The level taken (R45), by the field. -/
theorem takenLevel_field (walkup : Nat) (level : Half) :
    takenLevel walkup level.toNat = if level = 0 then walkup else max 500 level.toNat := by
  have zero : level.toNat = 0 ↔ level = 0 := ⟨fun k => BitVec.eq_of_toNat_eq k, fun k => k ▸ rfl⟩
  simp only [takenLevel, zero]

/-! ### OPEN-BOOKING (R45, R46) -/

section
variable {s : State} {tag : Half} {cls : Byte} {level : Half} {due : Word} {hold : Half} {first : Byte}

theorem State.openBooking_badField (h : tag = 0 ∨ 2 < cls.toNat ∨ 1000 < level.toNat ∨ 1 < first.toNat) :
    s.openBooking tag cls level due hold first = s.refuse .badField := by
  unfold State.openBooking
  split
  · next k fi hk hf =>
    have hcls : ¬ 2 < cls.toNat := fun x => nomatch (classOfByte_none x).symm.trans hk
    have hfirst : ¬ 1 < first.toNat := fun x => nomatch (flagOfByte_none x).symm.trans hf
    rw [if_pos (h.imp_right fun x => (x.resolve_left hcls).resolve_right hfirst)]
  · rfl

/-- The record a booking is opened with (R45). -/
def State.booking (s : State) (tag : Half) (k : PackClass) (level : Half) (due : Word) (hold : Half) (first : Byte) :
    Claim :=
  let d := max s.now due.toNat
  let h := takenHold hold.toNat
  newClaim ⟨.gateway, tag⟩ s.book.nextSeq s.now k (takenLevel s.params.level level.toNat) d (some h) (decide (first = 1))
    (s.storedTime (d + h))

/-- The checks after the fields (R46). -/
theorem State.openBooking_checks (h : ¬(tag = 0 ∨ 2 < cls.toNat ∨ 1000 < level.toNat ∨ 1 < first.toNat)) {k : PackClass}
    (hk : classOfByte cls = some k) : s.openBooking tag cls level due hold first =
      if s.clock.isSet = false then s.refuse .clockUnset
      else if s.clock.time + 86400 < due.toNat then s.refuse .badField
      else if (s.claim? ⟨.gateway, tag⟩).isSome then s.refuse .duplicateTag
      else if 48 ≤ s.book.claims.length then s.refuse .bookFull
      else s.openClaim (s.booking tag k level due hold first) (max s.now due.toNat + takenHold hold.toNat) := by
  obtain ⟨htag, -, hlevel, hfirst⟩ := by simpa only [not_or] using h
  simp only [State.openBooking, hk, flagOfByte_some hfirst]
  rw [if_neg (not_or.mpr ⟨htag, hlevel⟩)]
  rfl

end

/-- Settles O27. -/
theorem openBooking : Obligations.OpenBooking := by
  unfold Obligations.OpenBooking
  intro tag cls level due hold first s free
  dsimp only
  set r : Request := .openBooking tag cls level due hold first
  have refused : ∀ {c}, s.openBooking tag cls level due hold first = s.refuse c →
      exec (.openBooking .gateway tag cls level due hold first) s = .next (s.refusal .gateway 0x20 c []) :=
    fun h => exec_refused r free rfl h
  have known : ¬(tag = 0 ∨ 2 < cls.toNat ∨ 1000 < level.toNat ∨ 1 < first.toNat) → ∃ k, classOfByte cls = some k :=
    fun good => classOfByte_some fun x => good (.inr (.inl x))
  refine ⟨fun bad => refused (State.openBooking_badField bad), fun good unset => ?_, fun good set' far => ?_,
    fun good set' near => ⟨fun dup => ?_, fun new full => ?_, fun new room k hk => ?_⟩⟩
  case refine_1 =>
    obtain ⟨k, hk⟩ := known good
    exact refused (by rw [State.openBooking_checks good hk, if_pos unset])
  case refine_2 =>
    obtain ⟨k, hk⟩ := known good
    refine refused ?_
    rw [State.openBooking_checks good hk, if_neg (by simp [set']), if_pos far]
  case refine_3 =>
    obtain ⟨k, hk⟩ := known good
    refine refused ?_
    rw [State.openBooking_checks good hk, if_neg (by simp [set']), if_neg (Nat.not_lt.mpr near), if_pos dup]
  case refine_4 =>
    obtain ⟨k, hk⟩ := known good
    refine refused ?_
    rw [State.openBooking_checks good hk, if_neg (by simp [set']), if_neg (Nat.not_lt.mpr near), if_neg (by simp [new]),
      if_pos full]
  case refine_5 =>
    obtain ⟨u, answer, ⟨c, hc, terms, expiry⟩, rest⟩ := State.openClaim_spec (s := s)
      (c := s.booking tag k level due hold first) new (max s.now due.toNat + takenHold hold.toNat)
    refine ⟨u, c, exec_answered r free rfl ?_, hc, ?_, fun fits => ?_, rest⟩
    · refine Eq.trans ?_ answer
      exact (State.openBooking_checks good hk).trans (by
        rw [if_neg (by simp [set']), if_neg (Nat.not_lt.mpr near), if_neg (by simp [new]), if_neg (Nat.not_le.mpr room)])
    · rw [terms, ← takenLevel_field]
      rfl
    · have kept : c.expiry = (s.booking tag k level due hold first).expiry :=
        expiry.elim (fun h => h.2) fun h => h.2.2.1 rfl
      exact kept.trans (s.storedTime_eq fits)

/-! ### OPEN-WALKUP (R47) -/

section
variable {s : State} {tag : Half} {cls : Byte} {level : Half}

theorem State.openWalkup_badField (h : tag = 0 ∨ 2 < cls.toNat ∨ 1000 < level.toNat) :
    s.openWalkup tag cls level = s.refuse .badField := by
  unfold State.openWalkup
  split
  · next k hk =>
    have hcls : ¬ 2 < cls.toNat := fun x => nomatch (classOfByte_none x).symm.trans hk
    rw [if_pos (h.imp_right fun x => x.resolve_left hcls)]
  · rfl

/-- The record a walk-up is opened with (R47). -/
def State.walkup (s : State) (tag : Half) (k : PackClass) (level : Half) : Claim :=
  newClaim ⟨.terminal, tag⟩ s.book.nextSeq s.now k (takenLevel s.params.level level.toNat) s.now none false
    (s.storedTime (s.now + walkupWait))

/-- The checks after the fields (R47). -/
theorem State.openWalkup_checks (h : ¬(tag = 0 ∨ 2 < cls.toNat ∨ 1000 < level.toNat)) {k : PackClass}
    (hk : classOfByte cls = some k) : s.openWalkup tag cls level =
      if s.schedule.walkupsOpen = false then s.refuse .walkupClosed
      else if (s.claim? ⟨.terminal, tag⟩).isSome then s.refuse .duplicateTag
      else if 48 ≤ s.book.claims.length then s.refuse .bookFull
      else s.openClaim (s.walkup tag k level) (s.now + walkupWait) := by
  obtain ⟨htag, -, hlevel⟩ := by simpa only [not_or] using h
  simp only [State.openWalkup, hk]
  rw [if_neg (not_or.mpr ⟨htag, hlevel⟩)]
  rfl

end

/-- Settles O28. -/
theorem openWalkup : Obligations.OpenWalkup := by
  unfold Obligations.OpenWalkup
  intro tag cls level s free
  dsimp only
  set r : Request := .openWalkup tag cls level
  have refused : ∀ {c}, s.openWalkup tag cls level = s.refuse c →
      exec (.openWalkup .terminal tag cls level) s = .next (s.refusal .terminal 0x21 c []) :=
    fun h => exec_refused r free rfl h
  have known : ¬(tag = 0 ∨ 2 < cls.toNat ∨ 1000 < level.toNat) → ∃ k, classOfByte cls = some k :=
    fun good => classOfByte_some fun x => good (.inr (.inl x))
  refine ⟨fun bad => refused (State.openWalkup_badField bad), fun good closed => ?_,
    fun good opened => ⟨fun dup => ?_, fun new full => ?_, fun new room k hk => ?_⟩⟩
  case refine_1 =>
    obtain ⟨k, hk⟩ := known good
    exact refused (by rw [State.openWalkup_checks good hk, if_pos closed])
  case refine_2 =>
    obtain ⟨k, hk⟩ := known good
    exact refused (by rw [State.openWalkup_checks good hk, if_neg (by simp [opened]), if_pos dup])
  case refine_3 =>
    obtain ⟨k, hk⟩ := known good
    exact refused (by rw [State.openWalkup_checks good hk, if_neg (by simp [opened]), if_neg (by simp [new]), if_pos full])
  case refine_4 =>
    obtain ⟨u, answer, ⟨c, hc, terms, held⟩, rest⟩ := State.openClaim_spec (s := s) (c := s.walkup tag k level) new
      (s.now + walkupWait)
    refine ⟨u, c, exec_answered r free rfl ?_, hc, ?_, ?_, fun fits => ?_, rest⟩
    · refine Eq.trans ?_ answer
      exact (State.openWalkup_checks good hk).trans (by
        rw [if_neg (by simp [opened]), if_neg (by simp [new]), if_neg (Nat.not_le.mpr room)])
    · rw [terms, ← takenLevel_field]
      rfl
    · exact held.imp (fun h => h.1) fun h => h.2.1
    · rcases held with ⟨unset, expiry⟩ | ⟨-, first, -, expiry⟩
      · rw [if_pos (show c.firstReady = none from unset), expiry]
        have stored : (s.walkup tag k level).expiry = s.storedTime (s.now + walkupWait) := by
          simp only [State.walkup, newClaim]
        rw [stored]
        exact s.storedTime_eq fits
      · have kind : (s.walkup tag k level).isBooking = false := by simp [Claim.isBooking, State.walkup, newClaim]
        have fits' : s.clock.time + 180 ≤ 4294967295 := by omega
        rw [expiry kind fits', if_neg (by simp [first])]

end Sys2Proof.Machine
end

section
/-! Cancelling and amending a claim (O29, O30): the checks in their order, and the record closed or amended (R48 to R50). -/

open Sys2Proof Sys2Proof.Machine
namespace Sys2Proof.Machine

/-! ### A closed claim -/

theorem State.closeClaim_claim?_other (s : State) {id i : ClaimId} (h : i ≠ id) (o : CloseOutcome) :
    (s.closeClaim id o).claim? i = s.claim? i := by
  cases hc : s.claim? id with
  | none => simp only [State.closeClaim, hc]
  | some c =>
    simp only [State.closeClaim, hc]
    set f := (match c.takeBay with
      | none => s
      | some b => ((s.modBay b (fun r => { r with matched := none })).fillTest b).wantReplan) with hf
    have book : f.book = s.book := by
      rw [hf]
      split
      · rfl
      · exact State.fillTest_book _ _
    exact ((State.close_claim? f id i).trans (if_neg h)).trans (State.claim?_of_book book i)

theorem State.closeClaim_matched {s : State} {id : ClaimId} {c : Claim} {b : BayNo} (hc : s.claim? id = some c)
    (hb : c.takeBay = some b) (o : CloseOutcome) : ((s.closeClaim id o).bay b).matched = none := by
  simp only [State.closeClaim, hc, hb, State.wantPass_bay, State.post_bay, State.setClaims_bay, State.wantReplan_bay,
    State.fillTest_matched, State.modBay_bay_self]

/-- A bay not matched with a name no open claim has is not matched with it at the end of an arrival: a pass binds open
claims. -/
theorem State.settle_unmatched {s : State} {id : ClaimId} {b : BayNo} (closed : s.claim? id = none)
    (h : (s.bay b).matched ≠ some id) : (s.settle.bay b).matched ≠ some id := by
  have K := (keptByArrival_closed id).toTrade.toMatch
  refine (State.settle_kept (P := fun t => t.claim? id = none ∧ (t.bay b).matched ≠ some id) (fun _ k => k)
    (fun t i k => ⟨K.takeWaiting k.1 i, ?_⟩)
    (State.retestAll_kept (P := fun t => t.claim? id = none ∧ (t.bay b).matched ≠ some id)
      (fun t i k => ⟨K.retest k.1 i, by rw [State.retest_bay]; exact k.2⟩) ⟨closed, h⟩)).2
  rcases t.takeWaiting_cases i with e | ⟨c, n, d, hc, -, -, e⟩
  · rw [e]; exact k.2
  · rw [e]
    by_cases hn : b = n
    · obtain rfl := hn
      rw [State.bindClaim_eq, State.retest_bay, (t.bound_rest i b d).1]
      rintro ⟨⟩
      cases k.1.symm.trans hc
    · rw [State.bindClaim_bay_other _ _ _ hn]
      exact k.2

/-- A claim closed and the arrival ended: it is gone, its bay does not name it, and the others keep their terms (R43). -/
theorem State.close_settle_spec (s : State) (id : ClaimId) (o : CloseOutcome) :
    ((s.closeClaim id o).settle).claim? id = none
      ∧ (∀ c b, s.claim? id = some c → c.takeBay = some b → (((s.closeClaim id o).settle).bay b).matched ≠ some id)
      ∧ (∀ j, j ≠ id → (((s.closeClaim id o).settle).claim? j).map Claim.terms = (s.claim? j).map Claim.terms)
      ∧ s.sameButMatches ((s.closeClaim id o).settle) := by
  have closed := s.closeClaim_claim? id o
  refine ⟨(keptByArrival_closed id).toTrade.toMatch.settle closed, fun c b hc hb => ?_, fun j hj => ?_,
    State.same_settle (State.same_closeClaim s.sameButMatches_refl id o)⟩
  · exact State.settle_unmatched closed (by rw [State.closeClaim_matched hc hb]; exact nofun)
  · rw [State.settle_terms, s.closeClaim_claim?_other hj]

/-! ### CANCEL-CLAIM (R50) -/

theorem originOfByte_gateway {origin : Byte} : originOfByte origin = some .gateway ↔ origin = 1 := by
  refine ⟨fun h => BitVec.eq_of_toNat_eq (originOfByte_toNat h).symm, ?_⟩
  rintro rfl
  rfl

/-- Settles O30. -/
theorem cancelClaim : Obligations.CancelClaim := by
  unfold Obligations.CancelClaim
  intro p origin tag s free hp
  have may : permitted p (.cancelClaim origin tag) = true := by simp [permitted, hp]
  have refused : ∀ {c}, s.cancelClaim p origin tag = s.refuse c →
      exec (.cancelClaim p origin tag) s = .next (s.refusal p 0x23 c []) :=
    fun h => exec_refused (.cancelClaim origin tag) free may h
  refine ⟨fun terminal gateway => refused (if_pos ⟨terminal, originOfByte_gateway.mpr gateway⟩), fun own =>
    ⟨fun bad => refused ?_, fun o ho htag => ?_⟩⟩
  · rw [State.cancelClaim, if_neg (by rwa [originOfByte_gateway]), claimIdOf_none bad]
  have checked : s.cancelClaim p origin tag = match s.claim? ⟨o, tag⟩ with
      | none => s.refuse .noSuchClaim
      | some c =>
        if c.state = .swapping then s.refuse .claimBusy
        else ((s.closeClaim ⟨o, tag⟩ .cancelled).settle).reply
          (u8 o.code ++ u16 tag.toNat ++ optionalPack c.returned) := by
    rw [State.cancelClaim, if_neg (by rwa [originOfByte_gateway]), claimIdOf_some ho htag] <;> rfl
  refine ⟨fun gone => refused (by rw [checked, gone]), fun c hc => ⟨fun busy => refused ?_, fun idle => ?_⟩⟩
  · rw [checked, hc]
    exact if_pos busy
  · obtain ⟨gone, released, others, same⟩ := s.close_settle_spec ⟨o, tag⟩ .cancelled
    refine ⟨_, ?_, gone, fun b hb => released c b hc hb, others, same⟩
    refine exec_answered (.cancelClaim origin tag) free may ?_
    refine checked.trans ?_
    rw [hc]
    dsimp only
    rw [if_neg idle, u8_origin ho, u16_half]
    rfl

/-! ### The record amended (R49) -/

/-- An amended claim with its expiry (R49). -/
def State.amended (s : State) (c : Claim) (a : Amend) : Claim :=
  if (a.write c).due = c.due ∧ (a.write c).hold = c.hold then a.write c
  else { a.write c with expiry := s.storedTime (a.write c).expirySum }

theorem State.amended_rest (s : State) (c : Claim) (a : Amend) :
    (s.amended c a).terms = (a.write c).terms ∧ (s.amended c a).id = c.id := by
  unfold State.amended
  split <;> exact ⟨rfl, rfl⟩

/-- The expiry in force stands where neither due time nor hold window changed, and follows them otherwise (R49). -/
theorem State.amended_expiry (s : State) {c : Claim} {a : Amend}
    (fits : (if (a.write c).due = c.due ∧ (a.write c).hold = c.hold then c.expiry
      else (a.write c).due + (a.write c).hold.getD 0) ≤ 4294967295) :
    (s.amended c a).expiry = if (a.write c).due = c.due ∧ (a.write c).hold = c.hold then c.expiry
      else (a.write c).due + (a.write c).hold.getD 0 := by
  unfold State.amended
  split at fits
  · next h => rw [if_pos h, if_pos h]; rfl
  · next h => rw [if_neg h, if_neg h]; exact s.storedTime_eq fits

theorem State.filter_claim?_none (s : State) (id : ClaimId) :
    (s.book.claims.filter (fun e => !decide (e.id = id))).find? (fun c => decide (c.id = id)) = none := by
  have gone := s.close_claim? id id
  rw [if_pos rfl] at gone
  exact gone

theorem State.writeAmend_claim? {s : State} {c : Claim} (hc : s.claim? c.id = some c) (a : Amend) (id : ClaimId) :
    (s.writeAmend c a).claim? id = if id = c.id then some (s.amended c a) else s.claim? id := by
  unfold State.writeAmend State.amended
  dsimp only
  split
  · rw [State.modClaim_claim? s c.id (fun _ => a.write c) (fun _ _ => rfl), hc]
    rfl
  · rw [State.countTime_claim?]
    split
    · next e =>
      rw [e]
      exact insertClaim_find_self (decide_eq_true rfl) (s.filter_claim?_none c.id)
    · next e =>
      refine (insertClaim_find_other (decide_eq_false fun k => e k.symm) _).trans ?_
      have others := s.close_claim? c.id id
      rw [if_neg e] at others
      exact others

theorem State.writeAmend_same (s : State) (c : Claim) (a : Amend) : s.sameButMatches (s.writeAmend c a) := by
  unfold State.writeAmend
  dsimp only
  split
  · exact State.same_modClaim s.sameButMatches_refl _ _
  · exact State.same_countTime (State.same_setClaims s.sameButMatches_refl _) _

/-! ### The effects of an amend -/

theorem State.laterClaims_of_book {s t : State} (clock : t.clock = s.clock) (book : t.book = s.book) : s.laterClaims t :=
  ⟨clock, fun id d hd => ⟨d, (State.claim?_of_book book id).symm.trans hd, d.later_refl _⟩⟩

theorem State.unmatch_laterClaims (s : State) (id : ClaimId) (l : LossCause) : s.laterClaims (s.unmatch id l) := by
  by_cases hn : ∃ c b, s.claim? id = some c ∧ c.takeBay = some b
  · obtain ⟨c, b, hc, hb⟩ := hn
    refine ⟨State.inner_clock (State.inner_unmatch s.inner_refl id l), fun i d hd => ?_⟩
    rw [State.unmatch_claim? hc hb] at hd
    split at hd
    · next e =>
      obtain rfl := Option.some.inj hd
      exact ⟨c, e ▸ hc, rfl, .inl ⟨rfl, rfl⟩⟩
    · exact ⟨d, hd, d.later_refl _⟩
  · rw [State.unmatch_none fun c hc => Option.eq_none_iff_forall_ne_some.mpr fun b hb => hn ⟨c, b, hc, hb⟩]
    exact s.laterClaims_refl

theorem State.unmatch_claimIds (s : State) (id : ClaimId) (l : LossCause) : (s.unmatch id l).claimIds = s.claimIds := by
  by_cases hn : ∃ c b, s.claim? id = some c ∧ c.takeBay = some b
  · obtain ⟨c, b, hc, hb⟩ := hn
    simp only [State.unmatch, hc, hb]
    exact State.twice_claimIds (f := fun c => { c with takeBay := none }) (fun _ => ⟨rfl, fun k => k⟩)
      (trading_unless (f := fun c => { c with state := .waiting, projected := none }) fun _ => ⟨rfl, nofun⟩)
      (State.fillTest_book _ _)
  · rw [State.unmatch_none fun c hc => Option.eq_none_iff_forall_ne_some.mpr fun b hb => hn ⟨c, b, hc, hb⟩]

/-- The effects of an amend change matches alone, open and close no claim, and keep the claims' terms (R49). -/
theorem State.amendEffects_spec (s : State) (old new : Claim) :
    s.sameButMatches (s.amendEffects old new) ∧ (s.amendEffects old new).claimIds = s.claimIds
      ∧ s.termsKept (s.amendEffects old new) ∧ s.laterClaims (s.amendEffects old new) := by
  have K := (keptByArrival_terms s).toTrade.toMatch
  refine State.amendEffects_kept (P := fun t => s.sameButMatches t ∧ t.claimIds = s.claimIds ∧ s.termsKept t ∧ s.laterClaims t)
    (fun t k => ?_) (fun t b k => ?_) (fun t id l k => ?_) (fun t id k => ?_)
    ⟨s.sameButMatches_refl, rfl, s.termsKept_refl, s.laterClaims_refl⟩ old new <;> obtain ⟨same, ids, terms, later⟩ := k
  · exact ⟨State.same_wantReplan same, ids, K.wantReplan terms, later⟩
  · refine ⟨State.same_fillTest same b, (State.claimIds_of_book (t.fillTest_book b)).trans ids, K.fill terms,
      State.laterClaims_trans later (State.laterClaims_of_book ?_ (t.fillTest_book b))⟩
    exact State.inner_clock (State.inner_fillTest t.inner_refl b)
  · exact ⟨State.same_unmatch same id l, (t.unmatch_claimIds id l).trans ids, K.unmatch terms id l,
      State.laterClaims_trans later (t.unmatch_laterClaims id l)⟩
  · exact ⟨State.same_retest same id, (t.retest_claimIds id).trans ids, K.retest terms id,
      State.laterClaims_trans later (t.retest_laterClaims id)⟩

/-- A booking's expiry stands under matches and READY tests. -/
theorem Claim.later_booking {now : Nat} {c d : Claim} (h : c.later now d) (kind : c.isBooking = true) :
    d.expiry = c.expiry := h.2.elim (fun k => k.2) fun k => k.2.2.1 kind

/-- A checked amend of a booking (R49): closed when the new expiry has come, amended otherwise; every other claim on its
terms, and nothing else but matches written. -/
theorem State.amend_spec {s : State} {c : Claim} (hc : s.claim? c.id = some c) (kind : c.isBooking = true) (a : Amend) :
    ∃ (u : State) (payload : List Byte), s.amend c a = u.reply payload ∧ s.sameButMatches u
      ∧ (∀ j, j ≠ c.id → (u.claim? j).map Claim.terms = (s.claim? j).map Claim.terms)
      ∧ ((s.amended c a).expiry ≤ s.clock.time → u.claim? c.id = none ∧ payload.head? = some 4)
      ∧ (s.clock.time < (s.amended c a).expiry → ∃ g, u.claim? c.id = some g ∧ g.terms = (a.write c).terms
          ∧ g.expiry = (s.amended c a).expiry
          ∧ payload = amendedPayload g (positionIn c.id u.book.claims) g.state.code) := by
  obtain ⟨amendedTerms, amendedId⟩ := s.amended_rest c a
  have written := State.writeAmend_claim? hc a
  have writtenSame := s.writeAmend_same c a
  set w := s.writeAmend c a with hw
  obtain ⟨effectsSame, ids, terms, later⟩ := w.amendEffects_spec c (a.write c)
  set t := w.amendEffects c (a.write c) with ht
  have clock : t.clock = s.clock := later.1.trans (congrArg (fun x => x.2.2.1) writtenSame.1)
  have others : ∀ j, j ≠ c.id → (t.claim? j).map Claim.terms = (s.claim? j).map Claim.terms := fun j hj => by
    rw [State.terms_agree ids terms, written, if_neg hj]
  have here := (written c.id).trans (if_pos rfl)
  obtain ⟨d, hd, -⟩ := State.claim_stays ids terms here
  obtain ⟨d', hd', dLater⟩ := later.2 c.id d hd
  obtain rfl := Option.some.inj (here.symm.trans hd')
  have amendedKind : (s.amended c a).isBooking = true := by rw [Claim.isBooking, amendedId]; exact kind
  have expiry : d.expiry = (s.amended c a).expiry := Claim.later_booking dLater amendedKind
  have same := State.sameButMatches_trans writtenSame effectsSame
  have reply : s.amend c a = if d.expiry ≤ t.now then
        ((t.closeClaim c.id .expired).settle).reply (amendedPayload d (positionIn c.id t.book.claims) 4)
      else match t.wantPass.settle.claim? c.id with
        | none => t.wantPass.settle.reply []
        | some e => t.wantPass.settle.reply
            (amendedPayload e (positionIn c.id t.wantPass.settle.book.claims) e.state.code) := by
    rw [State.amend, ← hw, ← ht]
    simp only [hd] <;> rfl
  have now : t.now = s.clock.time := congrArg Clock.time clock
  rw [expiry, now] at reply
  by_cases come : (s.amended c a).expiry ≤ s.clock.time
  · obtain ⟨gone, -, closedOthers, closedSame⟩ := t.close_settle_spec c.id .expired
    rw [if_pos come] at reply
    refine ⟨_, _, reply, State.sameButMatches_trans same closedSame, fun j hj => (closedOthers j hj).trans (others j hj),
      fun _ => ⟨gone, by simp [amendedPayload, u8_eq]⟩, fun k => absurd come (Nat.not_le.mpr k)⟩
  · obtain ⟨g, hg, gLater⟩ := State.settle_claim_later (s := t.wantPass) hd
    have dKind : d.isBooking = true := (Claim.isBooking_of_terms dLater.1).trans amendedKind
    rw [if_neg come, hg] at reply
    refine ⟨_, _, reply, State.same_settle (State.same_wantPass same), fun j hj => ?_, fun k => absurd k come,
      fun _ => ⟨g, hg, gLater.1.trans (dLater.1.trans amendedTerms), (Claim.later_booking gLater dKind).trans expiry, rfl⟩⟩
    exact (State.settle_terms t.wantPass j).trans (others j hj)

/-! ### AMEND-BOOKING (R48) -/

theorem amendHasValue_false (present : Byte) : amendHasValue present = false ↔ present.extractLsb' 0 4 = 0 := by
  constructor
  · intro h
    simp only [amendHasValue, Bool.or_eq_false_iff] at h
    obtain ⟨⟨⟨h0, h1⟩, h2⟩, h3⟩ := h
    refine BitVec.eq_of_getLsbD_eq fun i hi => ?_
    rw [BitVec.getLsbD_extractLsb', Nat.zero_add]
    have bits : i = 0 ∨ i = 1 ∨ i = 2 ∨ i = 3 := by omega
    rcases bits with rfl | rfl | rfl | rfl
    · rw [h0]; rfl
    · rw [h1]; rfl
    · rw [h2]; rfl
    · rw [h3]; rfl
  · intro h
    have bit : ∀ i < 4, present.getLsbD i = false := fun i hi => by
      have := congrArg (fun x => x.getLsbD i) h
      simpa [BitVec.getLsbD_extractLsb', hi] using this
    rw [amendHasValue, bit 0 (by decide), bit 1 (by decide), bit 2 (by decide), bit 3 (by decide)]
    rfl

section
variable {s : State} {tag : Half} {present : Byte} {due : Word} {hold level : Half} {cls : Byte}

theorem amend_badField_iff : (tag = 0 ∨ amendHasValue present = false
      ∨ (present.getLsbD 3 && (classOfByte cls).isNone) = true ∨ (present.getLsbD 2 && decide (1000 < level.toNat)) = true)
    ↔ (tag = 0 ∨ present.extractLsb' 0 4 = 0 ∨ (present.getLsbD 3 = true ∧ 2 < cls.toNat)
      ∨ (present.getLsbD 2 = true ∧ 1000 < level.toNat)) := by
  have cls_none : (classOfByte cls).isNone = true ↔ 2 < cls.toNat := by
    constructor
    · intro h
      by_contra k
      obtain ⟨x, hx⟩ := classOfByte_some k
      rw [hx] at h
      cases h
    · intro h
      rw [classOfByte_none h]
      rfl
  rw [amendHasValue_false, Bool.and_eq_true, Bool.and_eq_true, cls_none, decide_eq_true_eq]

/-- The values an AMEND-BOOKING carries, as taken (R48). -/
def State.amendOf (s : State) (present : Byte) (due : Word) (hold level : Half) (cls : Byte) : Amend :=
  Amend.taken
    { due := presentIf present 0 due.toNat
      hold := presentIf present 1 hold.toNat
      level := presentIf present 2 level.toNat
      cls := if present.getLsbD 3 then classOfByte cls else none } s.now s.params.level

/-- The checks after the fields (R48). -/
theorem State.amendBooking_checks (h : ¬(tag = 0 ∨ present.extractLsb' 0 4 = 0 ∨ (present.getLsbD 3 = true ∧ 2 < cls.toNat)
      ∨ (present.getLsbD 2 = true ∧ 1000 < level.toNat))) :
    s.amendBooking tag present due hold level cls = match s.claim? ⟨.gateway, tag⟩ with
      | none => s.refuse .noSuchClaim
      | some c =>
        if c.state = .swapping then s.refuse .claimBusy
        else if present.getLsbD 0 = true ∧ s.clock.time + 86400 < due.toNat then s.refuse .badField
        else s.amend c (s.amendOf present due hold level cls) := by
  rw [State.amendBooking]
  simp only [if_neg (amend_badField_iff.not.mpr h)]
  rfl

/-- The claim an amend writes, by the values present (R48, R49). -/
theorem State.amendOf_write (c : Claim) {k : PackClass}
    (hk : (if present.getLsbD 3 then classOfByte cls else some c.cls) = some k) :
    (s.amendOf present due hold level cls).write c =
      { c with
        due := if present.getLsbD 0 then max s.clock.time due.toNat else c.due
        hold := if present.getLsbD 1 then some (min 1800 (max 300 hold.toNat)) else c.hold
        level := if present.getLsbD 2 then (if level = 0 then s.params.level else max 500 level.toNat) else c.level
        cls := k } := by
  have due' : ((presentIf present 0 due.toNat).map (fun d => max s.now d)).getD c.due
      = if present.getLsbD 0 then max s.clock.time due.toNat else c.due := by
    unfold presentIf
    split <;> rfl
  have hold' : (match (presentIf present 1 hold.toNat).map takenHold with | none => c.hold | some h => some h)
      = if present.getLsbD 1 then some (min 1800 (max 300 hold.toNat)) else c.hold := by
    unfold presentIf
    by_cases given : present.getLsbD 1 = true
    · rw [if_pos given, if_pos given]; rfl
    · rw [if_neg given, if_neg given]; rfl
  have level' : ((presentIf present 2 level.toNat).map (takenLevel s.params.level)).getD c.level
      = if present.getLsbD 2 then (if level = 0 then s.params.level else max 500 level.toNat) else c.level := by
    rw [← takenLevel_field]
    unfold presentIf
    split <;> rfl
  have cls' : (if present.getLsbD 3 then classOfByte cls else none).getD c.cls = k := by
    split at hk
    · next h => rw [if_pos h, hk]; rfl
    · next h => rw [if_neg h]; exact Option.some.inj hk
  rw [← due', ← hold', ← level', ← cls']
  rfl

end

/-- Settles O29: the checks, then `State.amend_spec` on the claim the values present give. -/
theorem amendBooking : Obligations.AmendBooking := by
  unfold Obligations.AmendBooking
  intro tag present due hold level cls s free
  dsimp only
  have refused : ∀ {c}, s.amendBooking tag present due hold level cls = s.refuse c →
      exec (.amendBooking .gateway tag present due hold level cls) s = .next (s.refusal .gateway 0x22 c []) :=
    fun h => exec_refused (.amendBooking tag present due hold level cls) free rfl h
  refine ⟨fun bad => refused (if_pos (amend_badField_iff.mpr bad)), fun good gone => ?_, fun c good hc =>
    ⟨fun busy => ?_, fun idle given far => ?_, fun idle near fits k hk => ?_⟩⟩
  · exact refused (by rw [State.amendBooking_checks good, gone])
  · exact refused (by rw [State.amendBooking_checks good, hc]; exact if_pos busy)
  · refine refused ?_
    rw [State.amendBooking_checks good, hc]
    dsimp only
    rw [if_neg idle, if_pos ⟨given, far⟩]
  · have name := s.claim?_id hc
    have taken : s.amendBooking tag present due hold level cls = s.amend c (s.amendOf present due hold level cls) := by
      rw [State.amendBooking_checks good, hc]
      dsimp only
      rw [if_neg idle, if_neg fun far => absurd far.2 (Nat.not_lt.mpr (near far.1))]
    have write := State.amendOf_write (s := s) (due := due) (hold := hold) (level := level) c hk
    obtain ⟨u, payload, answer, same, others, closed, stands⟩ := State.amend_spec (s := s) (c := c) (by rw [name]; exact hc)
      (by rw [Claim.isBooking, name]; rfl) (s.amendOf present due hold level cls)
    have expiry := s.amended_expiry (a := s.amendOf present due hold level cls) (c := c)
    rw [write] at expiry stands
    dsimp only at expiry
    have inForce := expiry fits
    rw [inForce] at closed stands
    refine ⟨u, payload, exec_answered (.amendBooking tag present due hold level cls) free rfl (taken.trans answer), same,
      fun j hj => others j (by rw [name]; exact hj), fun come => by rw [← name]; exact closed come, fun ahead => ?_⟩
    obtain ⟨g, hg, terms, e, reply⟩ := stands ahead
    rw [name] at hg reply
    refine ⟨g, hg, terms.trans ?_, e, reply⟩
    rw [← name]
    rfl

end Sys2Proof.Machine
end

section
/-! FRAME_BOUNDARY (O38): the frame moved on (R96), and an install's grant table, projections, flags and notices
(R58, R74, R98). -/

open Sys2Proof Sys2Proof.Machine
namespace Sys2Proof.Machine

/-! ### An operation on one claim after another -/

/-- An operation on the claim of a name: it keeps `P`, makes of that claim what `R` says, and leaves the others. -/
structure OnClaim (P : State → Prop) (R : Claim → Claim → Prop) (op : State → ClaimId → State) : Prop where
  keep : ∀ t i, P t → P (op t i)
  own : ∀ t i c, P t → t.claim? i = some c → ∃ d, (op t i).claim? i = some d ∧ R c d
  other : ∀ t i j, j ≠ i → (op t i).claim? j = t.claim? j

section
variable {P : State → Prop} {R : Claim → Claim → Prop} {op : State → ClaimId → State} (h : OnClaim P R op)
include h

theorem OnClaim.foldl_other {i : ClaimId} {ids : List ClaimId} (hi : i ∉ ids) (t : State) :
    (ids.foldl op t).claim? i = t.claim? i := by
  induction ids generalizing t with
  | nil => rfl
  | cons j ids ih =>
    obtain ⟨ne, rest⟩ := List.ne_and_not_mem_of_not_mem_cons hi
    exact (ih rest _).trans (h.other t j i ne)

/-- A name may stand in the list more than once, so `R` has to be transitive. -/
theorem OnClaim.foldl_own (trans : ∀ c d e, R c d → R d e → R c e) {i : ClaimId} {ids : List ClaimId} (hi : i ∈ ids)
    {t : State} (ht : P t) {c : Claim} (hc : t.claim? i = some c) :
    ∃ d, (ids.foldl op t).claim? i = some d ∧ R c d := by
  induction ids generalizing t c with
  | nil => cases hi
  | cons j ids ih =>
    rw [List.foldl_cons]
    by_cases e : i = j
    · subst e
      obtain ⟨d, hd, cd⟩ := h.own t i c ht hc
      by_cases again : i ∈ ids
      · obtain ⟨e, he, de⟩ := ih again (h.keep t i ht) hd
        exact ⟨e, he, trans c d e cd de⟩
      · exact ⟨d, (h.foldl_other again _).trans hd, cd⟩
    · exact ih ((List.mem_cons.mp hi).resolve_left e) (h.keep t j ht) ((h.other t j i e).trans hc)

end

/-- In a book of distinct names every claim is found under its own. -/
theorem State.claim?_of_mem {s : State} (names : (s.book.claims.map (fun c => c.id)).Nodup) {c : Claim}
    (h : c ∈ s.book.claims) : s.claim? c.id = some c := by
  unfold State.claim?
  generalize s.book.claims = cs at names h
  induction cs with
  | nil => cases h
  | cons d cs ih =>
    obtain ⟨fresh, names⟩ := List.nodup_cons.mp names
    rcases List.mem_cons.mp h with rfl | h
    · exact List.find?_cons_of_pos (decide_eq_true rfl)
    · refine (List.find?_cons_of_neg ?_).trans (ih names h)
      exact fun k => fresh (List.mem_map.mpr ⟨c, h, (of_decide_eq_true k).symm⟩)

/-! ### The projections (R58, R98) -/

/-- A claim's projection is its take bay's in the plan, and a free value above 32 bits (log entry 3). -/
def Plan.projects (p : Plan) (bay : Option BayNo) (projected : Option Nat) : Prop :=
  (∀ v, bay.bind (fun b => (p.entry b).projected) = some v → v ≤ 4294967295 → projected = some v)
    ∧ (bay.bind (fun b => (p.entry b).projected) = none → projected = none)

/-- A claim with its projection written. -/
def Plan.projected (p : Plan) (c d : Claim) : Prop :=
  d = { c with projected := d.projected } ∧ p.projects c.takeBay d.projected

theorem Plan.projected_trans (p : Plan) (c d e : Claim) (cd : p.projected c d) (de : p.projected d e) : p.projected c e := by
  obtain ⟨rest, -⟩ := cd
  obtain ⟨rest', own⟩ := de
  rw [rest] at own rest'
  exact ⟨rest', own⟩

theorem trading_projected (v : Option Nat) : Trading (fun c => { c with projected := v }) := fun _ => ⟨rfl, fun k => k⟩

theorem trading_atRisk (x : Bool) : Trading (fun c => { c with atRisk := x }) := fun _ => ⟨rfl, fun k => k⟩

theorem Plan.installProjection_onClaim (p : Plan) :
    OnClaim (fun _ => True) p.projected (State.installProjection p) where
  keep _ _ _ := trivial
  own t i c _ hc := by
    simp only [State.installProjection, hc]
    split
    · next bare =>
      refine ⟨_, ((trading_projected none).claim? t i i).trans
        ((if_pos rfl).trans (congrArg _ hc)), rfl, fun v k => ?_, fun _ => rfl⟩
      cases bare.symm.trans k
    · next v given =>
      refine ⟨_, (State.countTime_claim? _ v i).trans
        (((trading_projected (some (t.storedTime v))).claim? t i i).trans
          ((if_pos rfl).trans (congrArg _ hc))), rfl, fun w k fits => ?_, fun k => ?_⟩
      · obtain rfl := Option.some.inj (given.symm.trans k)
        exact congrArg some (t.storedTime_eq fits)
      · cases given.symm.trans k
  other t i j ne := by
    unfold State.installProjection
    split
    · rfl
    · split
      · exact ((trading_projected none).claim? t i j).trans (if_neg ne)
      · next v _ =>
        exact (State.countTime_claim? _ v j).trans
          (((trading_projected (some (t.storedTime v))).claim? t i j).trans (if_neg ne))

/-! ### The at-risk judgement (R74) -/

/-- A claim with its flag judged. -/
def State.riskJudged (s : State) (c d : Claim) : Prop := d = { c with atRisk := (s.riskOf c).isSome }

theorem State.riskOf_of_bays {s t : State} (h : t.bays = s.bays) (c : Claim) : t.riskOf c = s.riskOf c := by
  unfold State.riskOf State.levelUsed State.bay
  rw [h]

theorem State.riskJudged_trans (s : State) (c d e : Claim) (cd : s.riskJudged c d) (de : s.riskJudged d e) : s.riskJudged c e := by
  obtain rfl : d = _ := cd
  exact de

theorem State.judgeRisk_onClaim (s : State) : OnClaim (fun t => t.bays = s.bays) s.riskJudged State.judgeRisk where
  keep t i h := by
    unfold State.judgeRisk
    split
    · exact h
    · split <;> exact h
  own t i c h hc := by
    have flag : ∀ x : Bool, (t.modClaim i (fun c => { c with atRisk := x })).claim? i = some { c with atRisk := x } :=
      fun x => ((trading_atRisk x).claim? t i i).trans ((if_pos rfl).trans (congrArg _ hc))
    simp only [State.judgeRisk, hc, State.riskOf_of_bays h, State.riskJudged]
    cases risk : s.riskOf c with
    | none =>
      cases was : c.atRisk with
      | false => exact ⟨c, hc, congrArg (fun x => { c with atRisk := x }) was⟩
      | true => exact ⟨_, flag false, rfl⟩
    | some why =>
      cases was : c.atRisk with
      | false => exact ⟨_, flag true, rfl⟩
      | true => exact ⟨c, hc, congrArg (fun x => { c with atRisk := x }) was⟩
  other t i j ne := by
    unfold State.judgeRisk
    split
    · rfl
    · split
      · exact ((trading_atRisk true).claim? t i j).trans (if_neg ne)
      · exact ((trading_atRisk false).claim? t i j).trans (if_neg ne)
      · rfl

/-- The notice of a judgement that changes a flag. -/
def State.riskNotice (s : State) (id : ClaimId) : Option Notice :=
  match s.claim? id with
  | none => none
  | some c =>
    match s.riskOf c, c.atRisk with
    | some (detail, value), false => some (s.notice .claimAtRisk (.claim id) detail value)
    | none, true => some (s.notice .claimAtRiskCleared (.claim id) 0 (c.projected.getD 0))
    | _, _ => none

theorem State.judgeRisk_clock (s : State) (id : ClaimId) : (s.judgeRisk id).clock = s.clock := by
  unfold State.judgeRisk
  split
  · rfl
  · split <;> rfl

theorem State.judgeRisk_ports (s : State) (id : ClaimId) :
    (s.judgeRisk id).ports = (s.riskNotice id).elim s.ports s.ports.post := by
  unfold State.judgeRisk State.riskNotice
  cases s.claim? id with
  | none => rfl
  | some c =>
    dsimp only
    cases s.riskOf c <;> cases c.atRisk <;> rfl

theorem State.judgeRisk_riskNotice (s : State) {i j : ClaimId} (ne : j ≠ i) :
    (s.judgeRisk i).riskNotice j = s.riskNotice j := by
  have bays := s.judgeRisk_onClaim.keep s i rfl
  have clock := s.judgeRisk_clock i
  have claim := s.judgeRisk_onClaim.other s i j ne
  unfold State.riskNotice
  rw [claim]
  simp only [State.riskOf_of_bays bays, State.notice, clock]

/-- The judgement of every claim sends one notice for each flag that changes, in their order. -/
theorem State.judgeRisks_ports {ids : List ClaimId} (names : ids.Nodup) (s : State) :
    (ids.foldl State.judgeRisk s).ports = (ids.filterMap s.riskNotice).foldl Ports.post s.ports := by
  induction ids generalizing s with
  | nil => rfl
  | cons i ids ih =>
    obtain ⟨fresh, names⟩ := List.nodup_cons.mp names
    have rest : ids.filterMap (s.judgeRisk i).riskNotice = ids.filterMap s.riskNotice :=
      List.filterMap_congr fun j hj => s.judgeRisk_riskNotice fun e => fresh (e ▸ hj)
    rw [List.foldl_cons, ih names, rest, s.judgeRisk_ports, List.filterMap_cons]
    cases s.riskNotice i <;> rfl

/-- Detail and value of an at-risk claim's notice (R75). -/
theorem State.riskOf_some {s : State} {c : Claim} {why : Nat × Nat} (h : s.riskOf c = some why) :
    why = (if c.projected.isSome then 2 else 1, c.projected.getD 0) := by
  unfold State.riskOf at h
  cases hp : c.projected with
  | none => simp [hp] at h; exact h.2.2.symm
  | some v => simp [hp] at h; exact h.2.2.2.symm

/-! ### Installing a plan (R98) -/

/-- What no installed entry, projection or flag writes. -/
def State.offPlan (s : State) :=
  (s.pending, s.book.seq, s.grants, s.exchanges, s.bus, s.derate, s.faults, s.clock, s.params, s.schedule, s.admissions,
    s.passDue)

theorem State.of_offPlan {s t : State} (h : t.offPlan = s.offPlan) :
    t = { s with bays := t.bays, book := { s.book with claims := t.book.claims }, ports := t.ports,
                 freeCount := t.freeCount } := by
  obtain ⟨pending, bays, ⟨claims, seq⟩, grants, exchanges, bus, derate, faults, clock, params, schedule, ports, admissions,
    passDue, freeCount⟩ := t
  simp only [State.offPlan, Prod.mk.injEq] at h
  obtain ⟨rfl, rfl, rfl, rfl, rfl, rfl, rfl, rfl, rfl, rfl, rfl, rfl⟩ := h
  rfl

theorem State.installProjection_rest (p : Plan) (s : State) (id : ClaimId) :
    (State.installProjection p s id).offPlan = s.offPlan ∧ (State.installProjection p s id).bays = s.bays
      ∧ (State.installProjection p s id).ports = s.ports ∧ (State.installProjection p s id).claimIds = s.claimIds := by
  unfold State.installProjection
  split
  · exact ⟨rfl, rfl, rfl, rfl⟩
  · split
    · exact ⟨rfl, rfl, rfl, (trading_projected none).claimIds s id⟩
    · next v _ =>
      refine ⟨?_, State.countTime_bays _ v, State.countTime_ports _ v,
        (State.claimIds_of_book (State.countTime_book _ v)).trans ((trading_projected _).claimIds s id)⟩
      unfold State.countTime
      split <;> rfl

theorem State.judgeRisk_offPlan (s : State) (id : ClaimId) : (s.judgeRisk id).offPlan = s.offPlan := by
  unfold State.judgeRisk
  split
  · rfl
  · split <;> rfl

/-- An entry written into a bay record of the state the plan was computed from (R98). -/
theorem State.plan_planned (s : State) (b : BayNo) :
    (s.bay b).planned (s.plan.entry b) = { s.bay b with
      grant := (s.plan.entry b).grant, parity := (s.plan.entry b).parity, cap := (s.plan.entry b).cap,
      rank := (s.plan.entry b).rank, pack := (s.bay b).pack.map (fun q => { q with socUsed := some q.soc }) } := by
  have used : (s.plan.entry b).socUsed = (s.bay b).pack.map (fun q => q.soc) := by rw [s.plan_entry]; rfl
  unfold Bay.planned
  rw [used]
  cases (s.bay b).pack <;> rfl

/-- The notice of a claim's flag as it stands against the flag before (R74, R75). -/
def State.flagNotice (s : State) (before : Claim) (after : Option Claim) : Option Notice :=
  match after with
  | none => none
  | some d =>
    if before.atRisk = d.atRisk then none
    else if d.atRisk then
      some (s.notice .claimAtRisk (.claim before.id) (if d.projected.isSome then 2 else 1) (d.projected.getD 0))
    else some (s.notice .claimAtRiskCleared (.claim before.id) 0 (d.projected.getD 0))

theorem State.riskNotice_eq {s : State} {c d e : Claim} (hd : s.claim? c.id = some d) (before : d.atRisk = c.atRisk)
    (judged : s.riskJudged d e) : s.riskNotice c.id = s.flagNotice c (some e) := by
  obtain rfl : e = _ := judged
  simp only [State.riskNotice, hd, State.flagNotice, ← before]
  cases risk : s.riskOf d with
  | none => cases d.atRisk <;> rfl
  | some why =>
    obtain rfl := State.riskOf_some risk
    cases d.atRisk <;> rfl

/-- Before the flags are judged: the entries, the projections, the header and PLAN-INSTALLED (R98). -/
theorem State.install_stages (s : State) (p : Plan) (wanted : Bool) :
    ∃ told : State, s.install p wanted = told.claimIds.foldl State.judgeRisk told
      ∧ told.offPlan = (s.modGrants (fun g => { g with header := some p.header, replan := false, since := 0 })).offPlan
      ∧ (∀ b, told.bay b = (s.bay b).planned (p.entry b))
      ∧ told.claimIds = s.claimIds
      ∧ (∀ id c, s.claim? id = some c → ∃ d, told.claim? id = some d ∧ p.projected c d)
      ∧ told.ports = s.ports.post (s.notice .planInstalled .none (if wanted then 1 else 2) p.frame) := by
  have bay : ∀ b, (allBays.foldl (State.installBay p) s).bay b = (s.bay b).planned (p.entry b) := fun b =>
    (State.installBays_bay p allBays allBays_all.1 s b).trans (if_pos (allBays_all.2 b))
  have enteredRest := kept_foldl (P := fun t => t.offPlan = s.offPlan ∧ t.book = s.book ∧ t.ports = s.ports)
    (f := State.installBay p) (fun _ _ k => k) allBays (t := s) ⟨rfl, rfl, rfl⟩
  refine ⟨_, rfl, ?_⟩
  generalize allBays.foldl (State.installBay p) s = entered at bay enteredRest ⊢
  obtain ⟨enteredOff, enteredBook, enteredPorts⟩ := enteredRest
  have claim : ∀ id c, s.claim? id = some c →
      ∃ d, (entered.claimIds.foldl (State.installProjection p) entered).claim? id = some d ∧ p.projected c d :=
    fun id c hc => by
      have here := (State.claim?_of_book enteredBook id).trans hc
      exact p.installProjection_onClaim.foldl_own p.projected_trans (State.mem_claimIds.mpr ⟨c, here⟩) trivial here
  have projectedRest := kept_foldl (P := fun t => t.offPlan = entered.offPlan ∧ t.bays = entered.bays
      ∧ t.ports = entered.ports ∧ t.claimIds = entered.claimIds) (f := State.installProjection p) (fun t i k => by
    obtain ⟨off, bays, ports, ids⟩ := State.installProjection_rest p t i
    exact ⟨off.trans k.1, bays.trans k.2.1, ports.trans k.2.2.1, ids.trans k.2.2.2⟩)
    entered.claimIds (t := entered) ⟨rfl, rfl, rfl, rfl⟩
  generalize entered.claimIds.foldl (State.installProjection p) entered = projected at claim projectedRest ⊢
  obtain ⟨projectedOff, projectedBays, projectedPorts, projectedIds⟩ := projectedRest
  have off := projectedOff.trans enteredOff
  refine ⟨congrArg (fun k : _ × _ × Grants × _ =>
      (k.1, k.2.1, { k.2.2.1 with header := some p.header, replan := false, since := 0 }, k.2.2.2)) off, fun b => ?_,
    projectedIds.trans (State.claimIds_of_book enteredBook), claim, ?_⟩
  · exact (congrArg (fun v => v.get b) projectedBays).trans (bay b)
  · rw [← enteredPorts, ← projectedPorts,
      ← State.notice_of_clock (congrArg (fun k => k.2.2.2.2.2.2.2.1) off : projected.clock = s.clock)]
    rfl

/-- Installing a plan: the bays' entries, the claims' projections and flags, the notices, and the header (R98). -/
theorem State.install_spec (s : State) (p : Plan) (wanted : Bool) :
    (s.install p wanted).offPlan
        = (s.modGrants (fun g => { g with header := some p.header, replan := false, since := 0 })).offPlan
      ∧ (∀ b, (s.install p wanted).bay b = (s.bay b).planned (p.entry b))
      ∧ (∀ id c, s.claim? id = some c → ∃ d, (s.install p wanted).claim? id = some d
          ∧ d = { c with projected := d.projected, atRisk := d.atRisk } ∧ p.projects c.takeBay d.projected
          ∧ d.atRisk = ((s.install p wanted).riskOf d).isSome)
      ∧ ((s.book.claims.map (fun c => c.id)).Nodup → (s.install p wanted).ports
          = (s.notice .planInstalled .none (if wanted then 1 else 2) p.frame
              :: s.book.claims.filterMap (fun c => s.flagNotice c ((s.install p wanted).claim? c.id))).foldl
            Ports.post s.ports) := by
  obtain ⟨told, final, off, bay, ids, claim, ports⟩ := s.install_stages p wanted
  generalize s.install p wanted = t at final ⊢
  have judge := told.judgeRisk_onClaim
  have finalBays : t.bays = told.bays := by
    rw [final]
    exact kept_foldl (P := fun t => t.bays = told.bays) judge.keep _ rfl
  have judged : ∀ id d, told.claim? id = some d → ∃ e, t.claim? id = some e ∧ told.riskJudged d e := fun id d hd => by
    rw [final]
    exact judge.foldl_own told.riskJudged_trans (State.mem_claimIds.mpr ⟨d, hd⟩) rfl hd
  refine ⟨?_, fun b => ?_, fun id c hc => ?_, fun names => ?_⟩
  · rw [final, ← off]
    exact kept_foldl (P := fun t => t.offPlan = told.offPlan) (fun t i k => (t.judgeRisk_offPlan i).trans k) _ rfl
  · rw [← bay, State.bay, finalBays, State.bay]
  · obtain ⟨d, hd, rest, projects⟩ := claim id c hc
    obtain ⟨e, he, flag⟩ := judged id d hd
    obtain rfl : e = _ := flag
    refine ⟨_, he, ?_, projects, ?_⟩
    · rw [rest]
    · exact congrArg Option.isSome (State.riskOf_of_bays finalBays _).symm
  · have notices : told.claimIds.filterMap told.riskNotice
        = s.book.claims.filterMap (fun c => s.flagNotice c (t.claim? c.id)) := by
      rw [ids, State.claimIds, List.filterMap_map]
      refine List.filterMap_congr fun c hc => ?_
      obtain ⟨d, hd, rest, -⟩ := claim c.id c (State.claim?_of_mem names hc)
      obtain ⟨e, he, flag⟩ := judged c.id d hd
      have clock : told.clock = s.clock := congrArg (fun k => k.2.2.2.2.2.2.2.1) off
      rw [he, Function.comp_apply, State.riskNotice_eq hd (by rw [rest]) flag]
      simp only [State.flagNotice, State.notice_of_clock clock]
    have told_names : told.claimIds.Nodup := ids.symm ▸ names
    rw [← notices, final, told.judgeRisks_ports told_names, ports]
    rfl

/-! ### FRAME_BOUNDARY -/

theorem State.insertUrgent_of_key {s t : State} (h : t.urgencyKey = s.urgencyKey) : t.insertUrgent = s.insertUrgent := by
  funext b cs
  induction cs with
  | nil => rfl
  | cons c cs ih => rw [State.insertUrgent, h, ih, State.insertUrgent]

/-- A plan reads neither the parity nor the frames since the last install (R76 to R90). -/
theorem State.plan_of_boundary {s t : State} (h : s.modGrants (fun g => { g with odd := t.grants.odd, since := t.grants.since }) = t) :
    t.plan = s.plan := by
  have order : t.urgencyOrder = s.urgencyOrder := by
    have key : t.urgencyKey = s.urgencyKey := by rw [← h]; rfl
    have part : t.takesPart = s.takesPart := by rw [← h]; rfl
    rw [State.urgencyOrder, part, State.insertUrgent_of_key key, State.urgencyOrder]
  have draw : t.draw s.urgencyOrder = s.draw s.urgencyOrder := by rw [← h]; rfl
  have entry : t.planEntry = s.planEntry := by rw [← h]; rfl
  rw [State.plan, order, draw, entry, State.plan, ← h]
  rfl

/-- A claim's flag as R74 judges it, the SoCs used being those of the bays' packs. -/
theorem State.riskOf_isSome {s t : State} {c : Claim} (packs : ∀ b, (t.bay b).pack
      = (s.bay b).pack.map (fun q => { q with socUsed := some q.soc })) :
    (t.riskOf c).isSome = true ↔ c.state ≠ .swapping
      ∧ (¬ ∃ b q, c.takeBay = some b ∧ (s.bay b).pack = some q ∧ c.level ≤ q.soc)
      ∧ ∀ v, c.projected = some v → (if c.id.origin = .gateway then c.due else c.expiry) < v := by
  have full : t.levelUsed c = true ↔ ∃ b q, c.takeBay = some b ∧ (s.bay b).pack = some q ∧ c.level ≤ q.soc := by
    unfold State.levelUsed
    cases c.takeBay with
    | none => simp
    | some b =>
      cases hq : (s.bay b).pack with
      | none => simp [packs, hq]
      | some q => simp [packs, hq]
  rw [← full]
  unfold State.riskOf
  by_cases swapping : c.state = .swapping
  · simp [swapping]
  · by_cases used : t.levelUsed c = true
    · simp [swapping, used]
    · cases hp : c.projected with
      | none => simp [swapping, used]
      | some v =>
        by_cases gateway : c.id.origin = .gateway <;> simp [swapping, used, Claim.isBooking, gateway]

/-- Settles O38: without an install the grants alone move on; with one, `State.install_spec`. -/
theorem frameBoundary : Obligations.FrameBoundary := by
  unfold Obligations.FrameBoundary
  intro s
  dsimp only
  set u := s.modGrants Grants.boundary with hu
  have plan : u.plan = { s with grants := { s.grants with frame := (s.grants.frame + 1) % 4294967296 } }.plan :=
    State.plan_of_boundary rfl
  rw [← plan]
  refine ⟨s.frameBoundary, rfl, ?_⟩
  have whole : s.frameBoundary = if u.grants.replan = true ∨ 15 ≤ u.grants.since then u.install u.plan u.grants.replan else u :=
    rfl
  have due : (u.grants.replan = true ∨ 15 ≤ u.grants.since) ↔ (s.grants.replan = true ∨ 14 ≤ s.grants.since) := by
    refine or_congr Iff.rfl ?_
    show 15 ≤ min 15 (s.grants.since + 1) ↔ _
    omega
  rw [whole]
  by_cases install : s.grants.replan = true ∨ 14 ≤ s.grants.since
  · rw [if_pos (due.mpr install)]
    obtain ⟨off, bays, claims, notices⟩ := u.install_spec u.plan u.grants.replan
    generalize u.install u.plan u.grants.replan = t at off bays claims notices ⊢
    have grants : t.grants = _ := congrArg (fun k => k.2.2.1) off
    refine ⟨grants ▸ rfl, grants ▸ rfl, fun calm early => ?_, fun _ => ⟨?_, ?_, ?_, ?_⟩⟩
    · rcases install with k | k
      · exact absurd (calm.symm.trans k) nofun
      · exact absurd early (Nat.not_lt.mpr k)
    · exact State.of_offPlan off
    · exact fun b => (bays b).trans (u.plan_planned b)
    · intro id c hc
      obtain ⟨d, hd, e, ⟨fits, bare⟩, flag⟩ := claims id c hc
      have state : d.state = c.state := by rw [e]
      have takeBay : d.takeBay = c.takeBay := by rw [e]
      have level : d.level = c.level := by rw [e]
      have expiry : d.expiry = c.expiry := by rw [e]
      have name : d.id = c.id := by rw [e]
      have dueTime : d.due = c.due := by rw [e]
      refine ⟨d, hd, by rw [e]; rfl, state, takeBay, expiry, fits, bare, ?_⟩
      have risk := State.riskOf_isSome (s := s) (t := t) (c := d) fun b => congrArg Bay.pack ((bays b).trans (u.plan_planned b))
      rw [flag, risk, state, takeBay, level, name, dueTime]
    · intro ok
      exact notices ((State.bookOk_iff s).mp ok).2.names
  · rw [if_neg (due.not.mpr install)]
    refine ⟨rfl, rfl, fun _ early => ?_, fun k => absurd k install⟩
    have since : min 15 (s.grants.since + 1) = s.grants.since + 1 := by omega
    rw [hu, State.modGrants, Grants.boundary, since]

end Sys2Proof.Machine
end

section
/-! CLOCK_ADVANCE (O59): the countdowns (R105, R111), expiry (R54), the windows and directives whose time has come (R162,
R163), and what a second leaves alone. -/

open Sys2Proof Sys2Proof.Machine
namespace Sys2Proof.Machine

/-! ### What a change of kiosk time leaves alone -/

/-- The fields of a bay record that no second writes. -/
def Bay.lasting (r : Bay) := (r.reported, r.role, r.pack, r.cause)

/-- The grant controller's fields that no second writes, with the staleness timer. -/
def Grants.lasting (g : Grants) := (g.feed, g.watts, g.halt, g.frame, g.modules, g.timer)

/-- A change leaves the exchanges, the clock, the bays' reports, packs and roles, and the items no second writes, and
sends notices. -/
structure State.lasts (s t : State) : Prop where
  exchanges : t.exchanges = s.exchanges
  bus : t.bus.settings = s.bus.settings
  pending : t.pending = s.pending
  derate : t.derate = s.derate
  faults : t.faults = s.faults
  admissions : t.admissions = s.admissions
  clock : t.clock = s.clock
  grants : t.grants.lasting = s.grants.lasting
  bays : ∀ b, (t.bay b).lasting = (s.bay b).lasting
  notices : ∃ ns : List Notice, t.ports = ns.foldl Ports.post s.ports

theorem State.lasts_refl (s : State) : s.lasts s := ⟨rfl, rfl, rfl, rfl, rfl, rfl, rfl, rfl, fun _ => rfl, [], rfl⟩

theorem State.lasts_trans {s t u : State} (h : s.lasts t) (k : t.lasts u) : s.lasts u where
  exchanges := k.exchanges.trans h.exchanges
  bus := k.bus.trans h.bus
  pending := k.pending.trans h.pending
  derate := k.derate.trans h.derate
  faults := k.faults.trans h.faults
  admissions := k.admissions.trans h.admissions
  clock := k.clock.trans h.clock
  grants := k.grants.trans h.grants
  bays b := (k.bays b).trans (h.bays b)
  notices := by
    obtain ⟨ns, e⟩ := h.notices
    obtain ⟨ms, f⟩ := k.notices
    exact ⟨ns ++ ms, by rw [List.foldl_append, f, e]⟩

/-- A change of matches alone, made by the operations within an arrival. -/
theorem State.lasts_of {s t : State} (same : s.sameButMatches t) (inner : s.inner t) : s.lasts t := by
  obtain ⟨settings, grants, bus, exchanges, faults, admissions, -, bays, -⟩ := same
  obtain ⟨-, -, -, -, -, -, -, notices⟩ := inner
  exact {
    exchanges := exchanges
    bus := bus
    pending := congrArg (fun k => k.1) settings
    derate := congrArg (fun k => k.2.1) settings
    faults := faults
    admissions := admissions
    clock := congrArg (fun k => k.2.2.1) settings
    grants := (congrArg Grants.lasting grants :)
    bays := fun b => (congrArg Bay.lasting (bays b) :)
    notices := notices }

theorem State.lasts_sent {s t : State} (h : s.lasts t) {p : Port} {n : Notice} (k : s.sent p n) : t.sent p n := by
  obtain ⟨ns, e⟩ := h.notices
  show (t.ports.get p).holds n
  rw [e]
  exact Ports.holds_foldl k ns

section
variable {s t : State} (h : s.lasts t)
include h

theorem State.lasts.notify (k : NoticeKind) (u : Subject) (d v : Nat) : s.lasts (t.notify k u d v) :=
  State.lasts_trans h (State.lasts_of (State.same_notify t.sameButMatches_refl k u d v) (State.inner_notify t.inner_refl k u d v))

theorem State.lasts.countTime (n : Nat) : s.lasts (t.countTime n) :=
  State.lasts_trans h (State.lasts_of (State.same_countTime t.sameButMatches_refl n) (State.inner_countTime t.inner_refl n))

theorem State.lasts.wantPass : s.lasts t.wantPass :=
  State.lasts_trans h (State.lasts_of (State.same_wantPass t.sameButMatches_refl) (State.inner_wantPass t.inner_refl))

theorem State.lasts.fillTest (b : BayNo) : s.lasts (t.fillTest b) :=
  State.lasts_trans h (State.lasts_of (State.same_fillTest t.sameButMatches_refl b) (State.inner_fillTest t.inner_refl b))

theorem State.lasts.settle : s.lasts t.settle :=
  State.lasts_trans h (State.lasts_of (State.same_settle t.sameButMatches_refl) (State.inner_settle t.inner_refl))

theorem State.lasts.expireIfDue (id : ClaimId) : s.lasts (t.expireIfDue id) :=
  State.lasts_trans h
    (State.lasts_of (State.same_expireIfDue t.sameButMatches_refl id) (State.inner_expireIfDue t.inner_refl id))

theorem State.lasts.modSchedule (f : Schedule → Schedule) : s.lasts (t.modSchedule f) :=
  State.lasts_trans h { t.lasts_refl with }

theorem State.lasts.params (q : Params) : s.lasts { t with params := q } := State.lasts_trans h { t.lasts_refl with }

theorem State.lasts.modBay {b : BayNo} {f : Bay → Bay} (hf : ∀ r, (f r).lasting = r.lasting) : s.lasts (t.modBay b f) := by
  refine State.lasts_trans h { t.lasts_refl with bays := fun c => ?_ }
  rw [State.modBay_bay]
  split
  · next e => rw [e]; exact hf _
  · rfl

theorem State.lasts.edit {b : BayNo} {f : Bay → Bay} (hf : ∀ r, (f r).lasting = r.lasting) : s.lasts (t.edit b f) := by
  have changed : s.lasts (if (t.bay b).candidacyChanged ((t.modBay b f).bay b) then (t.modBay b f).wantPass
      else t.modBay b f) := kept_ite (h.modBay hf).wantPass (h.modBay hf)
  exact State.lasts_trans changed (State.lasts_of (State.same_eligibilityEdge (State.sameButMatches_refl _) b _)
    (State.inner_eligibilityEdge (State.inner_refl _) b _))

theorem State.lasts.resection (b : BayNo) : s.lasts (t.resection b) := h.edit fun _ => rfl

theorem State.lasts.recomputeReserve : s.lasts t.recomputeReserve := by
  obtain ⟨e, -, -, -, bays, notices⟩ := t.recomputeReserve_spec
  generalize t.recomputeReserve = u at e bays notices ⊢
  exact State.lasts_trans h {
    exchanges := (congrArg State.exchanges e :)
    bus := (congrArg (fun k => k.bus.settings) e :)
    pending := (congrArg State.pending e :)
    derate := (congrArg State.derate e :)
    faults := (congrArg State.faults e :)
    admissions := (congrArg State.admissions e :)
    clock := (congrArg State.clock e :)
    grants := (congrArg (fun k => k.grants.lasting) e :)
    bays := fun b => (congrArg Bay.lasting (bays b).1 :)
    notices := notices }

theorem State.lasts.runSchedule : s.lasts t.runSchedule :=
  State.runSchedule_kept (P := s.lasts) (fun _ f k => k.modSchedule f) (fun _ a b c d k => k.notify a b c d)
    (fun _ q k => k.params q) (fun _ n k => k.countTime n) (fun _ k => k.recomputeReserve) (fun _ b k => k.resection b)
    (fun _ b k => k.fillTest b) (fun _ k => k.wantPass) h

end

/-- A change of kiosk time leaves aside what no second writes. -/
theorem State.timeChanged_lasts (s : State) (was : Nat) : s.lasts (s.timeChanged was) := by
  have expired : s.lasts s.expireAll := kept_foldl (fun _ id k => k.expireIfDue id) _ s.lasts_refl
  exact (State.watchHorizon_kept (P := s.lasts) (fun _ k => k.wantPass) expired.runSchedule was).settle

/-! ### The countdowns (R105, R111) -/

theorem State.tickTimers_exch (s : State) (x : ExNo) : s.tickTimers.exch x = (s.exch x).map Exchange.tick := by
  have ticked : ∀ l : List ExNo, l.Nodup → ∀ t : State,
      (l.foldl (fun s x => s.modExch x Exchange.tick) t).exch x = if x ∈ l then (t.exch x).map Exchange.tick else t.exch x := by
    intro l names
    induction l with
    | nil => exact fun _ => rfl
    | cons y l ih =>
      intro t
      obtain ⟨fresh, names⟩ := List.nodup_cons.mp names
      rw [List.foldl_cons, ih names, State.modExch_exch]
      by_cases e : x = y
      · subst e; simp [fresh]
      · simp [e]
  exact (ticked allExchanges (by decide) s).trans (if_pos (mem_allExchanges x))

/-- What the countdowns leave alone: everything but the exchanges and the staleness timer. -/
theorem State.tickTimers_rest (s : State) : s.tickTimers = { s with
    exchanges := s.tickTimers.exchanges, grants := { s.grants with timer := s.grants.timer.map (fun k => k - 1) } } := by
  have rest : ∀ (t : State) (x : ExNo), t = { s with exchanges := t.exchanges } → t.modExch x Exchange.tick
      = { s with exchanges := (t.modExch x Exchange.tick).exchanges } := fun t x e => by
    generalize hu : t.exchanges = u at e
    subst e
    rfl
  have ticked := kept_foldl (P := fun t => t = { s with exchanges := t.exchanges })
    (f := fun s x => s.modExch x Exchange.tick) rest allExchanges (t := s) rfl
  unfold State.tickTimers
  generalize allExchanges.foldl (fun s x => s.modExch x Exchange.tick) s = t at ticked ⊢
  generalize hu : t.exchanges = u at ticked
  subst ticked
  rfl

/-! ### Expiry (R54) -/

/-- A claim outlives an expiry test at a time: it is SWAPPING, or its expiry has not come. -/
def Claim.outlives (now : Nat) (c : Claim) : Bool := decide (c.state = .swapping ∨ now < c.expiry)

theorem State.expireIfDue_claim? (s : State) (i j : ClaimId) :
    (s.expireIfDue i).claim? j = if j = i then (s.claim? i).filter (Claim.outlives s.now) else s.claim? j := by
  unfold State.expireIfDue
  cases hc : s.claim? i with
  | none =>
    dsimp only
    split
    · next e => rw [e]; exact hc
    · rfl
  | some c =>
    dsimp only
    split
    · next come =>
      have gone : Claim.outlives s.now c = false := by simpa [Claim.outlives] using ⟨come.2, come.1⟩
      split
      · next e => rw [e, State.closeClaim_claim?, Option.filter_some_neg gone]
      · next e => exact s.closeClaim_claim?_other e .expired
    · next stays =>
      have outlives : Claim.outlives s.now c = true := by
        refine decide_eq_true ?_
        by_contra k
        obtain ⟨moving, come⟩ := not_or.mp k
        exact stays ⟨Nat.le_of_not_lt come, moving⟩
      split
      · next e => rw [e, hc, Option.filter_some_pos outlives]
      · rfl

theorem State.expireAll_claim? (s : State) (j : ClaimId) :
    s.expireAll.claim? j = (s.claim? j).filter (Claim.outlives s.now) := by
  have expired : ∀ (ids : List ClaimId) (t : State), t.now = s.now → (ids.foldl State.expireIfDue t).claim? j
      = if j ∈ ids then (t.claim? j).filter (Claim.outlives s.now) else t.claim? j := by
    intro ids
    induction ids with
    | nil => exact fun _ _ => rfl
    | cons i ids ih =>
      intro t now
      have next : (t.expireIfDue i).now = s.now :=
        (congrArg Clock.time (t.lasts_refl.expireIfDue i).clock).trans now
      rw [List.foldl_cons, ih _ next, State.expireIfDue_claim?, now]
      by_cases e : j = i
      · subst e
        simp [Option.filter_filter]
      · simp [e]
  refine (expired s.claimIds s rfl).trans ?_
  split
  · rfl
  · next absent =>
    rw [Option.eq_none_iff_forall_ne_some.mpr fun c hc => absent (State.mem_claimIds.mpr ⟨c, hc⟩)]
    rfl

/-! ### The book after a change of kiosk time -/

theorem State.runSchedule_book (s : State) : s.runSchedule.book = s.book :=
  State.runSchedule_kept (P := fun t => t.book = s.book) (fun _ _ k => k) (fun _ _ _ _ _ k => k) (fun _ _ k => k)
    (fun _ n k => (State.countTime_book _ n).trans k)
    (fun t k => (congrArg State.book t.recomputeReserve_spec.1 :).trans k) (fun t b k => (t.edit_book b _).trans k)
    (fun t b k => (t.fillTest_book b).trans k) (fun _ k => k) rfl

theorem State.watchHorizon_book (s : State) (was : Nat) : (s.watchHorizon was).book = s.book :=
  State.watchHorizon_kept (P := fun t => t.book = s.book) (fun _ k => k) rfl was

/-- The claims after a change of kiosk time: those that outlive it, on their terms, and no others (R54). -/
theorem State.timeChanged_claims (s : State) (was : Nat) :
    (∀ id c, s.claim? id = some c → c.state = .swapping ∨ s.now < c.expiry →
        ∃ d, (s.timeChanged was).claim? id = some d ∧ d.terms = c.terms)
      ∧ (∀ id c, s.claim? id = some c → c.state ≠ .swapping → c.expiry ≤ s.now → (s.timeChanged was).claim? id = none)
      ∧ (s.now + 180 ≤ 4294967295 → ∀ id d, (s.timeChanged was).claim? id = some d → d.state ≠ .swapping → s.now < d.expiry) := by
  have expired : s.lasts s.expireAll := kept_foldl (fun _ id k => k.expireIfDue id) _ s.lasts_refl
  set u := s.expireAll.runSchedule.watchHorizon was with hu
  have settled : s.timeChanged was = u.settle := rfl
  have book : u.book = s.expireAll.book := (State.watchHorizon_book _ was).trans s.expireAll.runSchedule_book
  have claim : ∀ id, u.claim? id = (s.claim? id).filter (Claim.outlives s.now) := fun id =>
    (State.claim?_of_book book id).trans (s.expireAll_claim? id)
  have now : u.clock.time = s.now := congrArg Clock.time
    (State.watchHorizon_kept (P := s.lasts) (fun _ k => k.wantPass) expired.runSchedule was).clock
  rw [settled]
  clear_value u
  refine ⟨fun id c hc stays => ?_, fun id c hc moving come => ?_, fun fits id d hd moving => ?_⟩
  · have alive : Claim.outlives s.now c = true := decide_eq_true stays
    have here : u.claim? id = some c := by rw [claim, hc, Option.filter_some_pos alive]
    obtain ⟨d, hd, later⟩ := State.settle_claim_later here
    exact ⟨d, hd, later.1⟩
  · have gone : Claim.outlives s.now c = false :=
      decide_eq_false (not_or.mpr ⟨moving, Nat.not_lt.mpr come⟩)
    refine (keptByArrival_closed id).toTrade.toMatch.settle ?_
    rw [claim, hc, Option.filter_some_neg gone]
  · obtain ⟨c, hc, -, expiry⟩ := u.settle_laterClaims.2 id d hd
    rw [now] at expiry
    have alive : c.state = .swapping ∨ s.now < c.expiry := by
      rw [claim, Option.filter_eq_some_iff] at hc
      exact of_decide_eq_true hc.2
    have idle : c.state ≠ .swapping := fun k =>
      moving (Option.some.inj ((u.settle_swapKept id c hc k).symm.trans hd) ▸ k)
    have ahead := alive.resolve_left idle
    rcases expiry with ⟨-, same⟩ | ⟨-, -, booking, walkup⟩
    · rw [same]; exact ahead
    · cases kind : c.isBooking with
      | true => rw [booking kind]; exact ahead
      | false => rw [walkup kind fits]; omega

/-! ### The windows and directives whose time has come (R162, R163) -/

/-- A window in its place: after the windows of a start not later, before the first of a later one. -/
theorem insertWindow_place (w : Window) (vs : List Window) : ∃ l r, insertWindow w vs = l ++ w :: r ∧ vs = l ++ r
    ∧ (∀ v ∈ l, v.start ≤ w.start) ∧ (∀ v ∈ r.head?, w.start < v.start) := by
  induction vs with
  | nil => exact ⟨[], [], rfl, rfl, nofun, nofun⟩
  | cons v vs ih =>
    unfold insertWindow
    split
    · next before => exact ⟨[], v :: vs, rfl, rfl, nofun, fun x hx => by cases hx; exact before⟩
    · next after =>
      obtain ⟨l, r, placed, split, early, late⟩ := ih
      refine ⟨v :: l, r, by rw [placed]; rfl, by rw [split]; rfl, fun x hx => ?_, late⟩
      rcases List.mem_cons.mp hx with rfl | hx
      · exact Nat.le_of_not_lt after
      · exact early x hx

/-- Operations that each send their notice, the time standing: all the notices are sent. -/
theorem foldl_sent {α : Type} {f : State → α → State} {p : Port} {n : α → Notice} {s : State}
    (lasts : ∀ (t : State) a, t.lasts (f t a)) (own : ∀ t a, t.clock = s.clock → (f t a).sent p (n a)) (l : List α) {t : State}
    (clock : t.clock = s.clock) : ∀ a ∈ l, (l.foldl f t).sent p (n a) := by
  induction l generalizing t with
  | nil => exact nofun
  | cons b l ih =>
    intro a ha
    rw [List.foldl_cons]
    by_cases rest : a ∈ l
    · exact ih ((lasts t b).clock.trans clock) a rest
    · obtain rfl := (List.mem_cons.mp ha).resolve_right rest
      exact State.lasts_sent (kept_foldl (P := (f t a).lasts) (fun u b k => State.lasts_trans k (lasts u b)) l
        (State.lasts_refl _)) (own t a clock)

/-- The parameters and the schedule stand under a change of matches. -/
theorem State.sameButMatches_schedule {s t : State} (h : s.sameButMatches t) :
    t.params = s.params ∧ t.schedule = s.schedule :=
  ⟨congrArg (fun k => k.2.2.2.1) h.1, congrArg (fun k => k.2.2.2.2) h.1⟩

/-- The hand-on of the parameters recomputes the effective reserve and the walk-up indication, and writes no other item of
the schedule (R158). -/
theorem State.handParams_schedule (s : State) (old : Params) : (s.handParams old).params = s.params
    ∧ (s.handParams old).schedule = { s.schedule with
        effective := reserveOf s.params.reserve s.schedule.windows, walkupsOpen := openOf s.schedule.windows } := by
  refine State.handParams_after (P := fun t => t.params = s.params ∧ t.schedule = { s.schedule with
      effective := reserveOf s.params.reserve s.schedule.windows, walkupsOpen := openOf s.schedule.windows })
    (fun t b k => ?_) (fun t b k => ?_) (fun _ k => k) ?_ old
  · obtain ⟨params, schedule⟩ := State.sameButMatches_schedule (State.edit_same t b (fun r => { r with bsection := sectionOf t.params.split b }))
    exact ⟨params.trans k.1, schedule.trans k.2⟩
  · obtain ⟨params, schedule⟩ := State.sameButMatches_schedule (State.same_fillTest t.sameButMatches_refl b)
    exact ⟨params.trans k.1, schedule.trans k.2⟩
  · have e := s.recomputeReserve_spec.1
    exact ⟨(congrArg State.params e :), (congrArg State.schedule e :)⟩

/-- The end of the windows whose time has come (R162 step 1). -/
theorem State.endDueWindows_spec (s : State) : s.endDueWindows.params = s.params
    ∧ s.endDueWindows.schedule = { s.schedule with windows := s.schedule.windows.filter (fun w => decide (s.now < w.stop)) }
    ∧ ∀ w ∈ s.schedule.windows, w.stop ≤ s.now →
        s.endDueWindows.sent .gateway (s.notice .windowEnd (.directive w.number) 1 w.endValue) := by
  have kept : s.schedule.windows.filter (fun w => !decide (w.stop ≤ s.now))
      = s.schedule.windows.filter (fun w => decide (s.now < w.stop)) :=
    List.filter_congr fun w _ => by simp only [← decide_not, Nat.not_le]
  unfold State.endDueWindows
  dsimp only
  set t := s.modSchedule (fun h => { h with windows := h.windows.filter (fun w => !decide (w.stop ≤ s.now)) }) with ht
  have still := kept_foldl (P := fun u => u.params = s.params ∧ u.schedule = t.schedule) (f := State.sayWindowEnd 1)
    (fun _ _ k => k) (s.schedule.windows.filter (fun w => decide (w.stop ≤ s.now))) (t := t) ⟨rfl, rfl⟩
  refine ⟨still.1, still.2.trans ?_, fun w hw come => ?_⟩
  · rw [← kept]
    rfl
  · refine foldl_sent (s := s) (f := State.sayWindowEnd 1) (n := fun w => s.notice .windowEnd (.directive w.number) 1 w.endValue)
      (fun u w => u.lasts_refl.notify _ _ _ _) (fun u w clock => ?_)
      (s.schedule.windows.filter (fun w => decide (w.stop ≤ s.now))) (t := t) rfl w (List.mem_filter.mpr ⟨hw, decide_eq_true come⟩)
    rw [← State.notice_of_clock clock]
    exact u.sent_notify rfl

/-- The window a window directive opens at a time (R162). -/
def State.opened (s : State) (d : Directive) : Window :=
  { number := d.number, kind := d.kind, value := d.value, start := s.now, stop := s.storedTime (s.now + d.duration.getD 0) }

theorem State.runDirective_lasts (s : State) (d : Directive) : s.lasts (s.runDirective d) := by
  have said : s.lasts (s.notify .directiveRun (.directive d.number) (d.kind.code + 1) d.runValue) := s.lasts_refl.notify _ _ _ _
  refine kept_ite ?_ (said.params _)
  exact kept_ite (((said.modSchedule _).countTime _).notify _ _ _ _) (said.notify _ _ _ _)

/-- A window directive with fewer than 8 windows active opens its window. -/
theorem State.startWindow_room (s : State) (d : Directive) (room : s.schedule.windows.length < 8) : s.startWindow d
    = ((s.modSchedule (fun h => { h with windows := insertWindow (s.opened d) h.windows })).countTime
        (s.now + d.duration.getD 0)).notify .windowStart (.directive d.number) (d.kind.code + 1) (s.opened d).stop :=
  if_pos room

theorem State.startWindow_full (s : State) (d : Directive) (full : 8 ≤ s.schedule.windows.length) :
    s.startWindow d = s.notify .windowRefused (.directive d.number) (d.kind.code + 1) (d.duration.getD 0) :=
  if_neg (Nat.not_lt.mpr full)

theorem State.startWindow_rest (s : State) (d : Directive) :
    (s.startWindow d).params = s.params ∧ (s.startWindow d).schedule.directives = s.schedule.directives := by
  rcases Nat.lt_or_ge s.schedule.windows.length 8 with room | full
  · rw [s.startWindow_room d room, State.notify_params, State.countTime_params, State.notify_schedule, State.countTime_schedule]
    exact ⟨rfl, rfl⟩
  · rw [s.startWindow_full d full]
    exact ⟨rfl, rfl⟩

theorem State.runDirective_window (s : State) (d : Directive) (h : d.kind.isWindow = true) : s.runDirective d
    = (s.notify .directiveRun (.directive d.number) (d.kind.code + 1) d.runValue).startWindow d := if_pos h

theorem State.runDirective_param (s : State) (d : Directive) (h : ¬ d.kind.isWindow = true) : s.runDirective d
    = { s.notify .directiveRun (.directive d.number) (d.kind.code + 1) d.runValue with
        params := s.params.write d.kind (d.value.getD 0) } := if_neg h

theorem DirKind.isWindow_iff (k : DirKind) : k.isWindow = true ↔ k = .reserveWindow ∨ k = .closeWalkupWindow := by
  cases k <;> simp [DirKind.isWindow]

theorem Params.write_window (q : Params) {k : DirKind} (h : k.isWindow = true) (v : Nat) : q.write k v = q := by
  rcases k.isWindow_iff.mp h with rfl | rfl <;> rfl

theorem State.runDirective_rest (s : State) (d : Directive) :
    (s.runDirective d).params = s.params.write d.kind (d.value.getD 0)
      ∧ (s.runDirective d).schedule.directives = s.schedule.directives := by
  by_cases h : d.kind.isWindow = true
  · rw [s.runDirective_window d h, Params.write_window s.params h]
    exact State.startWindow_rest _ d
  · rw [s.runDirective_param d h]
    exact ⟨rfl, rfl⟩

theorem State.runDirective_sent (s : State) (d : Directive) : (s.runDirective d).sent .gateway
    (s.notice .directiveRun (.directive d.number) (d.kind.code + 1) d.runValue) := by
  have said := s.sent_notify (p := .gateway) (k := .directiveRun) (u := .directive d.number) (d := d.kind.code + 1)
    (v := d.runValue) rfl
  by_cases h : d.kind.isWindow = true
  · rw [s.runDirective_window d h]
    refine State.lasts_sent ?_ said
    exact kept_ite ((((State.lasts_refl _).modSchedule _).countTime _).notify _ _ _ _) ((State.lasts_refl _).notify _ _ _ _)
  · rw [s.runDirective_param d h]
    exact said

/-- The run of the directives whose time has come (R162 step 2). -/
theorem State.runDue_spec (s : State) :
    s.runDue.params = (s.schedule.directives.filter (fun d => decide (d.time ≤ s.now))).foldl
        (fun q d => q.write d.kind (d.value.getD 0)) s.params
      ∧ s.runDue.schedule.directives = s.schedule.directives.filter (fun d => decide (s.now < d.time))
      ∧ ∀ d ∈ s.schedule.directives.filter (fun d => decide (d.time ≤ s.now)), s.runDue.sent .gateway
          (s.notice .directiveRun (.directive d.number) (d.kind.code + 1) d.runValue) := by
  have kept : s.schedule.directives.filter (fun d => !decide (d.time ≤ s.now))
      = s.schedule.directives.filter (fun d => decide (s.now < d.time)) :=
    List.filter_congr fun d _ => by simp only [← decide_not, Nat.not_le]
  have run : ∀ (l : List Directive) (t : State), (l.foldl State.runDirective t).params
        = l.foldl (fun q d => q.write d.kind (d.value.getD 0)) t.params
      ∧ (l.foldl State.runDirective t).schedule.directives = t.schedule.directives := by
    intro l
    induction l with
    | nil => exact fun _ => ⟨rfl, rfl⟩
    | cons d l ih =>
      intro t
      obtain ⟨params, directives⟩ := t.runDirective_rest d
      rw [List.foldl_cons, (ih _).1, (ih _).2, params, directives]
      exact ⟨rfl, rfl⟩
  obtain ⟨params, directives⟩ := run (s.schedule.directives.filter (fun d => decide (d.time ≤ s.now)))
    (s.modSchedule (fun h => { h with directives := h.directives.filter (fun d => !decide (d.time ≤ s.now)) }))
  refine ⟨params, directives.trans kept, ?_⟩
  refine foldl_sent (s := s) State.runDirective_lasts (fun t d clock => ?_) _ rfl
  rw [← State.notice_of_clock clock]
  exact t.runDirective_sent d

/-- The three steps of R162. -/
theorem State.runSchedule_spec (s : State) :
    s.runSchedule.params = (s.schedule.directives.filter (fun d => decide (d.time ≤ s.now))).foldl
        (fun q d => q.write d.kind (d.value.getD 0)) s.params
      ∧ s.runSchedule.schedule.directives = s.schedule.directives.filter (fun d => decide (s.now < d.time))
      ∧ s.runSchedule.schedule.windows = s.endDueWindows.runDue.schedule.windows
      ∧ s.runSchedule.schedule.effective = reserveOf s.runSchedule.params.reserve s.runSchedule.schedule.windows
      ∧ s.runSchedule.schedule.walkupsOpen = openOf s.runSchedule.schedule.windows
      ∧ s.endDueWindows.runDue.lasts s.runSchedule := by
  obtain ⟨endedParams, endedSchedule, -⟩ := s.endDueWindows_spec
  have clock : s.endDueWindows.now = s.now := congrArg Clock.time
    (State.endDueWindows_kept (P := s.lasts) (fun _ f k => k.modSchedule f) (fun _ a b c d k => k.notify a b c d)
      s.lasts_refl).clock
  obtain ⟨params, directives, -⟩ := s.endDueWindows.runDue_spec
  obtain ⟨handParams, handSchedule⟩ := s.endDueWindows.runDue.handParams_schedule s.params
  have lasts : s.endDueWindows.runDue.lasts s.runSchedule :=
    State.handParams_kept (P := s.endDueWindows.runDue.lasts) (fun _ k => k.recomputeReserve) (fun _ b k => k.resection b)
      (fun _ b k => k.fillTest b) (fun _ k => k.wantPass) (State.lasts_refl _) s.params
  have whole : s.runSchedule = s.endDueWindows.runDue.handParams s.params := rfl
  rw [clock, endedSchedule] at params directives
  rw [whole, handParams, handSchedule]
  rw [endedParams] at params
  exact ⟨params, directives, rfl, rfl, rfl, whole ▸ lasts⟩

theorem State.runDue_none {s : State} (h : s.schedule.directives.filter (fun d => decide (d.time ≤ s.now)) = []) :
    s.runDue.schedule.windows = s.schedule.windows := by
  unfold State.runDue
  rw [h]
  rfl

/-- A directive that runs alone meets the windows as they stand. -/
theorem State.runDue_one {s : State} {d : Directive} (h : s.schedule.directives.filter (fun d => decide (d.time ≤ s.now)) = [d]) :
    ∃ t : State, s.runDue = t.runDirective d ∧ t.schedule.windows = s.schedule.windows ∧ t.clock = s.clock := by
  unfold State.runDue
  rw [h]
  exact ⟨_, rfl, rfl, rfl⟩

theorem State.startWindow_opens (s : State) (d : Directive) (room : s.schedule.windows.length < 8) :
    (s.startWindow d).schedule.windows = insertWindow (s.opened d) s.schedule.windows ∧ (s.startWindow d).sent .gateway
      (s.notice .windowStart (.directive d.number) (d.kind.code + 1) (s.opened d).stop) := by
  rw [s.startWindow_room d room]
  constructor
  · rw [State.notify_schedule, State.countTime_schedule]
    rfl
  · generalize written : State.countTime _ _ = t
    have clock : t.clock = s.clock := written ▸ State.countTime_clock _ _
    rw [← State.notice_of_clock clock]
    exact t.sent_notify rfl

theorem State.startWindow_refused (s : State) (d : Directive) (full : 8 ≤ s.schedule.windows.length) :
    (s.startWindow d).schedule.windows = s.schedule.windows ∧ (s.startWindow d).sent .gateway
      (s.notice .windowRefused (.directive d.number) (d.kind.code + 1) (d.duration.getD 0)) := by
  rw [s.startWindow_full d full]
  exact ⟨rfl, State.sent_notify _ rfl⟩

theorem State.runDirective_opens (s : State) {d : Directive} (h : d.kind.isWindow = true)
    (room : s.schedule.windows.length < 8) :
    (s.runDirective d).schedule.windows = insertWindow (s.opened d) s.schedule.windows ∧ (s.runDirective d).sent .gateway
      (s.notice .windowStart (.directive d.number) (d.kind.code + 1) (s.opened d).stop) := by
  rw [s.runDirective_window d h]
  exact State.startWindow_opens _ d room

theorem State.runDirective_refused (s : State) {d : Directive} (h : d.kind.isWindow = true)
    (full : 8 ≤ s.schedule.windows.length) :
    (s.runDirective d).schedule.windows = s.schedule.windows ∧ (s.runDirective d).sent .gateway
      (s.notice .windowRefused (.directive d.number) (d.kind.code + 1) (d.duration.getD 0)) := by
  rw [s.runDirective_window d h]
  exact State.startWindow_refused _ d full

theorem State.runDirective_windows_param (s : State) {d : Directive} (h : ¬ d.kind.isWindow = true) :
    (s.runDirective d).schedule.windows = s.schedule.windows := by
  rw [s.runDirective_param d h]
  rfl

/-- A change of kiosk time runs the schedule on the parameters and the schedule as they were, and writes neither after
that. -/
theorem State.timeChanged_schedule (s : State) (was : Nat) : ∃ u : State, u.params = s.params ∧ u.schedule = s.schedule
    ∧ u.clock = s.clock ∧ u.runSchedule.lasts (s.timeChanged was)
    ∧ (s.timeChanged was).params = u.runSchedule.params ∧ (s.timeChanged was).schedule = u.runSchedule.schedule := by
  have expired : s.sameButMatches s.expireAll := kept_foldl (P := s.sameButMatches) (fun _ id k => State.same_expireIfDue k id) _ s.sameButMatches_refl
  have clock : s.lasts s.expireAll := kept_foldl (fun _ id k => k.expireIfDue id) _ s.lasts_refl
  obtain ⟨params, schedule⟩ := State.sameButMatches_schedule expired
  have after : s.timeChanged was = (s.expireAll.runSchedule.watchHorizon was).settle := rfl
  rw [after]
  generalize s.expireAll = u at params schedule clock ⊢
  have watched := State.same_settle (State.watchHorizon_kept (P := u.runSchedule.sameButMatches)
    (fun _ k => State.same_wantPass k) (State.sameButMatches_refl _) was)
  have lasts := (State.watchHorizon_kept (P := u.runSchedule.lasts) (fun _ k => k.wantPass) (State.lasts_refl _) was).settle
  obtain ⟨params', schedule'⟩ := State.sameButMatches_schedule watched
  exact ⟨u, params, schedule, clock.clock, lasts, params', schedule'⟩

/-! ### CLOCK_ADVANCE (R154) -/

theorem Directive.runValue_eq (d : Directive) : d.runValue
    = if d.kind = .reserveWindow ∨ d.kind = .closeWalkupWindow then d.duration.getD 0 else d.value.getD 0 := by
  simp only [Directive.runValue, DirKind.isWindow_iff]

theorem openOf_iff (ws : List Window) : openOf ws = true ↔ ∀ w ∈ ws, w.kind ≠ .closeWalkupWindow := by
  simp [openOf, List.all_eq_true]

/-- A second's claim-free part: the countdowns, and what neither they nor a change of kiosk time writes (R154). -/
theorem State.clockAdvance_lasts (s : State) : ∃ c, State.lasts { s.tickTimers with clock := c } s.clockAdvance := by
  unfold State.clockAdvance
  dsimp only
  split
  · exact ⟨_, State.timeChanged_lasts _ _⟩
  · exact ⟨_, State.lasts_refl _⟩

/-- The directives and windows after a second that moves the time on to `n` (R162, R163). -/
theorem State.timeChanged_runs (s : State) (was : Nat) :
    let t := s.timeChanged was
    let due := s.schedule.directives.filter (fun d => decide (d.time ≤ s.now))
    let kept := s.schedule.windows.filter (fun w => decide (s.now < w.stop))
    t.schedule.directives = s.schedule.directives.filter (fun d => decide (s.now < d.time))
      ∧ t.params = due.foldl (fun q d => q.write d.kind (d.value.getD 0)) s.params
      ∧ (∀ d ∈ due, t.sent .gateway (s.notice .directiveRun (.directive d.number) (d.kind.code + 1) d.runValue))
      ∧ (∀ w ∈ s.schedule.windows, w.stop ≤ s.now →
          t.sent .gateway (s.notice .windowEnd (.directive w.number) 1 w.endValue))
      ∧ (due = [] → t.schedule.windows = kept)
      ∧ (∀ d, due = [d] →
          (¬ d.kind.isWindow = true → t.schedule.windows = kept)
          ∧ (d.kind.isWindow = true → 8 ≤ kept.length → t.schedule.windows = kept
              ∧ t.sent .gateway (s.notice .windowRefused (.directive d.number) (d.kind.code + 1) (d.duration.getD 0)))
          ∧ (d.kind.isWindow = true → kept.length < 8 → ∃ w : Window, t.schedule.windows = insertWindow w kept
              ∧ (w.number, w.kind, w.value, w.start) = (d.number, d.kind, d.value, s.now)
              ∧ (s.now + d.duration.getD 0 ≤ 4294967295 → w.stop = s.now + d.duration.getD 0)
              ∧ t.sent .gateway (s.notice .windowStart (.directive d.number) (d.kind.code + 1) w.stop)))
      ∧ t.schedule.effective = reserveOf t.params.reserve t.schedule.windows
      ∧ t.schedule.walkupsOpen = openOf t.schedule.windows := by
  dsimp only
  obtain ⟨u, params, schedule, clock, lasts, tParams, tSchedule⟩ := s.timeChanged_schedule was
  generalize s.timeChanged was = t at lasts tParams tSchedule ⊢
  have now : s.now = u.now := (congrArg Clock.time clock).symm
  have notice := State.notice_of_clock clock
  simp only [← notice, now, ← params, ← schedule, tParams, tSchedule]
  obtain ⟨ranParams, ranDirectives, ranWindows, effective, walkups, ranLasts⟩ := u.runSchedule_spec
  obtain ⟨-, endedSchedule, endedSent⟩ := u.endDueWindows_spec
  have endedClock : u.endDueWindows.clock = u.clock :=
    (State.endDueWindows_kept (P := u.lasts) (fun _ f k => k.modSchedule f) (fun _ a b c d k => k.notify a b c d)
      u.lasts_refl).clock
  rw [ranWindows] at effective walkups ⊢
  generalize u.runSchedule = v at lasts ranParams ranDirectives ranWindows effective walkups ranLasts ⊢
  generalize u.endDueWindows = e at endedSchedule endedSent endedClock ranLasts effective walkups ⊢
  have lasted : e.runDue.lasts t := State.lasts_trans ranLasts lasts
  have ended : e.lasts e.runDue := State.runDue_kept (fun _ f k => k.modSchedule f) (fun _ a b c d k => k.notify a b c d)
    (fun _ q k => k.params q) (fun _ n k => k.countTime n) e.lasts_refl
  have endedDue : e.schedule.directives.filter (fun d => decide (d.time ≤ e.now))
      = u.schedule.directives.filter (fun d => decide (d.time ≤ u.now)) := by
    rw [endedSchedule, State.now, endedClock, State.now]
  have endedNotice := State.notice_of_clock endedClock
  have endedWindows : e.schedule.windows = u.schedule.windows.filter (fun w => decide (u.now < w.stop)) := by
    rw [endedSchedule]
  obtain ⟨-, -, runSent⟩ := e.runDue_spec
  rw [endedDue] at runSent
  rw [← endedWindows]
  refine ⟨ranDirectives, ranParams, fun d hd => ?_, fun w hw come => ?_, fun none => ?_, fun d one => ?_, ?_, ?_⟩
  · rw [← endedNotice]
    exact State.lasts_sent lasted (runSent d hd)
  · exact State.lasts_sent (State.lasts_trans ended lasted) (endedSent w hw come)
  · exact State.runDue_none (endedDue.trans none)
  · obtain ⟨m, ran, windows, clock⟩ := State.runDue_one (endedDue.trans one)
    have mNotice := State.notice_of_clock (clock.trans endedClock)
    have mNow : m.now = u.now := congrArg Clock.time (clock.trans endedClock)
    rw [ran] at lasted ⊢
    rw [← windows]
    refine ⟨m.runDirective_windows_param, fun window full => ?_, fun window room => ?_⟩
    · obtain ⟨still, refused⟩ := m.runDirective_refused window full
      refine ⟨still, State.lasts_sent lasted ?_⟩
      rw [← mNotice]
      exact refused
    · obtain ⟨opened, started⟩ := m.runDirective_opens window room
      refine ⟨m.opened d, opened, by rw [← mNow]; rfl, fun fits => ?_, State.lasts_sent lasted ?_⟩
      · rw [← mNow] at fits ⊢
        exact m.storedTime_eq fits
      · rw [← mNotice]
        exact started
  · exact effective
  · exact walkups

/-- Settles O59: below the largest time, `State.timeChanged_claims` and `State.timeChanged_runs` on the state with the
countdowns taken and the time moved on. -/
theorem clockAdvance : Obligations.ClockAdvance := by
  unfold Obligations.ClockAdvance
  intro s _
  dsimp only
  have exch := s.tickTimers_exch
  have rest := s.tickTimers_rest
  obtain ⟨c, lasts⟩ := s.clockAdvance_lasts
  have whole : s.clockAdvance = if s.tickTimers.clock.time < 4294967295 then
      State.timeChanged { s.tickTimers with clock := { s.tickTimers.clock with time := s.tickTimers.clock.time + 1 } }
        s.tickTimers.clock.time else s.tickTimers := rfl
  refine ⟨s.clockAdvance, rfl, ?_⟩
  generalize s.clockAdvance = t at lasts whole ⊢
  generalize s.tickTimers = k at exch rest lasts whole
  have ticks : k.grants.lasting = (s.grants.feed, s.grants.watts, s.grants.halt, s.grants.frame, s.grants.modules,
      s.grants.timer.map (fun k => k - 1)) := (congrArg (fun k => k.grants.lasting) rest :)
  have grants := lasts.grants.trans ticks
  simp only [Grants.lasting, Prod.mk.injEq] at grants
  obtain ⟨feed, watts, halt, frame, modules, timer⟩ := grants
  have bay : ∀ b, (t.bay b).lasting = (s.bay b).lasting := fun b =>
    (lasts.bays b).trans (congrArg (fun k : State => (k.bay b).lasting) rest :)
  have clock : k.clock = s.clock := (congrArg State.clock rest :)
  refine ⟨fun x => ?_, timer, feed, watts, halt, frame, modules, lasts.pending.trans (congrArg State.pending rest :),
    lasts.derate.trans (congrArg State.derate rest :), lasts.faults.trans (congrArg State.faults rest :),
    lasts.admissions.trans (congrArg State.admissions rest :), lasts.bus.trans (congrArg (fun k => k.bus.settings) rest :),
    fun b => ?_, fun stands => ?_, fun runs => ?_⟩
  · exact (congrArg (fun v => v.get x) lasts.exchanges : t.exch x = k.exch x).trans (exch x)
  · have b := bay b
    simp only [Bay.lasting, Prod.mk.injEq] at b
    exact b
  · rw [clock, if_neg (Nat.not_lt.mpr stands)] at whole
    rw [whole]
    exact ⟨clock, (congrArg State.book rest :), (congrArg State.bays rest :), (congrArg State.params rest :),
      (congrArg State.schedule rest :), (congrArg State.ports rest :)⟩
  · rw [clock, if_pos runs] at whole
    generalize hv : { k with clock := { s.clock with time := s.clock.time + 1 } } = v at whole
    have vClock : v.clock = { s.clock with time := s.clock.time + 1 } := by rw [← hv]
    have vNow : v.now = s.clock.time + 1 := congrArg Clock.time vClock
    have vBook : v.book = s.book := by rw [← hv]; exact (congrArg State.book rest :)
    have vSchedule : v.schedule = s.schedule := by rw [← hv]; exact (congrArg State.schedule rest :)
    have vParams : v.params = s.params := by rw [← hv]; exact (congrArg State.params rest :)
    have tClock : t.clock = v.clock := by rw [whole]; exact (v.timeChanged_lasts _).clock
    obtain ⟨stay, gone, left⟩ := v.timeChanged_claims s.clock.time
    obtain ⟨directives, params, runSent, endSent, none, one, effective, walkups⟩ := v.timeChanged_runs s.clock.time
    rw [← whole] at stay gone left directives params runSent endSent none one effective walkups
    simp only [State.claim?_of_book vBook, vNow] at stay gone left
    simp only [vNow, vSchedule, vParams, ← State.notice_of_clock tClock] at directives params runSent endSent none one
    refine ⟨tClock.trans vClock, stay, gone, left, directives, params, fun d hd => ?_, endSent, none, fun d hd => ?_,
      effective, ?_⟩
    · rw [← Directive.runValue_eq]
      exact runSent d hd
    · obtain ⟨still, refused, opens⟩ := one d hd
      rw [DirKind.isWindow_iff] at still refused opens
      refine ⟨still, refused, fun window room => ?_⟩
      obtain ⟨w, opened, items, stop, started⟩ := opens window room
      obtain ⟨l, r, placed, split, early, late⟩ := insertWindow_place w
        (s.schedule.windows.filter (fun w => decide (s.clock.time + 1 < w.stop)))
      have start : w.start = s.clock.time + 1 := congrArg (fun k => k.2.2.2) items
      rw [start] at early late
      exact ⟨w, l, r, opened.trans placed, split, early, late, items, stop, started⟩
    · rw [walkups]
      exact openOf_iff _

end Sys2Proof.Machine
end

section
/-! The choice of a bay (O33), and what a pass does with one WAITING claim (O34). -/

open Sys2Proof Sys2Proof.Machine
namespace Sys2Proof.Machine

/-! ### The best bay (R63) -/

/-- The bay chosen is no worse than any bay that passes. -/
theorem State.bestBay_noWorse {s : State} {ok : Bay → Bool} {b : BayNo} (h : s.bestBay ok = some b) {c : BayNo}
    (hc : ok (s.bay c) = true) : s.noWorse b c := by
  have mem : c ∈ allBays.filter (fun b => ok (s.bay b)) := List.mem_filter.mpr ⟨mem_allBays c, hc⟩
  have sorted := allBays_sorted.filter (fun b => ok (s.bay b))
  rw [State.bestBay] at h
  cases hl : allBays.filter (fun b => ok (s.bay b)) with
  | nil =>
    rw [hl] at mem
    cases mem
  | cons a l =>
    rw [hl] at mem sorted h
    obtain ⟨r, fold, -, best⟩ := s.better_foldl l a sorted
    have same : r = b := Option.some.inj (fold.symm.trans h)
    exact same ▸ best c mem

theorem State.bestBay_eq_some_iff {s : State} {ok : Bay → Bool} {b : BayNo} :
    s.bestBay ok = some b ↔ ok (s.bay b) = true ∧ ∀ c, ok (s.bay c) = true → s.noWorse b c :=
  ⟨fun h => ⟨State.bestBay_ok h, fun _ hc => State.bestBay_noWorse h hc⟩, fun ⟨hb, best⟩ => s.bestBay_some hb best⟩

/-- No bay is chosen only where none passes: of the bays that pass, the fold keeps one. -/
theorem State.bestBay_eq_none_iff {s : State} {ok : Bay → Bool} :
    s.bestBay ok = none ↔ ∀ b, ok (s.bay b) = false := by
  refine ⟨fun h b => ?_, s.bestBay_none⟩
  have sorted := allBays_sorted.filter (fun b => ok (s.bay b))
  rw [State.bestBay] at h
  cases hl : allBays.filter (fun b => ok (s.bay b)) with
  | nil => exact Bool.eq_false_iff.mpr (List.filter_eq_nil_iff.mp hl b (mem_allBays b))
  | cons a l =>
    rw [hl] at sorted h
    obtain ⟨r, fold, -⟩ := s.better_foldl l a sorted
    cases fold.symm.trans h

/-- Settles O33: the bays that pass are taken in order of bay number, and a later one is preferred only for a higher
SoC, so the bay kept is no worse than each of them. -/
theorem bestBayHighest : Obligations.BestBayHighest := by
  unfold Obligations.BestBayHighest
  exact fun s ok => ⟨fun b => State.bestBay_eq_some_iff, State.bestBay_eq_none_iff⟩

/-! ### Candidates -/

theorem Pack.serves_iff (q : Pack) (cls : PackClass) : q.serves cls = true ↔ q.cls = cls ∧ q.health ≠ .retire := by
  rw [Pack.serves, Bool.and_eq_true, Bool.not_eq_true', decide_eq_true_eq, decide_eq_false_iff_not]

/-- Candidacy item by item (R62). -/
theorem Bay.candidate_iff (r : Bay) (cls : PackClass) : r.candidate cls = true
    ↔ r.service = .inService ∧ r.link = .reachable ∧ (r.state = .charging ∨ r.state = .topped)
      ∧ (∃ q, r.pack = some q ∧ q.cls = cls ∧ q.health ≠ .retire) ∧ r.matched = none ∧ r.role = .none
      ∧ r.cause = none := by
  cases hp : r.pack with
  | none => simp [Bay.candidate, hp]
  | some q =>
    simp only [Bay.candidate, Bay.serviceable, hp, Bool.and_eq_true, Pack.serves_iff, Bay.holdsCharged_iff,
      decide_eq_true_eq, Option.isNone_iff_eq_none, Option.some.injEq, exists_eq_left', and_assoc]

theorem Bay.candidateIn_iff (r : Bay) (sec : BaySection) (c : Claim) :
    r.candidateIn sec c = true ↔ r.candidate c.cls = true ∧ r.bsection = sec := by
  rw [Bay.candidateIn, Bool.and_eq_true, decide_eq_true_eq]

theorem Bay.candidateAt_iff (r : Bay) (sec : BaySection) (c : Claim) :
    r.candidateAt sec c = true ↔ (r.candidate c.cls = true ∧ r.bsection = sec) ∧ c.level ≤ r.soc := by
  rw [Bay.candidateAt, Bool.and_eq_true, Bay.candidateIn_iff, decide_eq_true_eq]

/-- No candidate in a section is at the claim's level. -/
def State.noneAt (s : State) (sec : BaySection) (c : Claim) : Prop :=
  ∀ n, (s.bay n).candidate c.cls = true → (s.bay n).bsection = sec → (s.bay n).soc < c.level

theorem State.noneAt_of_bestBay {s : State} {sec : BaySection} {c : Claim}
    (h : s.bestBay (fun r => r.candidateAt sec c) = none) : s.noneAt sec c := fun n candidate here => by
  have fails := State.bestBay_eq_none_iff.mp h n
  rw [Bool.eq_false_iff, ne_eq, Bay.candidateAt_iff, not_and, Nat.not_le] at fails
  exact fails ⟨candidate, here⟩

/-- No candidate in the first section, so every candidate is in the other. -/
theorem State.candidates_other_of_bestBay {s : State} {sec : BaySection} {c : Claim}
    (h : s.bestBay (fun r => r.candidateIn sec c) = none) (n : BayNo) (candidate : (s.bay n).candidate c.cls = true) :
    (s.bay n).bsection = sec.other := by
  have fails := State.bestBay_eq_none_iff.mp h n
  rw [Bool.eq_false_iff, ne_eq, Bay.candidateIn_iff, not_and] at fails
  exact BaySection.eq_other (fails candidate)

/-! ### The steps of a choice (R63, R65) -/

/-- Why bay `b` is a claim's choice, step by step: each step with what it asks of the bay, and that the steps before it
found none. -/
inductive State.Chosen (s : State) (c : Claim) (b : BayNo) : MatchDetail → Prop
  | bookingOwn (booking : c.id.origin = .gateway) (here : (s.bay b).bsection = .booked) : s.Chosen c b .own
  | bookingBorrow (booking : c.id.origin = .gateway) (here : (s.bay b).bsection = .walkup)
      (near : c.due ≤ s.clock.time + s.params.horizon)
      (away : ∀ n, (s.bay n).candidate c.cls = true → (s.bay n).bsection = .walkup) : s.Chosen c b .borrow
  | walkupOwn (walkup : c.id.origin = .terminal) (here : (s.bay b).bsection = .walkup)
      (level : c.level ≤ (s.bay b).soc) : s.Chosen c b .own
  | walkupBorrow (walkup : c.id.origin = .terminal) (here : (s.bay b).bsection = .booked)
      (level : c.level ≤ (s.bay b).soc) (covered : s.covered = true) (below : s.noneAt .walkup c) :
      s.Chosen c b .borrow
  | walkupDeadline (walkup : c.id.origin = .terminal) (here : (s.bay b).bsection = .walkup)
      (below : s.noneAt .walkup c) (beyond : s.covered = true → s.noneAt .booked c) : s.Chosen c b .deadline

section
variable {s : State} {c : Claim} {b : BayNo} {d : MatchDetail}

theorem State.section_of_bestIn {sec : BaySection} (h : s.bestBay (fun r => r.candidateIn sec c) = some b) :
    (s.bay b).bsection = sec := ((Bay.candidateIn_iff _ sec c).mp (State.bestBay_ok h)).2

theorem State.section_level_of_bestAt {sec : BaySection} (h : s.bestBay (fun r => r.candidateAt sec c) = some b) :
    (s.bay b).bsection = sec ∧ c.level ≤ (s.bay b).soc := by
  obtain ⟨⟨-, here⟩, level⟩ := (Bay.candidateAt_iff _ sec c).mp (State.bestBay_ok h)
  exact ⟨here, level⟩

theorem State.chooseBooking_chosen (booking : c.id.origin = .gateway) (h : s.chooseBooking c = some (b, d)) :
    s.Chosen c b d := by
  unfold State.chooseBooking at h
  split at h
  · next own =>
    cases h
    exact .bookingOwn booking (State.section_of_bestIn own)
  · next noOwn =>
    split at h
    · next near =>
      split at h
      · next borrowed =>
        cases h
        exact .bookingBorrow booking (State.section_of_bestIn borrowed) (of_decide_eq_true near)
          (State.candidates_other_of_bestBay noOwn)
      · cases h
    · cases h

theorem State.chooseWalkup_chosen (walkup : c.id.origin = .terminal) (h : s.chooseWalkup c = some (b, d)) :
    s.Chosen c b d := by
  unfold State.chooseWalkup at h
  split at h
  · next own =>
    cases h
    obtain ⟨here, level⟩ := State.section_level_of_bestAt own
    exact .walkupOwn walkup here level
  · next noOwn =>
    have below := State.noneAt_of_bestBay noOwn
    split at h
    · next borrowed =>
      cases h
      split at borrowed
      · next covered =>
        obtain ⟨here, level⟩ := State.section_level_of_bestAt borrowed
        exact .walkupBorrow walkup here level covered below
      · cases borrowed
    · next noBorrow =>
      split at h
      · next last =>
        cases h
        refine .walkupDeadline walkup (State.section_of_bestIn last) below fun covered => ?_
        rw [if_pos covered] at noBorrow
        exact State.noneAt_of_bestBay noBorrow
      · cases h

theorem State.chooseBay_chosen (h : s.chooseBay c = some (b, d)) : s.Chosen c b d := by
  unfold State.chooseBay Claim.isBooking at h
  cases origin : c.id.origin with
  | gateway =>
    rw [origin] at h
    exact State.chooseBooking_chosen origin h
  | terminal =>
    rw [origin] at h
    exact State.chooseWalkup_chosen origin h

/-! ### The match made (R66) -/

theorem State.takeWaiting_unchosen {id : ClaimId} (hc : s.claim? id = some c) (none_ : s.chooseBay c = none) :
    s.takeWaiting id = s := by
  simp only [State.takeWaiting, hc, none_, ite_self]

theorem State.takeWaiting_chosen {id : ClaimId} (hc : s.claim? id = some c) (hw : c.state = .waiting)
    (hd : s.chooseBay c = some (b, d)) : s.takeWaiting id = s.bindClaim id b d := by
  simp only [State.takeWaiting, hc, hw, hd, if_true]

/-- Bay and claim name each other, and the READY test decides the claim's state. -/
theorem State.bindClaim_waiting {id : ClaimId} (hc : s.claim? id = some c) (hw : c.state = .waiting) (b : BayNo)
    (d : MatchDetail) :
    ((s.bindClaim id b d).bay b).matched = some id
      ∧ ∃ e, (s.bindClaim id b d).claim? id = some e ∧ e.takeBay = some b ∧ e.terms = c.terms
        ∧ e.state = (if ((s.bindClaim id b d).bay b).readyFor c.level then .ready else .matched) := by
  have bound : (s.bound id b d).claim? id = some (c.bound b) := by
    rw [State.bound_claim?, if_pos rfl, hc, Option.map_some]
  have matched : (c.bound b).state = .matched := by simp [Claim.bound, hw]
  rw [State.bindClaim_eq, State.retest_bay]
  refine ⟨(s.bound_rest id b d).1, _, State.retest_claim? bound, ?_⟩
  simp only [State.tested, matched, show (c.bound b).takeBay = some b from rfl]
  split
  · next ready => exact ⟨rfl, rfl, (if_pos ready).symm⟩
  · next unready => exact ⟨rfl, rfl, matched.trans (if_neg unready).symm⟩

end

/-- Settles O34: the choice is one of the five steps of `State.Chosen`, each of which says what the statement asks of
it; the rest is the match made. -/
theorem waitingClaimTaken : Obligations.WaitingClaimTaken := by
  unfold Obligations.WaitingClaimTaken
  intro s id c hc hw
  obtain rfl := s.claim?_id hc
  refine ⟨State.takeWaiting_unchosen hc, fun b d hd => ?_⟩
  dsimp only
  have made := State.bindClaim_waiting hc hw b d
  have same := State.same_bindClaim s.sameButMatches_refl c.id b d
  rw [State.takeWaiting_chosen hc hw hd, ← State.covered_iff]
  refine ⟨(Bay.candidate_iff _ _).mp (State.chooseBay_candidate hd), ?_⟩
  cases State.chooseBay_chosen hd with
  | bookingOwn booking here => simpa [booking, here, same] using made
  | bookingBorrow booking here near away => simpa [booking, here, near, same] using ⟨away, made⟩
  | walkupOwn walkup here level => simpa [walkup, here, level, same] using made
  | walkupBorrow walkup here level covered below => simpa [walkup, here, level, covered, same] using ⟨below, made⟩
  | walkupDeadline walkup here below beyond => simpa [walkup, here, same] using ⟨below, beyond, made⟩

end Sys2Proof.Machine
end

section
/-! What a plan holds (O37): the urgency order and the parities, the two passes as draws on the budget, the
projections. -/

open Sys2Proof Sys2Proof.Machine
namespace Sys2Proof.Machine

/-! ### The urgency order and its ranks (R83) -/

theorem State.insertUrgent_perm (s : State) (b : BayNo) (l : List BayNo) : (s.insertUrgent b l).Perm (b :: l) := by
  induction l with
  | nil => exact .refl _
  | cons c l ih =>
    rw [State.insertUrgent]
    split
    · exact .refl _
    · exact (ih.cons c).trans (.swap b c l)

/-- The order is the bays that take part, rearranged. -/
theorem State.urgencyOrder_perm (s : State) : s.urgencyOrder.Perm (allBays.filter s.takesPart) := by
  rw [State.urgencyOrder]
  induction allBays.filter s.takesPart with
  | nil => exact .refl _
  | cons b l ih => exact (s.insertUrgent_perm b _).trans (ih.cons b)

theorem State.urgencyOrder_nodup (s : State) : s.urgencyOrder.Nodup :=
  s.urgencyOrder_perm.nodup_iff.mpr (allBays_all.1.filter _)

theorem State.mem_urgencyOrder (s : State) (b : BayNo) : b ∈ s.urgencyOrder ↔ s.takesPart b = true := by
  rw [s.urgencyOrder_perm.mem_iff, List.mem_filter, and_iff_right (mem_allBays b)]

theorem rankIn_of_mem {order : List BayNo} {b : BayNo} (h : b ∈ order) :
    ∃ i, rankIn order b = some (i + 1) ∧ order[i]? = some b := by
  refine ⟨_, if_pos h, ?_⟩
  have found : order.findIdx (fun c => decide (c = b)) < order.length :=
    List.findIdx_lt_length_of_exists ⟨b, h, decide_eq_true rfl⟩
  rw [List.getElem?_eq_getElem found]
  exact congrArg some (of_decide_eq_true (List.findIdx_getElem (w := found)))

theorem rankIn_of_not_mem {order : List BayNo} {b : BayNo} (h : b ∉ order) : rankIn order b = none := if_neg h

/-! ### Parities (R84) -/

theorem sibling_sibling : ∀ b : BayNo, sibling (sibling b) = b := by decide

theorem sibling_ne : ∀ b : BayNo, sibling b ≠ b := by decide

section
variable {order : List BayNo} {b : BayNo}

theorem parityIn_of_not_mem (h : b ∉ order) : parityIn order b = .none := by
  rw [parityIn, rankIn_of_not_mem h]

theorem parityIn_alone (h : b ∈ order) (alone : sibling b ∉ order) : parityIn order b = .both := by
  obtain ⟨i, rank, -⟩ := rankIn_of_mem h
  rw [parityIn, rank, rankIn_of_not_mem alone]

/-- Two siblings in the order have different ranks, so one is EVEN and the other ODD. -/
theorem parityIn_pair (h : b ∈ order) (k : sibling b ∈ order) :
    (parityIn order b = .even ∧ parityIn order (sibling b) = .odd)
      ∨ (parityIn order b = .odd ∧ parityIn order (sibling b) = .even) := by
  obtain ⟨i, rank, here⟩ := rankIn_of_mem h
  obtain ⟨j, rank', there⟩ := rankIn_of_mem k
  have apart : i ≠ j := by
    rintro rfl
    exact sibling_ne b (Option.some.inj (there.symm.trans here))
  simp only [parityIn, sibling_sibling, rank, rank']
  rcases Nat.lt_or_gt_of_ne apart with lt | gt
  · left
    exact ⟨if_pos (by omega), if_neg (by omega)⟩
  · right
    exact ⟨if_neg (by omega), if_pos (by omega)⟩

theorem parityIn_ne_none (h : b ∈ order) : parityIn order b ≠ .none := by
  by_cases k : sibling b ∈ order
  · rcases parityIn_pair h k with ⟨e, -⟩ | ⟨e, -⟩ <;> rw [e] <;> exact nofun
  · rw [parityIn_alone h k]
    exact nofun

end

/-! ### A draw on the budget (R86, R87) -/

/-- The grants given to the bays whose parity is active. -/
def Draw.sumOf (d : Draw) (order : List BayNo) (act : Parity → Bool) : Nat :=
  (allBays.map (fun b => if act (parityIn order b) then d.given.get b else 0)).sum

/-- A grant that a plan may give a bay (R79, R80). -/
def State.grantFits (s : State) (b : BayNo) (g : Nat) : Prop :=
  g = 0 ∨ (200 ≤ g ∧ g % 50 = 0 ∧ g ≤ s.capOf b ∧ s.takesPart b = true)

/-- What each step of the two passes keeps: the grants given fit, and in each parity they and the headroom left make up
the budget. -/
structure State.Drawn (s : State) (order : List BayNo) (d : Draw) : Prop where
  fits : ∀ b, s.grantFits b (d.given.get b)
  even : d.sumOf order Parity.inEven + d.even = s.budget
  odd : d.sumOf order Parity.inOdd + d.odd = s.budget

theorem Draw.room_le_even {d : Draw} {p : Parity} (h : p.inEven = true) : d.room p ≤ d.even := by
  cases p with
  | both => exact Nat.min_le_left _ _
  | even => exact Nat.le_refl _
  | odd | none => cases h

theorem Draw.room_le_odd {d : Draw} {p : Parity} (h : p.inOdd = true) : d.room p ≤ d.odd := by
  cases p with
  | both => exact Nat.min_le_right _ _
  | odd => exact Nat.le_refl _
  | even | none => cases h

theorem Draw.take_given (d : Draw) (b : BayNo) (p : Parity) (n g : Nat) (c : BayNo) :
    (d.take b p n g).given.get c = if c = b then g else d.given.get c := by
  simp only [Draw.take, Vector.get_eq_getElem, Vector.getElem_set]
  split <;> split <;> simp_all [Fin.ext_iff]

@[simp] theorem Draw.take_even (d : Draw) (b : BayNo) (p : Parity) (n g : Nat) :
    (d.take b p n g).even = if p.inEven then d.even - n else d.even := rfl

@[simp] theorem Draw.take_odd (d : Draw) (b : BayNo) (p : Parity) (n g : Nat) :
    (d.take b p n g).odd = if p.inOdd then d.odd - n else d.odd := rfl

section
variable {s : State} {order : List BayNo} {d : Draw} {b : BayNo}

/-- A grant raised by an amount raises the sums of the parities it is active in by that amount. -/
theorem Draw.take_sumOf (p : Parity) (n : Nat) (act : Parity → Bool) :
    (d.take b p n (d.given.get b + n)).sumOf order act
      = d.sumOf order act + if act (parityIn order b) then n else 0 := by
  have sums := sum_replace allBays b (fun c => if act (parityIn order c) then d.given.get c else 0)
    (fun c => if act (parityIn order c) then (d.take b p n (d.given.get b + n)).given.get c else 0) allBays_all.1
    (mem_allBays b) fun c hc => by simp only [Draw.take_given, if_neg hc]
  simp only [Draw.take_given, if_true] at sums
  simp only [Draw.sumOf, Draw.take_given]
  by_cases active : act (parityIn order b) = true
  · simp only [active, if_true] at sums ⊢
    omega
  · simp only [active, if_false, Bool.false_eq_true] at sums ⊢
    omega

/-- The one step of both passes: a grant raised within the room its parity sees. -/
theorem State.Drawn.take (h : s.Drawn order d) {n : Nat} (room : n ≤ d.room (parityIn order b))
    (fits : s.grantFits b (d.given.get b + n)) :
    s.Drawn order (d.take b (parityIn order b) n (d.given.get b + n)) := by
  refine ⟨fun c => ?_, ?_, ?_⟩
  · rw [Draw.take_given]
    split
    · next e => exact e ▸ fits
    · exact h.fits c
  · rw [Draw.take_sumOf, ← h.even, Draw.take_even]
    split
    · next active =>
      have := room.trans (Draw.room_le_even active)
      omega
    · rw [Nat.add_zero]
  · rw [Draw.take_sumOf, ← h.odd, Draw.take_odd]
    split
    · next active =>
      have := room.trans (Draw.room_le_odd active)
      omega
    · rw [Nat.add_zero]

/-! ### The deadline pass (R86) -/

theorem State.grantFits_floor {n : Nat} (part : s.takesPart b = true) (cap : n ≤ s.capOf b) :
    s.grantFits b (grantFloor (floor50 n)) := by
  unfold State.grantFits grantFloor floor50 minGrant
  split
  · exact .inl rfl
  · exact .inr ⟨by omega, by omega, by omega, part⟩

theorem State.takesPart_cap (part : s.takesPart b = true) : 200 ≤ s.capOf b := by
  rw [State.takesPart, Bool.and_eq_true] at part
  exact of_decide_eq_true part.2

/-- The wanted rate is raised to the minimum grant only, which the cap of a bay that takes part allows. -/
theorem State.wanted_le_cap (t : Nat) (order : List BayNo) (part : s.takesPart b = true) :
    s.wanted t order b ≤ s.capOf b := by
  have cap := State.takesPart_cap part
  unfold State.wanted wantedRate minGrant
  split
  · exact Nat.zero_le _
  · dsimp only
    split
    · exact Nat.zero_le _
    · exact Nat.max_le.mpr ⟨cap, Nat.min_le_right _ _⟩

theorem State.takesPart_of_tier {r : Tier} (h : s.tier b = some r) : s.takesPart b = true := by
  unfold State.tier at h
  split at h
  · assumption
  · cases h

theorem State.deadlineStep_drawn (h : s.Drawn order d) (t : Nat) (fresh : d.given.get b = 0) :
    s.Drawn order (s.deadlineStep t order d b) := by
  unfold State.deadlineStep
  split
  · next tier =>
    have part := State.takesPart_of_tier tier
    have room := (grantFloor_le (min (s.wanted t order b) (d.room (parityIn order b)))).trans (Nat.min_le_right _ _)
    have fits := State.grantFits_floor part ((Nat.min_le_left _ (d.room (parityIn order b))).trans
      (State.wanted_le_cap t order part))
    have step := h.take room (by rwa [fresh, Nat.zero_add])
    rwa [fresh, Nat.zero_add] at step
  · exact h

theorem State.deadlineStep_given_other (t : Nat) {c : BayNo} (hc : c ≠ b) :
    (s.deadlineStep t order d b).given.get c = d.given.get c := by
  unfold State.deadlineStep
  split
  · rw [Draw.take_given, if_neg hc]
  · rfl

/-- The deadline pass over bays that have no grant yet and stand once in its list. -/
theorem State.deadlinePass_drawn (t : Nat) (l : List BayNo) (once : l.Nodup) (h : s.Drawn order d)
    (fresh : ∀ b ∈ l, d.given.get b = 0) : s.Drawn order (l.foldl (s.deadlineStep t order) d) := by
  induction l generalizing d with
  | nil => exact h
  | cons b l ih =>
    obtain ⟨hb, once⟩ := List.nodup_cons.mp once
    refine ih once (State.deadlineStep_drawn h t (fresh b List.mem_cons_self)) fun c hc => ?_
    rw [State.deadlineStep_given_other t (fun e : c = b => hb (e ▸ hc))]
    exact fresh c (List.mem_cons_of_mem b hc)

/-! ### The fill pass (R87) -/

/-- The fill pass raises a grant within cap and room, or leaves it at 0. -/
theorem State.fillStep_drawn (h : s.Drawn order d) (part : s.takesPart b = true) :
    s.Drawn order (s.fillStep order d b) := by
  have before := h.fits b
  unfold State.grantFits at before
  simp only [State.fillStep]
  generalize hg : floor50 (d.given.get b + min (s.capOf b - d.given.get b) (d.room (parityIn order b))) = g
  unfold floor50 at hg
  split
  · next small =>
    unfold minGrant at small
    have zero : d.given.get b = 0 := by omega
    have unchanged : d.given.set b.val 0 b.isLt = d.given := by
      rw [← zero, Vector.get_eq_getElem]
      exact Vector.set_getElem_self b.isLt
    rw [unchanged]
    exact h
  · next enough =>
    unfold minGrant at enough
    obtain ⟨n, rfl⟩ : ∃ n, g = d.given.get b + n := Nat.exists_eq_add_of_le (by omega)
    rw [Nat.add_sub_cancel_left]
    exact h.take (by omega) (.inr ⟨by omega, by omega, by omega, part⟩)

/-! ### The two passes -/

/-- The draw before the passes: the whole budget in both parities, and no grant. -/
def State.undrawn (s : State) : Draw := { even := s.budget, odd := s.budget, given := Vector.replicate 24 0 }

theorem State.draw_eq (s : State) (order : List BayNo) : s.draw order
    = order.foldl (s.fillStep order) (order.foldl (s.deadlineStep s.now order) s.undrawn) := rfl

theorem State.undrawn_given (s : State) (b : BayNo) : s.undrawn.given.get b = 0 := by
  rw [Vector.get_eq_getElem]
  exact Vector.getElem_replicate b.isLt

theorem State.undrawn_drawn (s : State) (order : List BayNo) : s.Drawn order s.undrawn := by
  have nothing : ∀ act, s.undrawn.sumOf order act = 0 := fun act => by
    refine List.sum_eq_zero fun n hn => ?_
    obtain ⟨b, -, rfl⟩ := List.mem_map.mp hn
    rw [s.undrawn_given, ite_self]
  refine ⟨fun b => .inl (s.undrawn_given b), ?_, ?_⟩ <;> rw [nothing, Nat.zero_add] <;> rfl

theorem State.draw_drawn (s : State) : s.Drawn s.urgencyOrder (s.draw s.urgencyOrder) := by
  have deadlines := State.deadlinePass_drawn s.now s.urgencyOrder s.urgencyOrder_nodup (s.undrawn_drawn s.urgencyOrder)
    fun b _ => s.undrawn_given b
  rw [State.draw_eq]
  exact List.foldlRecOn s.urgencyOrder _ deadlines
    fun _ h b hb => State.fillStep_drawn h ((s.mem_urgencyOrder b).mp hb)

end

/-! ### The projections (R89) -/

/-- Rounded up: enough, and by less than one divisor too much. -/
theorem ceilDiv_bounds (num : Nat) {den : Nat} (h : 0 < den) :
    num ≤ ceilDiv num den * den ∧ ceilDiv num den * den < num + den := by
  have upper := Nat.div_mul_le_self (num + den - 1) den
  have lower := Nat.lt_div_mul_add (a := num + den - 1) h
  unfold ceilDiv
  omega

theorem Parity.factor_eq (p : Parity) : p.factor = if p = .both then 1 else 2 := by cases p <;> rfl

section
variable {s : State} {b : BayNo} (t : Nat) (p : Parity) (g : Nat)

theorem State.projection_unmatched (h : s.matchedClaim b = none) : s.projection t b p g = none := by
  rw [State.projection, h]

theorem State.projection_matched (h : s.matchedClaim b ≠ none) : s.projection t b p g
    = if s.need b = 0 then some t else if g = 0 then none else some (t + chargeTime (s.need b) p.factor g) := by
  obtain ⟨c, hc⟩ := Option.ne_none_iff_exists'.mp h
  rw [State.projection, hc]

/-- A need at a grant takes its time, rounded up; a grant of one parity counts half. -/
theorem State.projection_needed (h : s.matchedClaim b ≠ none) (need : 0 < s.need b) (grant : 0 < g) :
    ∃ v, s.projection t b p g = some (t + v)
      ∧ s.need b * 3600 * (if p = .both then 1 else 2) ≤ v * g
      ∧ v * g < s.need b * 3600 * (if p = .both then 1 else 2) + g := by
  rw [← Parity.factor_eq, State.projection_matched t p g h, if_neg need.ne', if_neg grant.ne']
  exact ⟨_, rfl, ceilDiv_bounds _ grant⟩

end

/-- Settles O37: the draw that the two passes leave is `State.Drawn`, parities go by who takes part, and an entry's
other items are read off. -/
theorem planWithinBudget : Obligations.PlanWithinBudget := by
  unfold Obligations.PlanWithinBudget
  intro s
  have drawn := s.draw_drawn
  have out : ∀ b, s.takesPart b = false → b ∉ s.urgencyOrder := fun b hb => by
    rw [s.mem_urgencyOrder, hb]
    exact nofun
  have part : ∀ b, s.takesPart b = true → b ∈ s.urgencyOrder := fun b hb => (s.mem_urgencyOrder b).mpr hb
  simp only [State.plan_entry]
  refine ⟨drawn.fits, fun b hb => parityIn_of_not_mem (out b hb), fun b hb => ?_, fun b hb hs => ?_, drawn.even,
    drawn.odd, ⟨rfl, rfl, rfl, rfl, rfl⟩, fun b => ⟨rfl, rfl, rfl, rfl, ?_, fun hm => ⟨?_, ?_, ?_⟩⟩⟩
  · exact ⟨parityIn_ne_none (part b hb), fun hs => parityIn_alone (part b hb) (out _ hs)⟩
  · exact parityIn_pair (part b hb) (part _ hs)
  · exact State.projection_unmatched _ _ _
  · intro need
    exact (State.projection_matched _ _ _ hm).trans (if_pos need)
  · intro need grant
    exact (State.projection_matched _ _ _ hm).trans ((if_neg need.ne').trans (if_pos grant))
  · intro need grant
    exact State.projection_needed _ _ _ hm need grant

end Sys2Proof.Machine
end

section
/-! The urgency order (O36): keys compared as lists, the insertion that keeps the order, and a bay's rank as its position
(R83). -/

open Sys2Proof Sys2Proof.Machine
namespace Sys2Proof.Machine

/-! ### Keys -/

theorem keyBefore_cons (x y : Nat) (xs ys : List Nat) :
    keyBefore (x :: xs) (y :: ys) = true ↔ x < y ∨ (x = y ∧ keyBefore xs ys = true) := by simp [keyBefore]

theorem keyBefore_nil (xs : List Nat) : keyBefore xs [] = false := by simp [keyBefore]

/-- Keys are compared as lists are, the first difference deciding. -/
theorem keyBefore_iff (xs ys : List Nat) : keyBefore xs ys = true ↔ xs < ys := by
  induction xs generalizing ys with
  | nil => cases ys <;> simp [keyBefore]
  | cons x xs ih =>
    cases ys with
    | nil => simp [keyBefore_nil]
    | cons y ys => rw [keyBefore_cons, ih, List.cons_lt_cons_iff]

section
variable {s : State} {b c : BayNo}

theorem State.matchedClaim_of_need (h : 0 < s.need b) : ∃ m, s.matchedClaim b = some m := by
  unfold State.need at h
  split at h
  · next m _ hm => exact ⟨m, hm⟩
  · cases h

/-- The key of a deadline bay: its claim's due time and open sequence, then its number. -/
theorem State.urgencyKey_deadline (part : s.takesPart b = true) (need : 0 < s.need b) {m : Claim}
    (hm : s.matchedClaim b = some m) : s.urgencyKey b = [1, m.due, m.seq, b.val] := by
  simp [State.urgencyKey, State.tier, part, need, hm]

/-- The key of an ordinary bay: its SoC, then its number. -/
theorem State.urgencyKey_ordinary (part : s.takesPart b = true) (need : s.need b = 0) :
    s.urgencyKey b = [2, (s.bay b).soc, b.val] := by
  simp [State.urgencyKey, State.tier, part, need]

/-- R83's order of two bays: deadline bays by due time, open sequence and number, before ordinary bays by SoC and
number. -/
def State.moreUrgent (s : State) (b c : BayNo) : Prop :=
  (0 < s.need b ∧ s.need c = 0)
    ∨ (0 < s.need b ∧ 0 < s.need c ∧ ∃ m n, s.matchedClaim b = some m ∧ s.matchedClaim c = some n
        ∧ (m.due < n.due ∨ (m.due = n.due ∧ (m.seq < n.seq ∨ (m.seq = n.seq ∧ b < c)))))
    ∨ (s.need b = 0 ∧ s.need c = 0
        ∧ ((s.bay b).soc < (s.bay c).soc ∨ ((s.bay b).soc = (s.bay c).soc ∧ b < c)))

/-- Of two bays the first is the more urgent when the second's key does not stand before its own: the bay number, last in
both keys, leaves no tie. -/
theorem State.moreUrgent_of_key (hb : s.takesPart b = true) (hc : s.takesPart c = true) (ne : b ≠ c)
    (h : ¬ keyBefore (s.urgencyKey c) (s.urgencyKey b) = true) : s.moreUrgent b c := by
  have apart : b.val ≠ c.val := fun e => ne (Fin.ext e)
  unfold State.moreUrgent
  rw [Fin.lt_def]
  rcases Nat.eq_zero_or_pos (s.need b) with needB | needB
  · rw [State.urgencyKey_ordinary hb needB] at h
    rcases Nat.eq_zero_or_pos (s.need c) with needC | needC
    · rw [State.urgencyKey_ordinary hc needC] at h
      simp only [keyBefore_cons, keyBefore_nil, true_and] at h
      exact .inr (.inr ⟨needB, needC, by omega⟩)
    · obtain ⟨n, hn⟩ := State.matchedClaim_of_need needC
      rw [State.urgencyKey_deadline hc needC hn] at h
      simp [keyBefore_cons] at h
  · rcases Nat.eq_zero_or_pos (s.need c) with needC | needC
    · exact .inl ⟨needB, needC⟩
    · obtain ⟨m, hm⟩ := State.matchedClaim_of_need needB
      obtain ⟨n, hn⟩ := State.matchedClaim_of_need needC
      rw [State.urgencyKey_deadline hb needB hm, State.urgencyKey_deadline hc needC hn] at h
      simp only [keyBefore_cons, keyBefore_nil, true_and] at h
      exact .inr (.inl ⟨needB, needC, m, n, hm, hn, by omega⟩)

end

/-! ### The order -/

/-- A bay put in its place among bays in the order of their keys leaves them in order. -/
theorem State.insertUrgent_pairwise (s : State) (b : BayNo) {cs : List BayNo}
    (h : cs.Pairwise (fun c d => s.urgencyKey c ≤ s.urgencyKey d)) :
    (s.insertUrgent b cs).Pairwise (fun c d => s.urgencyKey c ≤ s.urgencyKey d) := by
  induction cs with
  | nil => exact List.pairwise_singleton _ b
  | cons c cs ih =>
    obtain ⟨first, rest⟩ := List.pairwise_cons.mp h
    rw [State.insertUrgent]
    split
    · next before =>
      rw [keyBefore_iff] at before
      refine List.pairwise_cons.mpr ⟨fun d hd => ?_, h⟩
      rcases List.mem_cons.mp hd with rfl | hd
      · exact before.le
      · exact before.le.trans (first d hd)
    · next after =>
      rw [keyBefore_iff] at after
      refine List.pairwise_cons.mpr ⟨fun d hd => ?_, ih rest⟩
      rcases List.mem_cons.mp ((s.insertUrgent_perm b cs).mem_iff.mp hd) with rfl | hd
      · exact not_lt.mp after
      · exact first d hd

theorem State.urgencyOrder_keys (s : State) :
    s.urgencyOrder.Pairwise (fun b c => s.urgencyKey b ≤ s.urgencyKey c) := by
  rw [State.urgencyOrder]
  induction allBays.filter s.takesPart with
  | nil => exact .nil
  | cons b l ih => exact s.insertUrgent_pairwise b ih

theorem State.urgencyOrder_moreUrgent (s : State) : s.urgencyOrder.Pairwise s.moreUrgent :=
  (s.urgencyOrder_keys.and s.urgencyOrder_nodup).imp_of_mem fun hb hc h =>
    State.moreUrgent_of_key ((s.mem_urgencyOrder _).mp hb) ((s.mem_urgencyOrder _).mp hc) h.2
      fun k => not_lt.mpr h.1 ((keyBefore_iff _ _).mp k)

theorem State.urgencyOrder_length (s : State) : s.urgencyOrder.length ≤ 24 :=
  s.urgencyOrder_nodup.length_le_card.trans (Fintype.card_fin 24).le

/-! ### Ranks -/

theorem rankIn_of_getElem? {order : List BayNo} (once : order.Nodup) {k : Nat} {b : BayNo} (h : order[k]? = some b) :
    rankIn order b = some (k + 1) := by
  obtain ⟨i, rank, here⟩ := rankIn_of_mem (List.mem_of_getElem? h)
  have found : i < order.length := (List.getElem?_eq_some_iff.mp here).1
  rw [rank, (List.getElem?_inj found once).mp (here.trans h.symm)]

/-- A rank is a position in the order, from 1 up to its length. -/
theorem rankIn_bounds {order : List BayNo} {b : BayNo} (h : b ∈ order) :
    ∃ k, rankIn order b = some k ∧ 1 ≤ k ∧ k ≤ order.length := by
  obtain ⟨i, rank, here⟩ := rankIn_of_mem h
  exact ⟨i + 1, rank, Nat.succ_pos i, (List.getElem?_eq_some_iff.mp here).1⟩

theorem rankIn_eq_none_iff {order : List BayNo} {b : BayNo} : rankIn order b = none ↔ b ∉ order := by
  simp [rankIn]

/-- Settles O36: the order is the insertion of the bays that take part by their keys, and a rank is a position in it. -/
theorem urgencyOrder : Obligations.UrgencyOrder := by
  unfold Obligations.UrgencyOrder
  intro s
  refine ⟨s.urgencyOrder_nodup, s.mem_urgencyOrder, s.urgencyOrder_moreUrgent, s.urgencyOrder_length,
    fun k b => rankIn_of_getElem? s.urgencyOrder_nodup, fun b => ?_⟩
  rw [rankIn_eq_none_iff, s.mem_urgencyOrder, Bool.not_eq_true]

end Sys2Proof.Machine
end

section
/-! Every step keeps the grants within the usable budget (O43): U recomputed after a change of the budget, the grants a
plan gives, and every other command through the operations of an arrival. -/

open Sys2Proof Sys2Proof.Machine
namespace Sys2Proof.Machine

/-! ### Grants within U in force, whatever the budget has become -/

/-- Two bays of a module do not both hold a grant active in one parity (R98). -/
def State.siblingsApart (s : State) : Prop :=
  ∀ b, (s.bay b).grant ≠ 0 → (s.bay (sibling b)).grant ≠ 0 →
    ¬((s.bay b).parity.inEven = true ∧ (s.bay (sibling b)).parity.inEven = true)
      ∧ ¬((s.bay b).parity.inOdd = true ∧ (s.bay (sibling b)).parity.inOdd = true)

/-- The grants are sound, and U in force covers both parities. U need not be the budget of R78: from a change of the
budget until U is recomputed it is not. -/
structure State.withinUsable (s : State) : Prop where
  sound : ∀ b, (s.bay b).grantOk
  even : s.evenSum ≤ s.grants.usable
  odd : s.oddSum ≤ s.grants.usable
  apart : s.siblingsApart

theorem State.drawOk_iff (s : State) : s.drawOk ↔ s.withinUsable ∧ s.grants.usable = s.budget :=
  ⟨fun ⟨sound, usable, even, odd, apart⟩ => ⟨⟨sound, even, odd, apart⟩, usable⟩,
    fun ⟨⟨sound, even, odd, apart⟩, usable⟩ => ⟨sound, usable, even, odd, apart⟩⟩

/-- The condition goes by the bays and U in force alone. -/
theorem State.withinUsable.still {s t : State} (h : s.withinUsable) (bays : t.bays = s.bays)
    (usable : t.grants.usable = s.grants.usable) : t.withinUsable := by
  have bay : t.bay = s.bay := funext fun b => congrArg (fun v => v.get b) bays
  obtain ⟨sound, even, odd, apart⟩ := h
  refine ⟨?_, ?_, ?_, ?_⟩
  · rw [bay]
    exact sound
  · rw [State.evenSum, bay, usable]
    exact even
  · rw [State.oddSum, bay, usable]
    exact odd
  · rw [State.siblingsApart, bay]
    exact apart

/-- A change of bay records that leaves parities and ranks, and raises no grant (R101, R102, R104). -/
def State.grantsFall (s t : State) : Prop :=
  ∀ b, (t.bay b).parity = (s.bay b).parity ∧ (t.bay b).rank = (s.bay b).rank
    ∧ GrantFall (s.bay b).grant (t.bay b).grant

/-- A bay's grant is all that is written, and it does not rise. -/
theorem State.grantsFall_of {s t : State} (h : ∀ b, t.bay b = { s.bay b with grant := (t.bay b).grant }
    ∧ GrantFall (s.bay b).grant (t.bay b).grant) : s.grantsFall t := fun b => by
  obtain ⟨rest, fall⟩ := h b
  exact ⟨(congrArg Bay.parity rest :), (congrArg Bay.rank rest :), fall⟩

section
variable {s t : State} (h : s.grantsFall t)
include h

theorem State.grantsFall.grantOk (b : BayNo) (ok : (s.bay b).grantOk) : (t.bay b).grantOk := by
  obtain ⟨parity, rank, fall⟩ := h b
  unfold Bay.grantOk at ok ⊢
  rw [parity, rank]
  rcases fall with same | ⟨less, zero | ⟨least, steps⟩⟩
  · rwa [same]
  · exact .inl zero
  · rcases ok with zero | ⟨-, -, placed⟩
    · omega
    · exact .inr ⟨least, steps, placed⟩

theorem State.grantsFall.siblingsApart (apart : s.siblingsApart) : t.siblingsApart := by
  have granted : ∀ b, (t.bay b).grant ≠ 0 → (s.bay b).grant ≠ 0 := fun b k => by
    have := (h b).2.2.le
    omega
  intro b own other
  rw [(h b).1, (h (sibling b)).1]
  exact apart b (granted b own) (granted _ other)

theorem State.grantsFall.sumOf_le (act : Parity → Bool) : t.sumOf act ≤ s.sumOf act := by
  refine sum_grants_le _ _ _ fun b => ?_
  obtain ⟨parity, -, fall⟩ := h b
  rw [parity]
  split
  · exact fall.le
  · exact Nat.le_refl _

/-- With U in force left as it is, grants that only fall stay within it. -/
theorem State.grantsFall.withinUsable (usable : t.grants.usable = s.grants.usable) (k : s.withinUsable) :
    t.withinUsable where
  sound b := h.grantOk b (k.sound b)
  even := usable ▸ (h.sumOf_le Parity.inEven).trans k.even
  odd := usable ▸ (h.sumOf_le Parity.inOdd).trans k.odd
  apart := h.siblingsApart k.apart

end

/-! ### U in force recomputed -/

section
variable {s : State}

theorem State.withinUsable.cutAll (h : s.withinUsable) : s.cutAll.withinUsable := by
  obtain ⟨rest, bays, -⟩ := s.cutAll_cutOnly
  exact (State.grantsFall_of bays).withinUsable (congrArg (fun t => t.grants.usable) rest :) h

/-- Whatever has become of the budget, U in force recomputed is the budget and covers the grants (R103, R104). -/
theorem State.withinUsable.recomputeUsable (h : s.withinUsable) : s.recomputeUsable.drawOk := by
  obtain ⟨usable, rest, -, bays, -⟩ := s.recomputeUsable_spec
  obtain ⟨even, odd⟩ := s.recomputeUsable_within h.sound h.even h.odd
  have fall := State.grantsFall_of bays
  have budget : s.recomputeUsable.budget = s.budget := (congrArg State.budget rest :)
  rw [State.drawOk_iff, budget, usable]
  exact ⟨⟨fun b => fall.grantOk b (h.sound b), usable ▸ even, usable ▸ odd, fall.siblingsApart h.apart⟩, rfl⟩

end

/-! ### The operations within an arrival -/

section
variable {s t : State} (h : s.drawOk)
include h

theorem State.drawOk.withinUsable : s.withinUsable := (s.drawOk_iff.mp h).1

/-- The condition goes by the bays, U in force and the budget alone. -/
theorem State.drawOk.still (bays : t.bays = s.bays) (usable : t.grants.usable = s.grants.usable)
    (budget : t.budget = s.budget) : t.drawOk := by
  obtain ⟨within, inForce⟩ := s.drawOk_iff.mp h
  exact t.drawOk_iff.mpr ⟨within.still bays usable, usable.trans (inForce.trans budget.symm)⟩

theorem State.drawOk.notify (k : NoticeKind) (u : Subject) (d v : Nat) : (s.notify k u d v).drawOk := h.still rfl rfl rfl

theorem State.drawOk.wantReplan : s.wantReplan.drawOk := h.still rfl rfl rfl

theorem State.drawOk.wantPass : s.wantPass.drawOk := h.still rfl rfl rfl

theorem State.drawOk.modBus (f : Bus → Bus) : (s.modBus f).drawOk := h.still rfl rfl rfl

theorem State.drawOk.faults (x : KioskFaults) : State.drawOk { s with faults := x } := h.still rfl rfl rfl

theorem State.drawOk.inner (k : s.inner t) : t.drawOk := State.inner_draw k h

/-- A change of bay records alone that leaves grants, parities and ranks. -/
theorem State.drawOk.modBay (b : BayNo) {f : Bay → Bay}
    (hf : ∀ r, (f r).grant = r.grant ∧ (f r).parity = r.parity ∧ (f r).rank = r.rank) : (s.modBay b f).drawOk := by
  obtain ⟨within, usable⟩ := s.drawOk_iff.mp h
  refine (State.drawOk_iff _).mpr ⟨State.grantsFall.withinUsable (s := s) (fun c => ?_) rfl within, usable⟩
  rw [State.modBay_bay]
  split
  · next e =>
    obtain ⟨grant, parity, rank⟩ := hf (s.bay b)
    rw [e]
    exact ⟨parity, rank, .inl grant⟩
  · exact ⟨rfl, rfl, GrantFall.refl _⟩

end

/-! ### What an entry, an edit and a role write -/

@[simp] theorem Bay.planned_grant (r : Bay) (e : PlanEntry) : (r.planned e).grant = e.grant := rfl
@[simp] theorem Bay.planned_parity (r : Bay) (e : PlanEntry) : (r.planned e).parity = e.parity := rfl
@[simp] theorem Bay.planned_rank (r : Bay) (e : PlanEntry) : (r.planned e).rank = e.rank := rfl

/-- A change of a bay record and its hand-ons: the change itself, and what an operation within an arrival may do. -/
theorem State.edit_inner (s : State) (b : BayNo) (f : Bay → Bay) : (s.modBay b f).inner (s.edit b f) := by
  rw [State.edit]
  exact State.inner_eligibilityEdge (State.inner_ite (State.inner_wantPass (State.inner_refl _)) (State.inner_refl _)) b _

theorem State.inner_giveRole {s t : State} (h : s.inner t) (r : Role) (b : Option BayNo) : s.inner (t.giveRole r b) := by
  cases b with
  | none => exact h
  | some b => exact State.inner_setRole h b r

section
variable {s : State} (h : s.drawOk)
include h

/-! ### Changes that go through the operations of an arrival -/

theorem State.drawOk.settle : s.settle.drawOk := h.inner (State.inner_settle s.inner_refl)

theorem State.drawOk.countTime (n : Nat) : (s.countTime n).drawOk := h.inner (State.inner_countTime s.inner_refl n)

theorem State.drawOk.edit (b : BayNo) {f : Bay → Bay}
    (hf : ∀ r, (f r).grant = r.grant ∧ (f r).parity = r.parity ∧ (f r).rank = r.rank) : (s.edit b f).drawOk :=
  (h.modBay b hf).inner (s.edit_inner b f)

/-! ### The feed, the halt and the modules -/

theorem State.drawOk.recomputeReserve : s.recomputeReserve.drawOk := by
  unfold State.recomputeReserve
  have written : State.withinUsable { s with schedule := { s.schedule with
      effective := reserveOf s.params.reserve s.schedule.windows, walkupsOpen := openOf s.schedule.windows } } :=
    h.withinUsable.still rfl rfl
  dsimp only
  split
  · next same => exact h.still rfl rfl (by rw [State.budget, same, State.budget])
  · exact kept_ite (P := State.drawOk) written.recomputeUsable.wantReplan written.recomputeUsable

theorem State.drawOk.halt : s.halt.drawOk := by
  have begun : (s.modGrants (fun g => { g with halt := true })).withinUsable := h.withinUsable.still rfl rfl
  unfold State.halt
  exact ((begun.cutAll.recomputeUsable.notify _ _ _ _).faults _).wantReplan

theorem State.drawOk.resume : s.resume.drawOk := by
  have begun : (s.modGrants (fun g => { g with halt := false })).withinUsable := h.withinUsable.still rfl rfl
  unfold State.resume
  exact ((begun.recomputeUsable.notify _ _ _ _).faults _).wantReplan

theorem State.drawOk.goStale : s.goStale.drawOk := by
  have begun : (s.modGrants (fun g => { g with feed := .stale, timer := none })).withinUsable := h.withinUsable.still rfl rfl
  unfold State.goStale
  split
  · exact ((begun.cutAll.recomputeUsable.notify _ _ _ _).faults _).wantReplan
  · exact h

theorem State.drawOk.reportFeed (w : Word) : (s.reportFeed w).1.drawOk := by
  have written : ((s.writeFeed (min maxFeed w.toNat)).feedCurrent).withinUsable := by
    unfold State.feedCurrent
    split <;> exact h.withinUsable.still rfl rfl
  show (State.recomputeUsable _).feedTest.drawOk
  unfold State.feedTest
  split
  · exact written.recomputeUsable
  · exact kept_ite (P := State.drawOk) written.recomputeUsable.wantReplan written.recomputeUsable

theorem State.drawOk.putModule (m : ModNo) (x : Module) : (s.putModule m x).drawOk := by
  have written : (s.modGrants (fun g => { g with modules := g.modules.set m.val x m.isLt })).drawOk := h.still rfl rfl rfl
  have recapped := kept_foldl (P := State.drawOk) (fun t b k => k.inner (State.inner_recap t.inner_refl b))
    (moduleBays m) written
  unfold State.putModule
  exact recapped.wantReplan

/-! ### The clock, the parameters and the schedule -/

theorem State.drawOk.fillTest (b : BayNo) : (s.fillTest b).drawOk := h.inner (State.inner_fillTest s.inner_refl b)

theorem State.drawOk.resection (b : BayNo) : (s.resection b).drawOk := h.edit b fun _ => ⟨rfl, rfl, rfl⟩

theorem State.drawOk.handParams (old : Params) : (s.handParams old).drawOk :=
  State.handParams_kept (fun _ k => k.recomputeReserve) (fun _ b k => k.resection b) (fun _ b k => k.fillTest b)
    (fun _ k => k.wantPass) h old

theorem State.drawOk.startWindow (d : Directive) : (s.startWindow d).drawOk := by
  have opened : ∀ w, (s.modSchedule (fun h => { h with windows := insertWindow w h.windows })).drawOk := fun _ =>
    h.still rfl rfl rfl
  exact kept_ite (P := State.drawOk) (((opened _).countTime _).notify _ _ _ _) (h.notify _ _ _ _)

theorem State.drawOk.runDirective (d : Directive) : (s.runDirective d).drawOk := by
  have said := h.notify .directiveRun (.directive d.number) (d.kind.code + 1) d.runValue
  exact kept_ite (P := State.drawOk) (said.startWindow d) (said.still rfl rfl rfl)

theorem State.drawOk.runSchedule : s.runSchedule.drawOk := by
  have ended : s.endDueWindows.drawOk := kept_foldl (P := State.drawOk) (f := State.sayWindowEnd 1)
    (fun _ _ k => k.notify _ _ _ _) _ (h.still rfl rfl rfl)
  have ran : s.endDueWindows.runDue.drawOk := kept_foldl (P := State.drawOk) (f := State.runDirective)
    (fun _ d k => k.runDirective d) _ (ended.still rfl rfl rfl)
  exact ran.handParams _

theorem State.drawOk.endAllWindows : s.endAllWindows.drawOk := by
  have ended := kept_foldl (P := State.drawOk) (f := State.sayWindowEnd 2) (fun _ _ k => k.notify _ _ _ _) s.schedule.windows
    (t := s.modSchedule (fun h => { h with windows := [] })) (h.still rfl rfl rfl)
  exact ended.recomputeReserve

theorem State.drawOk.timeChanged (was : Nat) : (s.timeChanged was).drawOk := by
  have expired : s.expireAll.drawOk := kept_foldl (P := State.drawOk)
    (fun t id k => k.inner (State.inner_expireIfDue t.inner_refl id)) _ h
  exact State.drawOk.settle (State.watchHorizon_kept (P := State.drawOk) (fun _ k => k.wantPass) expired.runSchedule was)

theorem State.drawOk.clockAdvance : s.clockAdvance.drawOk := by
  have ticked : s.tickTimers.drawOk := by
    rw [s.tickTimers_rest]
    exact h.still rfl rfl rfl
  have moved : ∀ x, State.drawOk { s.tickTimers with clock := x } := fun _ => ticked.still rfl rfl rfl
  unfold State.clockAdvance
  exact kept_ite (P := State.drawOk) ((moved _).timeChanged _) ticked

theorem State.drawOk.takeTime (new : Nat) (m : TimeMode) : (s.takeTime new m).drawOk := by
  have said : ∀ {u : State} (was : Nat) (m : TimeMode), u.drawOk → (u.sayStepped was m).drawOk := fun was m k =>
    kept_ite (P := State.drawOk) k (k.notify _ _ _ _)
  have shifted : ((s.putTime new).shiftTimes ((new : Int) - (s.now : Int))).drawOk :=
    kept_foldl (P := State.drawOk) (f := fun s x => s.modExch x (fun e => { e with start := shiftTime _ e.start }))
      (fun _ _ k => k.still rfl rfl rfl) allExchanges (h.still rfl rfl rfl)
  cases m with
  | trim => exact (said s.now .trim (u := s.putTime new) (h.still rfl rfl rfl)).timeChanged s.now
  | set => exact said s.now .set shifted
  | shift => exact said s.now .shift shifted

/-! ### The frame boundary -/

/-- A plan installed for the budget in force: its grants are sound and within it (R79, R84, R86, R87). -/
theorem State.drawOk.install (wanted : Bool) : (s.install s.plan wanted).drawOk := by
  obtain ⟨off, bays, -, -⟩ := s.install_spec s.plan wanted
  have within := planWithinBudget s
  dsimp only at within
  obtain ⟨fits, -, parities, pairs, even, odd, -, entries⟩ := within
  generalize s.install s.plan wanted = t at off bays ⊢
  have grants : t.grants = { s.grants with header := some s.plan.header, replan := false, since := 0 } :=
    (congrArg (fun k => k.2.2.1) off :)
  have schedule : t.schedule = s.schedule := (congrArg (fun k => k.2.2.2.2.2.2.2.2.2.1) off :)
  have usable : t.grants.usable = s.budget := by rw [grants]; exact (s.drawOk_iff.mp h).2
  have budget : t.budget = s.budget := by rw [State.budget, grants, schedule, State.budget]
  have grant : ∀ b, (t.bay b).grant = (s.plan.entry b).grant := fun b => by rw [bays, Bay.planned_grant]
  have parity : ∀ b, (t.bay b).parity = (s.plan.entry b).parity := fun b => by rw [bays, Bay.planned_parity]
  have part : ∀ b, (t.bay b).grant ≠ 0 → s.takesPart b = true := fun b k =>
    ((fits b).resolve_left fun zero => k ((grant b).trans zero)).2.2.2
  refine (State.drawOk_iff t).mpr ⟨⟨fun b => ?_, ?_, ?_, fun b own other => ?_⟩, usable.trans budget.symm⟩
  · rcases fits b with zero | ⟨least, steps, -, takes⟩
    · exact .inl ((grant b).trans zero)
    · obtain ⟨k, rank, low, high⟩ := rankIn_bounds ((s.mem_urgencyOrder b).mpr takes)
      unfold Bay.grantOk
      rw [grant, parity, bays, Bay.planned_rank, (entries b).2.1]
      exact .inr ⟨least, steps, (parities b takes).1, k, rank, low, high.trans s.urgencyOrder_length⟩
  · rw [usable, State.evenSum]
    simp only [grant, parity]
    exact Nat.le.intro even
  · rw [usable, State.oddSum]
    simp only [grant, parity]
    exact Nat.le.intro odd
  · rw [parity, parity]
    rcases pairs b (part b own) (part _ other) with ⟨mine, its⟩ | ⟨mine, its⟩ <;> rw [mine, its] <;>
      exact ⟨nofun, nofun⟩

theorem State.drawOk.frameBoundary : s.frameBoundary.drawOk := by
  have moved : (s.modGrants Grants.boundary).drawOk := h.still rfl rfl rfl
  exact kept_ite (P := State.drawOk) (moved.install _) moved

/-! ### The book, the bays and the exchanges -/

theorem State.drawOk.openClaim (c : Claim) (sum : Nat) : (s.openClaim c sum).1.drawOk := by
  have added : (s.addClaim c).drawOk := h.still rfl rfl rfl
  have counted : ((s.addClaim c).countTime sum).wantPass.drawOk := (added.countTime sum).wantPass
  exact counted.settle

theorem State.drawOk.openBooking (tag : Half) (cls : Byte) (level : Half) (due : Word) (hold : Half) (first : Byte) :
    (s.openBooking tag cls level due hold first).1.drawOk := by
  unfold State.openBooking
  split
  · split; · exact h
    split; · exact h
    split; · exact h
    split; · exact h
    split; · exact h
    exact h.openClaim _ _
  · exact h

theorem State.drawOk.openWalkup (tag : Half) (cls : Byte) (level : Half) : (s.openWalkup tag cls level).1.drawOk := by
  unfold State.openWalkup
  split
  · split; · exact h
    split; · exact h
    split; · exact h
    split; · exact h
    exact h.openClaim _ _
  · exact h

theorem State.drawOk.amend (c : Claim) (a : Amend) : (s.amend c a).1.drawOk := by
  have placed : ∀ cs, (s.setClaims cs).drawOk := fun _ => h.still rfl rfl rfl
  have written : (s.writeAmend c a).drawOk := kept_ite (P := State.drawOk) (placed _) ((placed _).countTime _)
  have done : ((s.writeAmend c a).amendEffects c (a.write c)).drawOk :=
    State.amendEffects_kept (P := State.drawOk) (fun _ k => k.wantReplan) (fun _ b k => k.fillTest b)
      (fun t i l k => k.inner (State.inner_unmatch t.inner_refl i l))
      (fun t i k => k.inner (State.inner_retest t.inner_refl i)) written c _
  unfold State.amend
  dsimp only
  split
  · exact done.settle
  · split
    · exact State.drawOk.settle (done.inner (State.inner_closeClaim (State.inner_refl _) _ _))
    · split <;> exact done.wantPass.settle

theorem State.drawOk.amendBooking (tag : Half) (present : Byte) (due : Word) (hold level : Half) (cls : Byte) :
    (s.amendBooking tag present due hold level cls).1.drawOk := by
  unfold State.amendBooking
  dsimp only
  split; · exact h
  split; · exact h
  split; · exact h
  split; · exact h
  exact h.amend _ _

theorem State.drawOk.cancelClaim (p : Port) (origin : Byte) (tag : Half) : (s.cancelClaim p origin tag).1.drawOk := by
  unfold State.cancelClaim
  split; · exact h
  split; · exact h
  split; · exact h
  split; · exact h
  exact (h.inner (State.inner_closeClaim s.inner_refl _ _)).settle

theorem State.drawOk.changeService (b : BayNo) (v : Service) : (s.changeService b v).drawOk := by
  have edited : (s.edit b (fun r => { r with service := v })).drawOk := h.edit b fun _ => ⟨rfl, rfl, rfl⟩
  cases v with
  | inService => exact edited.wantReplan
  | outOfService => exact edited.inner (State.inner_loseMatch (State.inner_refl _) b .service)

theorem State.drawOk.rebandRow (row : RowNo) (b : BayNo) : (State.rebandRow row s b).drawOk := by
  unfold State.rebandRow
  split
  · exact h
  · exact kept_ite (P := State.drawOk) (kept_ite (P := State.drawOk) (h.inner (State.inner_recap s.inner_refl b)) h)
      (h.inner (State.inner_rebandBay s.inner_refl b))

theorem State.drawOk.putRow (i : RowNo) (r : DerateRow) : (s.putRow i r).drawOk := by
  have written : State.drawOk { s with derate := s.derate.set i.val r i.isLt } := h.still rfl rfl rfl
  have rebanded := kept_foldl (P := State.drawOk) (f := State.rebandRow i) (fun _ b k => k.rebandRow i b) allBays written
  unfold State.putRow
  exact rebanded.wantReplan

theorem State.drawOk.startSwap (x : ExNo) (c : Claim) (intake : Option BayNo) : (s.startSwap x c intake).drawOk := by
  have swapping : ∀ e, ((s.setExch x e).modClaim c.id (fun c => { c with state := .swapping })).drawOk := fun _ =>
    h.still rfl rfl rfl
  have roles := fun e => State.inner_giveRole (State.inner_giveRole (State.inner_refl
    ((s.setExch x e).modClaim c.id (fun c => { c with state := .swapping }))) (.take x) c.takeBay) (.intake x) intake
  unfold State.startSwap
  dsimp only
  split
  · exact (swapping _).inner (State.inner_enterIntakeOpen (roles _) x _ true)
  · exact (swapping _).inner (State.inner_enterTakeOpen (roles _) x _)
  · exact (swapping _).inner (roles _)

/-! ### The bay bus -/

theorem State.drawOk.changeLink (b : BayNo) (l : Link) : (s.changeLink b l).drawOk :=
  (h.modBay b (by exact fun _ => ⟨rfl, rfl, rfl⟩)).inner (s.changeLink_inner b l)

theorem State.drawOk.loseLink (b : BayNo) : (s.loseLink b).drawOk := by
  have unmatched : ((s.changeLink b .lost).loseMatch b .link).drawOk :=
    (h.changeLink b .lost).inner (State.inner_loseMatch (State.inner_refl _) b .link)
  have dropped : (((s.changeLink b .lost).loseMatch b .link).modBus (fun u => u.dropBay b)).drawOk := unmatched.modBus _
  have followed := dropped.inner (State.inner_exchangeLinkLost (State.inner_holdAdmission (State.inner_refl _) b) b)
  exact kept_ite (P := State.drawOk) ((followed.faults _).notify _ _ _ _) followed

theorem State.drawOk.unanswered (fl : Flight) (b : BayNo) : (s.unanswered fl b).drawOk := by
  have missed : (s.modBay b Bay.miss).drawOk := h.modBay b fun _ => ⟨rfl, rfl, rfl⟩
  unfold State.unanswered
  refine kept_ite (P := State.drawOk) ((missed.modBus _).loseLink b)
    (kept_ite (P := State.drawOk) (missed.modBus _) ?_)
  split
  · exact missed.inner (State.inner_retryCommand (State.inner_refl _) _)
  · exact missed.modBus _

theorem State.drawOk.answered (fl : Flight) (b : BayNo) (rep : ShortReport) (ans : Answer) :
    (s.answered fl b rep ans).drawOk := by
  have landed : (s.modBus Bus.land).drawOk := h.modBus _
  have heard : ((s.modBus Bus.land).modBay b (fun r => { r with misses := 0 })).drawOk :=
    landed.modBay b fun _ => ⟨rfl, rfl, rfl⟩
  have linked : ((s.modBus Bus.land).answerLink b).drawOk := kept_ite (P := State.drawOk) heard (heard.changeLink b _)
  have reported := (linked.modBay b (f := fun r => r.report rep) fun _ => ⟨rfl, rfl, rfl⟩).inner
    (State.applyReport_inner _ b rep (decide ((s.bay b).link = .lost)))
  have cleared : ((((s.modBus Bus.land).answerLink b).applyReport b rep
      (decide ((s.bay b).link = .lost))).clearLinkDown b).drawOk := by
    unfold State.clearLinkDown
    split
    · exact reported
    · exact ((reported.faults _).notify _ _ _ _).modBus _
  exact cleared.inner (State.inner_takeIdentity (State.inner_refl _) _ _ _ _)

theorem State.drawOk.takeReply (ok : Bool) (a : Byte) (rep : ShortReport) (ans : Answer) :
    (s.takeReply ok a rep ans).drawOk := by
  unfold State.takeReply
  split; · exact h
  split; · exact h
  exact kept_ite (P := State.drawOk) (h.unanswered _ _).settle (kept_ite (P := State.drawOk)
    ((h.modBus _).unanswered _ _).settle (h.answered _ _ _ _).settle)

theorem State.drawOk.dispatchBus : s.dispatchBus.drawOk := by
  unfold State.dispatchBus
  split
  · exact h
  · exact h.modBus _

theorem State.drawOk.endLockAll : s.endLockAll.drawOk := by
  unfold State.endLockAll
  split
  · exact h.modBus _
  · exact h

/-- The miss counts stand in the bay records, beside the grants (R142). -/
theorem State.drawOk.clearCounts : s.clearCounts.drawOk := by
  unfold State.clearCounts
  refine State.drawOk.modBus (kept_foldl (P := State.drawOk) (fun _ b k => ?_) _ h) _
  exact k.modBay b fun _ => ⟨rfl, rfl, rfl⟩

theorem State.drawOk.takeSilence : s.takeSilence.drawOk := by
  unfold State.takeSilence
  split; · exact h
  split; · exact h
  exact (h.unanswered _ _).settle

end

/-! ### Every request and every command -/

section
variable {s : State} (h : s.drawOk)
include h

theorem State.drawOk.runRequest (p : Port) (r : Request) : (s.runRequest p r).1.drawOk := by
  have settled : ∀ {u : State}, s.inner u → u.settle.drawOk := fun k => (h.inner k).settle
  have refl := s.inner_refl
  cases r with
  | readStatus | readGrants | readDerateTable | readKioskParams => exact h
  | fetchNotices | setAttention | portClear => exact h.still rfl rfl rfl
  | readBay bays =>
    show (s.readBay bays).1.drawOk
    unfold State.readBay
    split
    · exact h
    · split <;> exact h
  | setBayService b v =>
    show (s.setBayService b v).1.drawOk
    unfold State.setBayService
    split
    · split
      · exact h
      · exact kept_ite (P := State.drawOk) h (h.changeService _ _).settle
    · exact h
  | setBayAbility b a =>
    show (s.setBayAbility b a).1.drawOk
    unfold State.setBayAbility
    split
    · exact h
    · dsimp only
      split
      · exact h
      · exact h.modBay _ fun _ => ⟨rfl, rfl, rfl⟩
  | restartBay b =>
    show (s.restartBay b).1.drawOk
    unfold State.restartBay
    split
    · exact h
    · split
      · exact h
      · exact settled (State.inner_restart refl _)
  | openBooking tag c lv due hold fi => exact h.openBooking tag c lv due hold fi
  | openWalkup tag c lv => exact h.openWalkup tag c lv
  | amendBooking tag pr due hold lv c => exact h.amendBooking tag pr due hold lv c
  | cancelClaim o tag => exact h.cancelClaim p o tag
  | readClaim o tag =>
    show (s.readClaim o tag).1.drawOk
    unfold State.readClaim
    split
    · exact h
    · split <;> exact h
  | listClaims st =>
    show (s.listClaims st).1.drawOk
    unfold State.listClaims
    split <;> exact h
  | reportFeed w => exact h.reportFeed w
  | setModule m l st =>
    show (s.setModule m l st).1.drawOk
    unfold State.setModule
    split
    · exact kept_ite (P := State.drawOk) h (h.putModule _ _)
    · exact h
  | haltCharging => exact kept_ite (P := State.drawOk) h h.halt
  | resumeCharging => exact kept_ite (P := State.drawOk) h.resume h
  | beginSwap o tag =>
    show (s.beginSwap o tag).1.drawOk
    unfold State.beginSwap
    split; · exact h
    split; · exact h
    split; · exact h
    split; · exact h
    split; · exact h
    dsimp only
    split
    all_goals
      split
      · exact h
      · exact (h.startSwap _ _ _).settle
  | abortSwap x o tag =>
    show (s.abortSwap x o tag).1.drawOk
    unfold State.abortSwap
    split
    · split; · exact h
      split; · exact h
      split; · exact h
      exact kept_ite (P := State.drawOk) h (settled (State.inner_abort refl _ _))
    · exact h
  | readExchange x =>
    show (s.readExchange x).1.drawOk
    unfold State.readExchange
    split
    · exact h
    · split <;> exact h
  | readLinkCounters => exact h.clearCounts
  | writeDerateRow r b ps pm pL =>
    show (s.writeDerateRow r b ps pm pL).1.drawOk
    unfold State.writeDerateRow
    split; · exact h
    dsimp only
    split; · exact h
    exact kept_ite (P := State.drawOk) h (h.putRow _ _).settle
  | clearBayFault b =>
    show (s.clearBayFault b).1.drawOk
    unfold State.clearBayFault
    split; · exact h
    split; · exact h
    split; · exact h
    dsimp only
    split
    · exact h
    · exact settled (State.inner_liftFault refl _ _ _)
  | setTime t =>
    show (s.setTime t).1.drawOk
    unfold State.setTime
    split
    · exact h
    · exact h
    · exact h.takeTime _ _
  | setKioskParams pr rs sb fb hz lv ft sp dc =>
    show (s.setKioskParams pr rs sb fb hz lv ft sp dc).1.drawOk
    unfold State.setKioskParams
    split
    · exact h
    · have written : State.drawOk { s with params := s.params.set pr rs sb fb hz lv ft sp dc } := h.still rfl rfl rfl
      exact kept_ite (P := State.drawOk) h (written.handParams _).settle
  | addDirective k t v d =>
    show (s.addDirective k t v d).1.drawOk
    unfold State.addDirective
    split; · exact h
    split; · exact h
    split; · exact h
    exact h.still rfl rfl rfl
  | clearDirectives k =>
    show (s.clearDirectives k).1.drawOk
    unfold State.clearDirectives
    split
    · exact h
    · exact h.still rfl rfl rfl
  | endWindows => exact h.endAllWindows
  | readSchedule l st =>
    show (s.readSchedule l st).1.drawOk
    unfold State.readSchedule
    dsimp only
    split
    · exact h
    · split <;> exact h

theorem State.drawOk.modPort (p : Port) (f : PortState → PortState) : (s.modPort p f).drawOk := h.still rfl rfl rfl

theorem State.drawOk.takeRequest (p : Port) (r : Request) : (s.takeRequest p r).drawOk := by
  unfold State.takeRequest
  refine kept_ite (P := State.drawOk) (h.modPort p _) (State.drawOk.modPort ?_ p _)
  unfold State.permitRequest
  split
  · exact h.runRequest p r
  · exact h

theorem State.drawOk.takeByte (p : Port) (b : Byte) : (s.takeByte p b).drawOk := by
  have framed : ∀ code payload, ((s.setRx p .hunting).takeFrame p code payload).drawOk := fun code payload => by
    have hunting := h.modPort p (fun q => { q with rx := .hunting })
    unfold State.takeFrame
    split
    · exact hunting.takeRequest p _
    · exact kept_ite (P := State.drawOk) (hunting.modPort p _) (hunting.modPort p _)
  have dropped : (s.abandon p).drawOk := (h.modPort p _).modPort p _
  unfold State.takeByte
  split
  · exact kept_ite (P := State.drawOk) (h.modPort p _) h
  · unfold State.growFrame
    split
    · exact h
    · refine kept_ite (P := State.drawOk) dropped (kept_ite (P := State.drawOk) ?_ (h.modPort p _))
      unfold State.endFrame
      split
      · exact kept_ite (P := State.drawOk) (framed _ _) dropped
      · exact h.modPort p _

/-- A deadline's rule acts within the arrival, in its phase, or nothing comes of it. -/
theorem State.drawOk.atDeadline (x : ExNo) (ph : Phase) {act : State → Exchange → State}
    (hact : ∀ e, s.inner (act s e)) : (s.atDeadline x ph (fun s e => (act s e).settle)).drawOk := by
  unfold State.atDeadline
  split
  · exact h
  · exact kept_ite (P := State.drawOk) (h.inner (hact _)).settle h

/-- Every command keeps the grants within the usable budget. -/
theorem exec_drawOk (c : Instr) {t : State} (e : exec c s = .next t) : t.drawOk := by
  have refl := s.inner_refl
  cases c <;> obtain rfl := Host.Outcome.next.inj e.symm
  case powerOn => exact State.reset_drawOk.still rfl rfl rfl
  case rxByte p b => exact h.takeByte p b
  case interByteGap p => exact h.modPort p _
  case replyTransmitted p => exact h.modPort p _
  case clockAdvance => exact h.clockAdvance
  case frameBoundary => exact h.frameBoundary
  case stalenessTimeout => exact h.goStale
  case intakeOpenDeadline x => exact h.atDeadline x _ (State.inner_intakeOpenExpired refl x)
  case intakeCheckDeadline x => exact h.atDeadline x _ (State.inner_intakeCheckExpired refl)
  case returnRejectedDeadline x => exact h.atDeadline x _ (State.inner_returnRejectedExpired refl x)
  case takeOpenDeadline x => exact h.atDeadline x _ (State.inner_takeOpenExpired refl x)
  case takeClosingDeadline x => exact h.atDeadline x _ (State.inner_takeClosingExpired refl x)
  case busDispatch => exact h.dispatchBus
  case lockAllSent => exact h.endLockAll
  case bayReply ok a rep ans => exact h.takeReply ok a rep ans
  case answerPeriodTimeout => exact h.takeSilence
  all_goals exact h.takeRequest _ _

end

/-- Settles O43: a step is the command at the front of the queue, and every command keeps the draw. -/
theorem stepKeepsDrawOk : Obligations.StepKeepsDrawOk := by
  unfold Obligations.StepKeepsDrawOk
  intro s t h e
  unfold step at e
  split at e
  · exact Host.Outcome.next.inj e ▸ h
  · next rest _ =>
    have waiting : State.drawOk { s with pending := rest } := h.still rfl rfl rfl
    exact exec_drawOk waiting _ e

end Sys2Proof.Machine
end

section
/-! REPORT-FEED (O39): F written, the feed CURRENT, U recomputed, the deadband test (R100, R103, R105). -/

open Sys2Proof Sys2Proof.Machine
namespace Sys2Proof.Machine

/-! ### The feed's own writes (R105) -/

/-- The feed becomes CURRENT: FEED-STALE is withdrawn when it was STALE, a plan is wanted unless it was CURRENT, and the
ports get FEED-RESTORED at most. -/
theorem State.feedCurrent_spec (s : State) :
    s.feedCurrent = { s with
        ports := s.feedCurrent.ports
        grants := { s.grants with feed := .current, replan := s.grants.replan || decide (s.grants.feed ≠ .current) }
        faults := { s.faults with feedStale := if s.grants.feed = .stale then none else s.faults.feedStale } }
      ∧ ∃ ns : List Notice, s.feedCurrent.ports = ns.foldl Ports.post s.ports := by
  unfold State.feedCurrent
  split
  · next feed =>
    refine ⟨?_, [], rfl⟩
    simp only [feed, ne_eq, not_true_eq_false, decide_false, Bool.or_false, reduceCtorEq, if_false]
    rw [← feed]
  · next feed =>
    refine ⟨?_, [], rfl⟩
    simp [feed, State.wantReplan, State.modGrants]
  · next feed =>
    refine ⟨?_, [_], rfl⟩
    simp [feed, State.wantReplan, State.modGrants, State.withdrawFeedStale, State.notify, State.post]

/-- F stands above a plan's F, and by the deadband at least (R100). -/
def Header.outgrown (h : Header) (band watts : Nat) : Bool := decide (h.feed + band ≤ watts ∧ h.feed < watts)

/-- The deadband test writes the replan flag alone. -/
theorem State.feedTest_eq (s : State) : s.feedTest = { s with grants := { s.grants with
    replan := s.grants.replan || s.grants.header.any (fun h => h.outgrown s.params.feedBand s.grants.watts) } } := by
  have test : s.feedTest = if s.grants.header.any (fun h => h.outgrown s.params.feedBand s.grants.watts) then s.wantReplan
      else s := by
    unfold State.feedTest
    cases s.grants.header with
    | none => rfl
    | some h => simp [Header.outgrown]
  rw [test]
  split
  · next risen =>
    rw [risen, Bool.or_true]
    rfl
  · next still => rw [Bool.eq_false_of_not_eq_true still, Bool.or_false]

/-- The budget with the feed CURRENT (R78). -/
theorem State.budget_of_current {s : State} (h : s.grants.feed = .current) :
    s.budget = if s.grants.halt then 0 else s.grants.watts - s.schedule.effective := by
  simp [State.budget, h]

/-! ### REPORT-FEED whole -/

/-- The state after a REPORT-FEED of `f` watts (R105). -/
def State.fed (s : State) (f : Nat) : State := ((s.writeFeed f).feedCurrent.recomputeUsable).feedTest

theorem State.reportFeed_eq (s : State) (w : Word) : s.reportFeed w = (s.fed (min maxFeed w.toNat)).reply
    (u32 (s.fed (min maxFeed w.toNat)).grants.watts ++ u8 (s.fed (min maxFeed w.toNat)).grants.feed.code
      ++ u32 (s.fed (min maxFeed w.toNat)).grants.usable ++ flagByte (s.fed (min maxFeed w.toNat)).grants.halt) := rfl

/-- What a REPORT-FEED writes: the feed's items and U in force, the replan flag, FEED-STALE, and grants that fall only
when U does (R78, R103, R105). -/
theorem State.fed_spec (s : State) (f : Nat) :
    let usable := if s.grants.halt then 0 else f - s.schedule.effective
    let u := s.fed f
    u = { s with
        bays := u.bays, ports := u.ports
        grants := { s.grants with
          watts := f, timer := some stalenessLength, feed := .current, usable := usable
          replan := s.grants.replan || decide (s.grants.feed ≠ .current) || decide (usable < s.grants.usable)
            || s.grants.header.any (fun h => h.outgrown s.params.feedBand f) }
        faults := { s.faults with feedStale := if s.grants.feed = .stale then none else s.faults.feedStale } }
      ∧ (s.grants.usable ≤ usable → u.bays = s.bays)
      ∧ (∀ b, u.bay b = { s.bay b with grant := (u.bay b).grant } ∧ GrantFall (s.bay b).grant (u.bay b).grant)
      ∧ ∃ ns : List Notice, u.ports = ns.foldl Ports.post s.ports := by
  dsimp only
  obtain ⟨current, told, currentPorts⟩ := (s.writeFeed f).feedCurrent_spec
  obtain ⟨-, rest, kept, bays, cuts, usablePorts⟩ := (s.writeFeed f).feedCurrent.recomputeUsable_spec
  rw [State.fed]
  generalize (s.writeFeed f).feedCurrent = c at current currentPorts rest kept bays usablePorts ⊢
  generalize c.ports = cPorts at current currentPorts usablePorts
  subst current
  rw [State.budget_of_current rfl] at rest kept
  generalize State.recomputeUsable _ = r at rest kept bays usablePorts ⊢
  rw [r.feedTest_eq]
  refine ⟨?_, fun k => (kept k).1, bays, told ++ cuts, ?_⟩
  · rw [rest]
    rfl
  · rw [List.foldl_append]
    exact usablePorts.trans (congrArg (List.foldl Ports.post · cuts) currentPorts)

/-- Settles O39: the state is `State.fed`, its items read off `State.fed_spec`. -/
theorem reportFeed : Obligations.ReportFeed := by
  unfold Obligations.ReportFeed
  intro w s free
  dsimp only
  generalize hf : min 96000 w.toNat = f
  have owner := s.reportFeed_eq w
  rw [show maxFeed = 96000 from rfl, hf] at owner
  obtain ⟨whole, kept, bays, ns, ports⟩ := s.fed_spec f
  generalize s.fed f = u at owner whole kept bays ports
  have watts : u.grants.watts = f := (congrArg (fun t => t.grants.watts) whole :)
  have feed : u.grants.feed = .current := (congrArg (fun t => t.grants.feed) whole :)
  have usable := (congrArg (fun t => t.grants.usable) whole :)
  have halt : u.grants.halt = s.grants.halt := (congrArg (fun t => t.grants.halt) whole :)
  have replan := (congrArg (fun t => t.grants.replan) whole :)
  dsimp only at usable replan
  refine ⟨u, ?_, ?_, kept, fun b => ⟨(bays b).1, (bays b).2.le⟩, fun k => ?_, fun h hh low risen => ?_, fun q => ?_⟩
  · refine exec_answered (.reportFeed w) free rfl (owner.trans ?_)
    rw [watts, feed, usable, halt, flagByte_eq, u32_eq_wordBytes, u32_eq_wordBytes]
    rfl
  · rw [replan]
    exact whole
  · rw [replan]
    rcases k with k | k <;> simp [k]
  · rw [replan]
    simp [hh, Header.outgrown, low, risen]
  · rw [ports]
    exact (Ports.post_all ns s.ports q).1

end Sys2Proof.Machine
end
